-- ==== Sys2Proof/Word.lean ====
section
/-! DEFINITION. Bytes and 16-bit words as the host link and the field bus carry them. -/

namespace Sys2Proof

/-- One byte of a host link frame or of a field bus telegram. -/
abbrev Byte := BitVec 8

/-- One 16-bit value of a frame: a key, an item value or a read value (section 11.7). -/
abbrev Word := BitVec 16

/-- The high byte of a word (multi-byte fields are sent high byte first, section 11.7). -/
def Word.hi (w : Word) : Byte := w.extractLsb' 8 8

/-- The low byte of a word. -/
def Word.lo (w : Word) : Byte := w.extractLsb' 0 8

/-- A word from its high and its low byte. -/
def Word.ofBytes (hi lo : Byte) : Word := hi ++ lo

end Sys2Proof
end

