-- ==== Sys2Proof/Machine/Crc.lean ====
section
/-! DEFINITION. The CRC-8 of host link frames and field bus telegrams (R2). -/

namespace Sys2Proof.Machine

/-- One bit of the CRC register: x⁸+x⁷+x⁴+x³+x+1, that is 0x9B below x⁸, most significant bit first (R2). -/
def crcBit (r : Byte) : Byte := if r.msb then (r <<< 1) ^^^ 0x9B#8 else r <<< 1

/-- One byte taken into the CRC register. -/
def crcByte (r b : Byte) : Byte :=
  crcBit (crcBit (crcBit (crcBit (crcBit (crcBit (crcBit (crcBit (r ^^^ b))))))))

/-- The CRC-8 of a byte sequence: initial value 0xFF, no final inversion (R2). -/
def crc8 (bytes : List Byte) : Byte := bytes.foldl crcByte 0xFF#8

/-- The bytes of a frame or telegram followed by their check byte (R2). -/
def withCrc (bytes : List Byte) : List Byte := bytes ++ [crc8 bytes]

/-- A frame or telegram is good when its last byte equals the CRC-8 of the bytes before it (R2). -/
def crcGood (bytes : List Byte) : Bool := bytes.getLast? == some (crc8 bytes.dropLast)

end Sys2Proof.Machine
end

