-- ==== Sys2Proof/Syntax.lean ====
section
/-! DEFINITION. The commands and events of the ZC-16: one constructor of `Instr` for each row of
spec/opcode_table.json, with the operands a host link frame, a telegram, a sample or a pin gives it. -/

namespace Sys2Proof

/-- The ten record kinds of the host link (R200, section 11.7). -/
inductive RecordKind where
  | zone | point | hold | house | clock | boiler | line | device | join | motor
  deriving DecidableEq, Repr

/-- One item slot of a WRITE or CREATE: an item code and a 16-bit value (R201). -/
structure Item where
  code  : Byte
  value : Word
  deriving DecidableEq, Repr

/-- The commands and events, in the order of spec/opcode_table.json.

A host link command stands for the frame taken at the rise of CS: its operands are the request's fields (R205,
section 11.7). `items` lists the item slots that are not empty, in their order. The events of the part's own timers
stand for the moment the timer runs out. A `received` telegram is the bytes taken in the answer time of its part of
the cycle, check byte included; a telegram not complete by the end of its part is not received (R148). How the
rows stand for events is a DESIGN CHOICE: notes/assumptions/2.md, 12.md, 24.md and 26.md. -/
inductive Instr where
  /-- RESETn held low (R207). -/
  | powerOnReset
  /-- READY sets; `tflow`, `tout`, `tcyl` are the converted readings at that moment (R100, R207). -/
  | readySet (tflow tout tcyl : Int)
  /-- A 20-byte frame whose check byte does not match (R198). -/
  | frameCrcError (bytes : List Byte)
  /-- CS rose after fewer than 20 whole bytes (R197). -/
  | shortFrame (bytes : List Byte)
  /-- The end of a frame begun while READY was low (R197). -/
  | frameWhileNotReady
  | nop
  /-- READ: kind, key, and payload bytes 0 (view), 1 (first field) and 2 (POINT zone). -/
  | read (kind : RecordKind) (key : Word) (view first zone : Byte)
  | writeZone (key : Word) (items : List Item)
  /-- WRITE of a room zone that carries ENABLE alone (R8). -/
  | enable (zone : Fin 16)
  /-- WRITE of a room zone that carries DISABLE alone (R9). -/
  | disable (zone : Fin 16)
  /-- WRITE of ZW that carries ENABLE alone (R7). -/
  | zwEnable
  /-- WRITE of ZW that carries DISABLE alone (R7). -/
  | zwDisable
  | createPoint (key : Word) (items : List Item)
  | writePoint (key : Word) (items : List Item)
  | retirePoint (key : Word) (zone : Byte)
  | createHold (items : List Item)
  | writeHold (key : Word) (items : List Item)
  | retireHold (key : Word)
  | writeHouse (key : Word) (items : List Item)
  | writeBoiler (key : Word) (items : List Item)
  | writeDevice (key : Word) (items : List Item)
  | retireDevice (key : Word)
  | retireJoin (key : Word)
  | writeMotor (key : Word) (items : List Item)
  | seek (kind : RecordKind)
  | next (view first : Byte)
  /-- ADMIT: serial in payload bytes 0..3, zone in byte 4, 255 for none (R205). -/
  | admitDevice (serial : BitVec 32) (zone : Byte)
  | setClock (time : Word)
  | setMode (mode : Byte) (countdown : Word)
  | run
  | stop
  | boilerReset
  | readNotices
  | writeNoticeEnables (mask : Word)
  | warmReset
  | minuteTick
  /-- The countdown of the hold with this handle runs out (R53). -/
  | holdCountdownExpiry (handle : Nat)
  | returnCountdownExpiry
  | hourCountAdvance
  | startListEntryExpiry
  /-- The join entry with this number reaches its age limit (R165). -/
  | joinEntryExpiry (number : Nat)
  | controlTick
  | zoneControlTick (zone : Fin 16)
  /-- One sample of the three inputs; each reading is the converted value in 0.1 °C steps (R100). -/
  | sensorSample (tflow tout tcyl : Int)
  | outdoorHoldExpiry
  | sensorRecoveryExpiry
  | tboffExpiry
  | tbonExpiry
  | waitFlowExpiry
  | lockoutAssert
  | lockoutRelease
  | lockoutResetPulseEnd
  | pumpOverrunExpiry
  | tprioExpiry
  | tgapExpiry
  | cylinderRecoveryExpiry
  | wakeInputEdge
  | cycleBegin
  | windowBoundary (window : Fin 8)
  | deviceSlotBegin (slot : Fin 48)
  | deviceSlotEnd (slot : Fin 48) (received : Option (List Byte))
  | grantTimeout (slot : Fin 48)
  | groupSlot
  | joinSlot
  | joinReq (received : List Byte)
  | overcurrent
  | lineFaultRecoveryExpiry
  | frameBegin
  | resetnRelease
  /-- A good frame answered BAD_COMMAND: its command byte and its record kind byte (R200). -/
  | badCommand (command kind : Byte)
  deriving DecidableEq, Repr

end Sys2Proof
end

