-- ==== Sys2Proof/Machine/Codes.lean ====
section
/-! DEFINITION. The command and record kind codes of the host link (section 11.7, "Codes") and which kind takes
which command (R200). -/

namespace Sys2Proof.Machine

/-- The record kind a record kind byte names; code 0x00 and codes above 0x0A name none (section 11.7). -/
def kindOf (b : Byte) : Option RecordKind :=
  match b.toNat with
  | 1 => some .zone
  | 2 => some .point
  | 3 => some .hold
  | 4 => some .house
  | 5 => some .clock
  | 6 => some .boiler
  | 7 => some .line
  | 8 => some .device
  | 9 => some .join
  | 10 => some .motor
  | _ => none

/-- The record kind byte of a kind (section 11.7). -/
def kindCode : RecordKind → Byte
  | .zone => 1
  | .point => 2
  | .hold => 3
  | .house => 4
  | .clock => 5
  | .boiler => 6
  | .line => 7
  | .device => 8
  | .join => 9
  | .motor => 10

/-- The kinds that take WRITE (R200). -/
def takesWrite : RecordKind → Bool
  | .zone | .point | .hold | .house | .boiler | .device | .motor => true
  | .clock | .line | .join => false

/-- The kinds that take CREATE (R200). -/
def takesCreate : RecordKind → Bool
  | .point | .hold => true
  | _ => false

/-- The kinds that take RETIRE (R200). -/
def takesRetire : RecordKind → Bool
  | .point | .hold | .device | .join => true
  | _ => false

/-- Checks 1 and 2 of R200, less SEEK's own check of the kind (R204): the frame is answered BAD_COMMAND. -/
def isBadCommand (command kind : Byte) : Bool :=
  match command.toNat with
  | 1 | 5 => (kindOf kind).isNone
  | 2 => !((kindOf kind).any takesWrite)
  | 3 => !((kindOf kind).any takesCreate)
  | 4 => !((kindOf kind).any takesRetire)
  | c => decide (15 < c)

end Sys2Proof.Machine
end

