-- ==== Sys2Proof/WellFormed.lean ====
section
/-! DEFINITION. Which terms of `Instr` a host link frame, a telegram or an event can spell: the operands a frame
can carry (R197, R198, R200, R201) and the keys an expiry event can name. -/

namespace Sys2Proof

/-- A frame has five item slots, and an empty slot (code 0) is no item (R201). -/
def itemsWf (items : List Item) : Bool :=
  decide (items.length ≤ 5) && items.all (fun i => i.code != 0)

/-- A WRITE of a zone that carries the enable item alone is the ENABLE or DISABLE row, not WRITE_ZONE. -/
def enableAlone (key : Word) (items : List Item) : Bool :=
  decide (key.toNat ≤ 16) && (items == [⟨16, 0⟩] || items == [⟨16, 1⟩])

/-- A frame shorter than 20 whole bytes (R197). -/
def shortWf (bytes : List Byte) : Bool := decide (bytes.length < 20)

/-- A frame of 20 bytes whose check byte does not match (R198). -/
def crcErrorWf (bytes : List Byte) : Bool := decide (bytes.length = 20) && !Machine.crcGood bytes

/-- Payload byte 2 is read as a zone by READ of POINT alone (R201). -/
def readWf (kind : RecordKind) (zone : Byte) : Bool := kind == .point || zone == 0

/-- A handle or an entry number lies in 1..65535 (R45, R163). -/
def numberWf (n : Nat) : Bool := decide (1 ≤ n) && decide (n ≤ 65535)

/-- The term is one that a frame, a telegram or an event of the part spells. -/
def Instr.wf : Instr → Bool
  | .frameCrcError bytes => crcErrorWf bytes
  | .shortFrame bytes => shortWf bytes
  | .read kind _ _ _ zone => readWf kind zone
  | .writeZone key items => itemsWf items && !enableAlone key items
  | .createPoint _ items => itemsWf items
  | .writePoint _ items => itemsWf items
  | .createHold items => itemsWf items
  | .writeHold _ items => itemsWf items
  | .writeHouse _ items => itemsWf items
  | .writeBoiler _ items => itemsWf items
  | .writeDevice _ items => itemsWf items
  | .writeMotor _ items => itemsWf items
  | .holdCountdownExpiry handle => numberWf handle
  | .joinEntryExpiry number => numberWf number
  | .badCommand command kind => Machine.isBadCommand command kind
  | _ => true

end Sys2Proof
end

