-- ==== Sys2Proof/Decode.lean ====
section
/-! DEFINITION. What the bytes of a host link frame spell (sections 11.1, 11.2, 11.7), and the frame that spells a
command. spec/opcode_table.json gives no row any bits, so `decodeTableWord` reads none. -/

namespace Sys2Proof

/-- The command that a word spells by the table's bits. No row of the table has bits (spec/98_reader.md). -/
def decodeTableWord (_nbits _w : Nat) : Option Instr := none

namespace Frame

/-- Byte `n` of a frame. -/
def byte (f : List Byte) (n : Nat) : Byte := f.getD n 0

/-- The 16-bit key or parameter in bytes 2 and 3. -/
def key (f : List Byte) : Word := Word.ofBytes (byte f 2) (byte f 3)

/-- The item slot whose code is byte `n` (R201). -/
def slot (f : List Byte) (n : Nat) : Item := ⟨byte f n, Word.ofBytes (byte f (n + 1)) (byte f (n + 2))⟩

/-- The items of a WRITE or CREATE: the slots whose code is not 0 (R201). -/
def items (f : List Byte) : List Item :=
  [slot f 4, slot f 7, slot f 10, slot f 13, slot f 16].filter (fun i => i.code != 0)

/-- A WRITE of a zone record: the ENABLE and DISABLE rows are the writes that carry the enable item alone. -/
def decodeWriteZone (k : Word) (is : List Item) : Instr :=
  if h : k.toNat < 16 ∧ is = [⟨16, 1⟩] then .enable ⟨k.toNat, h.1⟩
  else if h : k.toNat < 16 ∧ is = [⟨16, 0⟩] then .disable ⟨k.toNat, h.1⟩
  else if k = 16 ∧ is = [⟨16, 1⟩] then .zwEnable
  else if k = 16 ∧ is = [⟨16, 0⟩] then .zwDisable
  else .writeZone k is

/-- The WRITE commands by record kind. -/
def decodeWrite (kind : RecordKind) (k : Word) (is : List Item) (bad : Instr) : Instr :=
  match kind with
  | .zone => decodeWriteZone k is
  | .point => .writePoint k is
  | .hold => .writeHold k is
  | .house => .writeHouse k is
  | .boiler => .writeBoiler k is
  | .device => .writeDevice k is
  | .motor => .writeMotor k is
  | .clock | .line | .join => bad

/-- The CREATE commands by record kind; the key of a CREATE of HOLD is not read (R201). -/
def decodeCreate (kind : RecordKind) (k : Word) (is : List Item) (bad : Instr) : Instr :=
  match kind with
  | .point => .createPoint k is
  | .hold => .createHold is
  | _ => bad

/-- The RETIRE commands by record kind; POINT takes its zone in payload byte 2 (R201). -/
def decodeRetire (kind : RecordKind) (k : Word) (zone : Byte) (bad : Instr) : Instr :=
  match kind with
  | .point => .retirePoint k zone
  | .hold => .retireHold k
  | .device => .retireDevice k
  | .join => .retireJoin k
  | _ => bad

/-- A good frame's command (R200, R205): the command byte, then the record kind byte where the command names a
record, then the fields of section 11.7. -/
def decodeRequest (f : List Byte) : Instr :=
  let c := byte f 0
  let bad := Instr.badCommand c (byte f 1)
  match c.toNat with
  | 0 => .nop
  | 1 =>
    match Machine.kindOf (byte f 1) with
    | some kind => .read kind (key f) (byte f 4) (byte f 5) (if kind = .point then byte f 6 else 0)
    | none => bad
  | 2 =>
    match Machine.kindOf (byte f 1) with
    | some kind => decodeWrite kind (key f) (items f) bad
    | none => bad
  | 3 =>
    match Machine.kindOf (byte f 1) with
    | some kind => decodeCreate kind (key f) (items f) bad
    | none => bad
  | 4 =>
    match Machine.kindOf (byte f 1) with
    | some kind => decodeRetire kind (key f) (byte f 6) bad
    | none => bad
  | 5 =>
    match Machine.kindOf (byte f 1) with
    | some kind => .seek kind
    | none => bad
  | 6 => .next (byte f 4) (byte f 5)
  | 7 => .admitDevice (byte f 4 ++ byte f 5 ++ byte f 6 ++ byte f 7) (byte f 8)
  | 8 => .setClock (key f)
  | 9 => .setMode (byte f 4) (key f)
  | 10 => .run
  | 11 => .stop
  | 12 => .boilerReset
  | 13 => .readNotices
  | 14 => .writeNoticeEnables (key f)
  | 15 => .warmReset
  | _ => bad

/-- What a CS low period spells from the whole bytes shifted in (R197, R198): fewer than 20 make a short frame (no
whole byte is no frame at all, and the meaning of `shortFrame` ignores it); of more than 20 the last 20 form the
frame; a bad check byte makes a CRC error. -/
def decode (bytes : List Byte) : Instr :=
  if bytes.length < 20 then .shortFrame bytes
  else
    let f := bytes.drop (bytes.length - 20)
    if Machine.crcGood f then decodeRequest f else .frameCrcError f

/-- The bytes of one item slot. -/
def slotBytes (i : Item) : List Byte := [i.code, i.value.hi, i.value.lo]

/-- The 20 bytes of a request: command, kind, key, 15 payload bytes (filled with 0) and the check byte. -/
def request (command kind : Byte) (k : Word) (payload : List Byte) : List Byte :=
  Machine.withCrc ([command, kind, k.hi, k.lo] ++ (payload ++ List.replicate 15 0).take 15)

/-- The request of a WRITE or CREATE with its items in the first slots. -/
def itemRequest (command : Byte) (kind : RecordKind) (k : Word) (is : List Item) : List Byte :=
  request command (Machine.kindCode kind) k (is.flatMap slotBytes)

/-- The bytes that spell a host link command; none for the events of the part's other blocks and lines. -/
def encode : Instr → Option (List Byte)
  | .frameCrcError bytes => some bytes
  | .shortFrame bytes => some bytes
  | .nop => some (request 0 0 0 [])
  | .read kind k view first zone => some (request 1 (Machine.kindCode kind) k [view, first, zone])
  | .writeZone k is => some (itemRequest 2 .zone k is)
  | .enable z => some (itemRequest 2 .zone (BitVec.ofNat 16 z.val) [⟨16, 1⟩])
  | .disable z => some (itemRequest 2 .zone (BitVec.ofNat 16 z.val) [⟨16, 0⟩])
  | .zwEnable => some (itemRequest 2 .zone 16 [⟨16, 1⟩])
  | .zwDisable => some (itemRequest 2 .zone 16 [⟨16, 0⟩])
  | .writePoint k is => some (itemRequest 2 .point k is)
  | .writeHold k is => some (itemRequest 2 .hold k is)
  | .writeHouse k is => some (itemRequest 2 .house k is)
  | .writeBoiler k is => some (itemRequest 2 .boiler k is)
  | .writeDevice k is => some (itemRequest 2 .device k is)
  | .writeMotor k is => some (itemRequest 2 .motor k is)
  | .createPoint k is => some (itemRequest 3 .point k is)
  | .createHold is => some (itemRequest 3 .hold 0 is)
  | .retirePoint k zone => some (request 4 (Machine.kindCode .point) k [0, 0, zone])
  | .retireHold k => some (request 4 (Machine.kindCode .hold) k [])
  | .retireDevice k => some (request 4 (Machine.kindCode .device) k [])
  | .retireJoin k => some (request 4 (Machine.kindCode .join) k [])
  | .seek kind => some (request 5 (Machine.kindCode kind) 0 [])
  | .next view first => some (request 6 0 0 [view, first])
  | .admitDevice serial zone =>
    some (request 7 0 0 [serial.extractLsb' 24 8, serial.extractLsb' 16 8, serial.extractLsb' 8 8,
      serial.extractLsb' 0 8, zone])
  | .setClock time => some (request 8 0 time [])
  | .setMode mode countdown => some (request 9 0 countdown [mode])
  | .run => some (request 10 0 0 [])
  | .stop => some (request 11 0 0 [])
  | .boilerReset => some (request 12 0 0 [])
  | .readNotices => some (request 13 0 0 [])
  | .writeNoticeEnables mask => some (request 14 0 mask [])
  | .warmReset => some (request 15 0 0 [])
  | .badCommand command kind => some (request command kind 0 [])
  | _ => none

end Frame

end Sys2Proof
end

