-- ==== Sys2Proof/Config.lean ====
section
/-! DEFINITION. The fixed intervals of the time base (00_scope.md, "Time base and timing parameters"), in
milliseconds, and the one value the spec leaves open. -/

namespace Sys2Proof.Config

/-- One second in the model's time unit, the millisecond. -/
def second : Nat := 1000
/-- One minute. -/
def minute : Nat := 60000
/-- tMIN, the minute tick period. -/
def tMIN : Nat := 60000
/-- tCTL, the control tick period (R78). -/
def tCTL : Nat := 30000
/-- tCYC, the field bus cycle (R146). -/
def tCYC : Nat := 2000
/-- tSMP, the sensor sample period (R100). -/
def tSMP : Nat := 10000
/-- tGRANT, the grant timeout from issue (R186). -/
def tGRANT : Nat := 60000
/-- tRST, the lockout-reset pulse (R116). -/
def tRST : Nat := 5000
/-- tLFR, the line fault recovery (R143). -/
def tLFR : Nat := 10000
/-- tPOR, RESETn release to READY. -/
def tPOR : Nat := 20
/-- The outdoor hold after a TO fault (R101). -/
def outdoorHold : Nat := 60 * minute
/-- The recovery interval of TF and of TC (R102, R133). -/
def sensorRecovery : Nat := minute
/-- The WAIT FLOW report delay (R111). -/
def waitFlowDelay : Nat := 5 * minute

/-- A FREE VALUE: whether a READ shows an interval that is not a whole number of units rounded up. The spec gives
"the minutes tPRIO has run", "the minutes left of tGAP" (R138) and "the seconds left of tLFR" (R159) no rounding;
the argument is the interval in milliseconds. DESIGN CHOICE, see notes/assumptions/8.md. -/
opaque roundsUp : Nat → Bool

end Sys2Proof.Config
end

