-- ==== Sys2Proof/Machine/State.lean ====
section
/-! DEFINITION. The state of the ZC-16 block by block, the reasons a step can stop, and the state while RESETn is
held low. Temperatures, demands, positions and configuration values are integers; counts and instants (milliseconds
of the time base) are natural numbers (DESIGN CHOICE, notes/assumptions/30.md). -/

namespace Sys2Proof.Machine

/-- No command or event of the ZC-16 stops the part: the spec names no condition that does. -/
inductive Fault
  deriving DecidableEq, Repr

/-- Why a command has no meaning here. -/
inductive Refusal where
  /-- Raised by `exec` for a row of the table that is not modelled yet. Safe: nothing is claimed of it. -/
  | notModelled (mnemonic : String)
  deriving DecidableEq, Repr

/-! ### Time base -/

/-- The 32.768 kHz time base and the pending end of a reset (00_scope.md, R78, R100, R207). -/
structure TimeBase where
  /-- The model's clock, in milliseconds. -/
  now        : Nat
  /-- RESETn is high. -/
  resetn     : Bool
  /-- READY: frames are taken (R199, R207). -/
  ready      : Bool
  /-- READY is low because of a warm reset, not of RESETn (R207). -/
  warm       : Bool
  /-- The moment RESETn was released, from which tPOR runs; absent while RESETn is low. -/
  released   : Option Nat
  /-- When the next control tick is due (R78). -/
  controlAt  : Option Nat
  /-- When the next sensor sample is due; absent before the first READY (R100). -/
  sampleAt   : Option Nat
  /-- A minute tick fell due while READY was low (R23). -/
  minuteDue  : Bool
  /-- A control tick fell due while READY was low (R78). -/
  controlDue : Bool
  /-- A sample fell due while READY was low (R100). -/
  sampleDue  : Bool
  /-- The zones that were CALLING when the warm reset was taken (R22). -/
  wasCalling : List (Fin 16)
  /-- The zones whose computation the last control tick started and that have not taken it yet (R78; DEDUCED,
  notes/assumptions/7.md). -/
  ticking    : List (Fin 16)
  deriving DecidableEq, Repr

/-! ### Zone Table -/

inductive Emitter where
  | radiator | floor
  deriving DecidableEq, Repr

inductive ZoneState where
  | disabled | satisfied | calling
  deriving DecidableEq, Repr

/-- Where a room zone's effective setpoint comes from (section 1.2). -/
inductive Source where
  | hold | vacant | setback | program | default
  deriving DecidableEq, Repr

inductive TempSource where
  | room | heads | none
  deriving DecidableEq, Repr

/-- The four control fields (R4, R16): also what a pending configuration holds. -/
structure Control where
  emitter : Emitter
  weight  : Int
  kp      : Int
  ki      : Int
  deriving DecidableEq, Repr

/-- The fifteen configuration fields of a room zone (section 1.2). -/
structure ZoneConfig where
  control           : Control
  minLift           : Int
  hysteresis        : Int
  headOffset        : Int
  frostFloor        : Int
  comfortCeiling    : Int
  defaultSetpoint   : Int
  requestOn         : Int
  requestOff        : Int
  blindDemand       : Int
  deviceHoldMinutes : Int
  vacantKeep        : Bool
  deriving DecidableEq, Repr

/-- A room zone record: configuration, pending configuration and computed fields (R4, R5). -/
structure Zone where
  config     : ZoneConfig
  pending    : Option Control
  state      : ZoneState
  setpoint   : Int
  source     : Source
  /-- Zone temperature; `none` is UNKNOWN. -/
  temp       : Option Int
  tempSource : TempSource
  demand     : Int
  previous   : Int
  integral   : Int
  valves     : Nat
  sensors    : Nat
  units      : Nat
  /-- The own target of the zone's valves as its last control tick left it, 0 while DISABLED (R92; DEDUCED,
  notes/assumptions/11.md). -/
  ownTarget  : Int
  deriving DecidableEq, Repr

/-- The power-on configuration of a room zone (section 1.2, column Default). -/
def ZoneConfig.reset : ZoneConfig where
  control := { emitter := .radiator, weight := 10, kp := 25, ki := 4 }
  minLift := 8
  hysteresis := 3
  headOffset := 20
  frostFloor := 50
  comfortCeiling := 280
  defaultSetpoint := 180
  requestOn := 150
  requestOff := 50
  blindDemand := 300
  deviceHoldMinutes := 120
  vacantKeep := false

/-- A room zone after power-on (R21). -/
def Zone.reset : Zone where
  config := .reset
  pending := none
  state := .disabled
  setpoint := 180
  source := .default
  temp := none
  tempSource := .none
  demand := 0
  previous := 0
  integral := 0
  valves := 0
  sensors := 0
  units := 0
  ownTarget := 0

/-! ### Record ZW and the Cylinder Channel -/

/-- A program level or a cylinder target: OFF, or a temperature (R6, R28). -/
inductive Level where
  | off
  | deg (t : Int)
  deriving DecidableEq, Repr

inductive CylinderState where
  | disabled | idle | charging | gap | fault
  deriving DecidableEq, Repr

/-- Where ZW's effective setpoint comes from; no SETBACK (R6). -/
inductive CylinderSource where
  | hold | vacant | program | default
  deriving DecidableEq, Repr

/-- Record ZW, its cylinder configuration and the channel's timers (R6, section 7.1, R128). -/
structure Cylinder where
  state         : CylinderState
  defaultTarget : Level
  target        : Level
  source        : CylinderSource
  dhwHyst       : Int
  chargeMargin  : Int
  tPrio         : Int
  tGap          : Int
  /-- When the running tPRIO started (R131). -/
  prio          : Option Nat
  /-- When the running tGAP started (R131). -/
  gap           : Option Nat
  /-- When the running TC recovery timer started (R133). -/
  recovery      : Option Nat
  deriving DecidableEq, Repr

/-- ZW and the channel after power-on (R21, R139). -/
def Cylinder.reset : Cylinder where
  state := .disabled
  defaultTarget := .deg 500
  target := .deg 500
  source := .default
  dhwHyst := 50
  chargeMargin := 150
  tPrio := 45
  tGap := 15
  prio := none
  gap := none
  recovery := none

/-! ### Program Store -/

/-- A program point; its zone is the list it lies in (R27). -/
structure Point where
  time  : Nat
  level : Level
  deriving DecidableEq, Repr

/-- The blocks other than the Program Store that have taken the minute tick that is due already, each of which takes it
as an event of its own (R24, R41; DESIGN CHOICE, notes/assumptions/4.md). -/
structure TickTaken where
  /-- The Hold Stacks (R53). -/
  holds  : Bool
  /-- The House Mode Unit (R70). -/
  house  : Bool
  /-- The burner start list (R112). -/
  starts : Bool
  /-- The join list (R165). -/
  joins  : Bool
  deriving DecidableEq, Repr

/-- No block has taken the tick that is due. -/
def TickTaken.none : TickTaken where
  holds := false
  house := false
  starts := false
  joins := false

/-- The time-of-week clock (section 2.1). -/
structure Clock where
  /-- 0..10079, or `none` for UNSET. -/
  timeOfWeek  : Option Nat
  /-- When the next minute tick is due; absent while RESETn is low (R23). -/
  minuteAt    : Option Nat
  hourCounter : Nat
  /-- The hour counter has wrapped and the hour count advance of that tick has not been taken yet (R24, R190; DESIGN
  CHOICE, notes/assumptions/5.md). -/
  hourDue     : Bool
  /-- The blocks that have taken the minute tick that is due next. -/
  taken       : TickTaken
  deriving DecidableEq, Repr

/-! ### Hold Stacks -/

/-- The end kind, with the remaining minutes of a COUNTDOWN hold (R45). -/
inductive EndKind where
  | nextPoint
  | countdown (remaining : Nat)
  | indefinite
  deriving DecidableEq, Repr

inductive Origin where
  | link
  | device (address : Nat)
  deriving DecidableEq, Repr

/-- A hold; its zone is the stack it lies on (R44, R45). -/
structure Hold where
  handle   : Nat
  setpoint : Int
  ending   : EndKind
  origin   : Origin
  retain   : Bool
  pushed   : Nat
  deriving DecidableEq, Repr

/-- The pool and the stacks, top first, with the two counters (section 3.1). -/
structure Holds where
  stack   : Vector (List Hold) 17
  handles : Nat
  pushes  : Nat
  deriving DecidableEq, Repr

/-! ### House Mode Unit -/

inductive Mode where
  | occupied | setback | vacant
  deriving DecidableEq, Repr

inductive WakeCause where
  | link
  | return
  | presence (address : Nat)
  | input
  deriving DecidableEq, Repr

/-- The house record (table 4.1). -/
structure House where
  mode           : Mode
  countdown      : Option Nat
  wakeReturn     : Bool
  wakePresence   : Bool
  wakeInput      : Bool
  disarmOnWake   : Bool
  lastCause      : Option WakeCause
  setbackOffset  : Int
  vacantSetpoint : Int
  deriving DecidableEq, Repr

/-- The house record after power-on (R64). -/
def House.reset : House where
  mode := .occupied
  countdown := none
  wakeReturn := true
  wakePresence := true
  wakeInput := true
  disarmOnWake := true
  lastCause := none
  setbackOffset := 30
  vacantSetpoint := 100

/-! ### Boiler Controller -/

/-- The eighteen fields of the boiler record (section 6.2). -/
structure BoilerConfig where
  curveSlope      : Int
  boostMax        : Int
  shift           : Int
  flowMin         : Int
  flowMax         : Int
  floorMax        : Int
  kmod            : Int
  modMin          : Int
  onDiff          : Int
  offDiff         : Int
  tBon            : Int
  tBoff           : Int
  tOvr            : Int
  startsLimit     : Int
  frostOut        : Int
  outdoorFallback : Int
  bypassZone      : Option (Fin 16)
  minflowPct      : Int
  deriving DecidableEq, Repr

inductive SensorStatus where
  | ok | fault
  deriving DecidableEq, Repr

/-- One thermistor input: the last OK value since power-on and the status of the last sample (R100). -/
structure Sensor where
  value  : Option Int
  status : Option SensorStatus
  deriving DecidableEq, Repr

inductive WaitReason where
  | starts | flow
  deriving DecidableEq, Repr

/-- The burner states of section 6.5. -/
inductive Burner where
  | off
  | ready
  | wait (reason : WaitReason)
  | firing
  | lockedOut
  | sensorFault
  deriving DecidableEq, Repr

/-- The pump states; OVERRUN carries the start of tOVR (R119). -/
inductive Pump where
  | stopped
  | running
  | overrun (since : Nat)
  deriving DecidableEq, Repr

/-- The Boiler Controller. Outputs and F, L, M are functions of the state (Flags.lean, Evaluate.lean). -/
structure Boiler where
  config      : BoilerConfig
  tf          : Sensor
  tout        : Sensor
  tc          : Sensor
  /-- When the running outdoor hold began (R101). -/
  outdoorHold : Option Nat
  burner      : Burner
  /-- The burner's last stop (R110). -/
  lastStop    : Nat
  /-- When the minimum on time of the present run began; absent once it has run out (R113). -/
  minOn       : Option Nat
  /-- When the unbroken WAIT FLOW stretch began; absent once reported (R111). -/
  waitFlow    : Option Nat
  /-- When the running TF recovery timer started (R102). -/
  recovery    : Option Nat
  /-- Ages in minutes of the burner starts, oldest first (R112). -/
  startList   : List Nat
  attempts    : Nat
  /-- When the running lockout-reset pulse started (R116). -/
  pulse       : Option Nat
  pump        : Pump
  /-- Bypass forcing is in force (R122). -/
  forcing     : Bool
  /-- The result of the reported check as it was last evaluated, or as it stood out of force where it has not been since;
  `none` while the check is not in force, when it passes (R120, R121). -/
  reported    : Option Bool
  /-- The level of the LOCKOUT input: asserted (DESIGN CHOICE, notes/assumptions/25.md). -/
  lockoutPin  : Bool
  deriving DecidableEq, Repr

/-- The boiler configuration after power-on (section 6.2, column Default). -/
def BoilerConfig.reset : BoilerConfig where
  curveSlope := 14
  boostMax := 80
  shift := 0
  flowMin := 250
  flowMax := 750
  floorMax := 450
  kmod := 8
  modMin := 20
  onDiff := 50
  offDiff := 50
  tBon := 4
  tBoff := 5
  tOvr := 3
  startsLimit := 6
  frostOut := 30
  outdoorFallback := 0
  bypassZone := none
  minflowPct := 20

/-- An input that has had no sample since power-on (R125). -/
def Sensor.unread : Sensor := { value := none, status := none }

/-- The Boiler Controller after power-on (R125). -/
def Boiler.reset : Boiler where
  config := .reset
  tf := .unread
  tout := .unread
  tc := .unread
  outdoorHold := none
  burner := .off
  lastStop := 0
  minOn := none
  waitFlow := none
  recovery := none
  startList := []
  attempts := 0
  pulse := none
  pump := .stopped
  forcing := false
  reported := none
  lockoutPin := false

/-! ### Field Bus Controller -/

inductive Line where
  | stopped | starting | running | lineFault
  deriving DecidableEq, Repr

/-- The parts of a cycle (section 8.2). -/
inductive Part where
  | beacon
  | slot (s : Fin 48)
  | group
  | join
  deriving DecidableEq, Repr

/-- The place of a part in the order of the timeline. -/
def Part.index : Part → Nat
  | .beacon => 0
  | .slot s => s.val + 1
  | .group => 49
  | .join => 50

/-- The telegrams the controller sends (section 8.3). -/
inductive Telegram where
  | beacon (cycle : Nat)
  | poll (address echo group : Nat)
  | move (address : Nat) (target : Int) (exercise : Bool)
  | release (address : Nat)
  | announce (group : Nat) (setpoint : Int) (temp : Option Int) (calling : Bool) (mode : Mode)
  | invite
  | assign (serial : BitVec 32) (address : Nat)
  deriving DecidableEq, Repr

/-- The three kinds of partner. -/
inductive DeviceKind where
  | valveHead | roomSensor | roomUnit
  deriving DecidableEq, Repr

/-- A join list entry (section 9.3). -/
structure JoinEntry where
  number    : Nat
  serial    : BitVec 32
  kind      : DeviceKind
  sightings : Nat
  age       : Nat
  deriving DecidableEq, Repr

/-- The Field Bus Controller (R140, R146, R155, R163). -/
structure Bus where
  line       : Line
  cycle      : Nat
  /-- Cycles begun in the present STARTING (R142). -/
  starting   : Nat
  /-- When the running tLFR started (R143). -/
  recovery   : Option Nat
  /-- When the cycle in progress began. -/
  cycleStart : Nat
  /-- The part of the cycle in progress. -/
  part       : Part
  /-- The first window whose boundary has not been handed over in this cycle (R147). -/
  window     : Nat
  /-- The slot whose answer is awaited (R150). -/
  answer     : Option (Fin 48)
  /-- The join slot carried INVITE and waits for a JOIN_REQ (R158). -/
  invited    : Bool
  /-- The telegram the controller sends in the part in progress; `none` is silence. -/
  sent       : Option Telegram
  /-- The announcement queue, head first (R155). -/
  announce   : List (Fin 16)
  /-- The join list, oldest first (R163). -/
  joins      : List JoinEntry
  /-- The last entry number issued (R163). -/
  lastEntry  : Nat
  deriving DecidableEq, Repr

/-- The Field Bus Controller after power-on (R160, R163). -/
def Bus.reset : Bus where
  line := .stopped
  cycle := 0
  starting := 0
  recovery := none
  cycleStart := 0
  part := .beacon
  window := 0
  answer := none
  invited := false
  sent := none
  announce := []
  joins := []
  lastEntry := 0

/-! ### Device Registry and Motor Arbiter -/

inductive DeviceState where
  | admitted | active | stale | lost | faulted | retiring
  deriving DecidableEq, Repr

inductive MotorState where
  | idle | running | stalled
  deriving DecidableEq, Repr

inductive RunKind where
  | position | exercise
  deriving DecidableEq, Repr

inductive Class where
  | urgent | normal
  deriving DecidableEq, Repr

inductive Phase where
  | none | opening
  deriving DecidableEq, Repr

/-- A grant: SCHEDULED until its MOVE is sent, then RUNNING (section 10.3). -/
structure Grant where
  running : Bool
  target  : Int
  kind    : RunKind
  cls     : Class
  issued  : Nat
  /-- A RUNNING report has been taken since the MOVE (R184). -/
  mark    : Bool
  deriving DecidableEq, Repr

/-- A next target with the class of its hand (R187). -/
structure NextTarget where
  target : Int
  cls    : Class
  deriving DecidableEq, Repr

/-- A device record; its slot is its place in the registry (table 9.1). -/
structure Device where
  serial        : BitVec 32
  kind          : DeviceKind
  zone          : Option (Fin 16)
  state         : DeviceState
  lastTemp      : Option Int
  misses        : Nat
  bad           : Nat
  lastSeq       : Nat
  commanded     : Option Int
  target        : Int
  reported      : Option Int
  motor         : MotorState
  /-- The grant held; grant state QUEUED is having an entry in the motor queue (R179). -/
  grant         : Option Grant
  next          : Option NextTarget
  failureRun    : Nat
  exerciseAge   : Nat
  exercisePhase : Phase
  /-- Admitted in the cycle in progress: its slot is served as a free slot until the next cycle (R161). -/
  fresh         : Bool
  deriving DecidableEq, Repr

/-- The Device Registry (R161, R168). -/
structure Registry where
  devices    : Vector (Option Device) 48
  /-- The admission order, oldest first. -/
  order      : List (Fin 48)
  /-- The record last sent an ASSIGN. -/
  lastAssign : Option (Fin 48)
  deriving DecidableEq, Repr

/-- An entry of the motor queue (section 10.2). -/
structure Entry where
  slot   : Fin 48
  kind   : RunKind
  target : Int
  cls    : Class
  deriving DecidableEq, Repr

/-- The Motor Arbiter (R177). -/
structure Motor where
  tokenLimit   : Int
  exerciseHour : Int
  queue        : List Entry
  outstanding  : Nat
  grantFlag    : Bool
  deriving DecidableEq, Repr

/-- The Motor Arbiter after power-on (R195). -/
def Motor.reset : Motor where
  tokenLimit := 3
  exerciseHour := 3
  queue := []
  outstanding := 0
  grantFlag := false

/-! ### Host Link -/

/-- The result codes of section 11.7, in their order. -/
inductive Result where
  | ok | clamped | pending | notFound | duplicate | full | zoneFull | badValue | badCommand | state | finished
  | crcError | short
  deriving DecidableEq, Repr

/-- A response less its status byte and check byte (section 11.7). -/
structure Response where
  echo    : Byte
  result  : Result
  /-- The sixteen payload bytes, response bytes 3..18. -/
  payload : List Byte
  deriving DecidableEq, Repr

/-- The frame in progress between the fall and the rise of CS (R196, R199). -/
structure FrameOpen where
  /-- The frame was begun while READY was low (R197). -/
  notReady : Bool
  /-- The status byte formed when the frame began (R199). -/
  status   : Byte
  /-- The response the frame clocks out; `none` is zero bytes (R197). -/
  out      : Option Response
  deriving DecidableEq, Repr

/-- The record of a walk the cursor returned last (R204). -/
inductive CursorKey where
  | zone (index : Nat)
  | point (zone time : Nat)
  | hold (zone pushed : Nat)
  | device (slot : Nat)
  | join (number : Nat)
  deriving DecidableEq, Repr

/-- The cursor of collection walks (R204). -/
structure Cursor where
  kind : RecordKind
  last : Option CursorKey
  deriving DecidableEq, Repr

/-- The Host Link (section 11, opening table). -/
structure Link where
  held     : Response
  /-- The whole bytes of the last frame shifted in. -/
  shift    : List Byte
  frame    : Option FrameOpen
  badCount : Nat
  /-- The last frame taken had a bad check byte (R199). -/
  lastBad  : Bool
  cursor   : Option Cursor
  flags    : BitVec 11
  enables  : BitVec 11
  deriving DecidableEq, Repr

/-- The response of no command: NOP, OK and a payload of zeros (R196). -/
def Response.none : Response where
  echo := 0
  result := .ok
  payload := List.replicate 16 0

/-- The Host Link after power-on (section 11, opening table). -/
def Link.reset : Link where
  held := Response.none
  shift := []
  frame := none
  badCount := 0
  lastBad := false
  cursor := none
  flags := 0
  enables := BitVec.allOnes 11

/-! ### The part -/

/-- The state of the part, and the queue of commands and events that wait, first in, first out. -/
structure State where
  time     : TimeBase
  clock    : Clock
  zones    : Vector Zone 16
  cylinder : Cylinder
  points   : Vector (List Point) 17
  holds    : Holds
  house    : House
  boiler   : Boiler
  bus      : Bus
  registry : Registry
  motor    : Motor
  link     : Link
  pending  : List Instr
  deriving DecidableEq, Repr

/-- The time base while RESETn is held low (R207); `now` 0 is a DESIGN CHOICE, notes/assumptions/3.md. -/
def TimeBase.reset : TimeBase where
  now := 0
  resetn := false
  ready := false
  warm := false
  released := none
  controlAt := none
  sampleAt := none
  minuteDue := false
  controlDue := false
  sampleDue := false
  wasCalling := []
  ticking := []

/-- The clock after power-on (R23). -/
def Clock.reset : Clock where
  timeOfWeek := none
  minuteAt := none
  hourCounter := 0
  hourDue := false
  taken := .none

/-- The part while RESETn is held low: READY is clear and every block holds its power-on state (R207); the value of
a field the manual gives none is a DESIGN CHOICE, notes/assumptions/3.md. -/
def State.reset : State where
  time := .reset
  clock := .reset
  zones := Vector.replicate 16 .reset
  cylinder := .reset
  points := Vector.replicate 17 []
  holds := { stack := Vector.replicate 17 [], handles := 1, pushes := 0 }
  house := .reset
  boiler := .reset
  bus := .reset
  registry := { devices := Vector.replicate 48 none, order := [], lastAssign := none }
  motor := .reset
  link := .reset
  pending := []

end Sys2Proof.Machine
end

