-- ==== Sys2Proof/Machine/Flags.lean ====
section
/-! DEFINITION. The notice flags, ATTN, the output lines and the status byte (sections 11.5, 6.8, 7.2, R199). -/

namespace Sys2Proof.Machine

/-- The eleven notices, in the bit order of section 11.5. -/
inductive Notice where
  | modeChanged | holdDisplaced | holdByDevice | joinPending | joinDropped | deviceState | boiler | cylinder
  | lineFault | linkFault | configApplied
  deriving DecidableEq, Repr

/-- The bit of a notice (section 11.5). -/
def Notice.bit : Notice → Nat
  | .modeChanged => 0
  | .holdDisplaced => 1
  | .holdByDevice => 2
  | .joinPending => 3
  | .joinDropped => 4
  | .deviceState => 5
  | .boiler => 6
  | .cylinder => 7
  | .lineFault => 8
  | .linkFault => 9
  | .configApplied => 10

/-- The notice's flag as a mask. -/
def Notice.mask (n : Notice) : BitVec 11 := BitVec.twoPow 11 n.bit

/-- An event raises a notice: its flag is set and stays set (R206). -/
def State.raise (s : State) (n : Notice) : State :=
  { s with link := { s.link with flags := s.link.flags ||| n.mask } }

/-- Raise a notice where the event calls for it. -/
def State.raiseIf (s : State) (b : Bool) (n : Notice) : State := if b then s.raise n else s

/-- The flag of a notice is set. -/
def State.raised (s : State) (n : Notice) : Bool := s.link.flags.getLsbD n.bit

/-- ATTN is driven low: a flag is set with its enable set (R206). -/
def State.attnLow (s : State) : Bool := s.link.flags &&& s.link.enables != 0

/-- BURNER is asserted while FIRING (R124). -/
def State.burnerPin (s : State) : Bool := s.boiler.burner == .firing

/-- PUMP is asserted in RUNNING and OVERRUN (R119). -/
def State.pumpPin (s : State) : Bool := s.boiler.pump != .stopped

/-- BRESET is asserted while the lockout-reset pulse runs (R116). -/
def State.bresetPin (s : State) : Bool := s.boiler.pulse.isSome

/-- DIVERT is asserted towards the cylinder exactly while CHARGING (R135). -/
def State.divertPin (s : State) : Bool := s.cylinder.state == .charging

/-- The drive of the pair is on in STARTING and RUNNING (section 8.1). -/
def State.driveOn (s : State) : Bool := s.bus.line == .starting || s.bus.line == .running

/-- One bit of the status byte. -/
def statusBit (b : Bool) (n : Nat) : Byte := if b then BitVec.twoPow 8 n else 0

/-- The status byte of section 11.7, formed from the state that stands (R199). -/
def State.statusByte (s : State) : Byte :=
  statusBit s.time.ready 7 ||| statusBit s.attnLow 6 ||| statusBit (s.bus.line == .running) 5 |||
  statusBit s.burnerPin 4 ||| statusBit s.divertPin 3 ||| statusBit (s.house.mode != .occupied) 2 |||
  statusBit s.link.lastBad 1

end Sys2Proof.Machine
end

