-- ==== Sys2Proof/Machine/Rounding.lean ====
section
/-! DEFINITION. The roundings of R1, as integer quotients, and clamping (00_scope.md, "Clamping"). The divisor is
positive wherever one is used. -/

namespace Sys2Proof.Machine

/-- floor of n / d: the greatest integer not above the exact value (R1). -/
def floorDiv (n d : Int) : Int := n / d

/-- ceiling of n / d: the least integer not below the exact value (R1). -/
def ceilDiv (n d : Int) : Int := -((-n) / d)

/-- n / d to the nearest integer, an exact half to the greater integer (R1). -/
def nearestUp (n d : Int) : Int := (2 * n + d) / (2 * d)

/-- n / d to the nearest integer, an exact half away from zero (R1). -/
def nearestAway (n d : Int) : Int :=
  if 0 ≤ n then (2 * n + d) / (2 * d) else -((2 * (-n) + d) / (2 * d))

/-- clamp(x, a, b): a value below the range becomes a, one above it becomes b. -/
def clamp (x a b : Int) : Int := if x < a then a else if b < x then b else x

end Sys2Proof.Machine
end

