-- ==== Sys2Proof/Machine/Ops.lean ====
section
/-! DEFINITION. The named reads and updates of the records, the time base, the announcement queue and the member
counts, which every other operation is built from. -/

namespace Sys2Proof.Machine

/-- The room zones in index order. -/
def rooms : List (Fin 16) := List.finRange 16

/-- All zones in index order, ZW last. -/
def allZones : List (Fin 17) := List.finRange 17

/-- The device slots in order. -/
def slots : List (Fin 48) := List.finRange 48

/-- ZW, index 16. -/
def zw : Fin 17 := 16

/-- A room zone as an index of 0..16. -/
def roomIndex (z : Fin 16) : Fin 17 := z.castSucc

/-- The room zone of an index; none for ZW. -/
def roomOf (z : Fin 17) : Option (Fin 16) := if h : z.val < 16 then some ⟨z.val, h⟩ else none

/-- Change every element of a table. -/
def mapTable {α : Type} {n : Nat} (f : α → α) (v : Vector α n) : Vector α n :=
  ⟨(v.toList.map f).toArray, by simp⟩

/-! ### Records -/

/-- The record of a room zone. -/
def State.zone (s : State) (z : Fin 16) : Zone := s.zones[z]

/-- Store a room zone record. -/
def State.setZone (s : State) (z : Fin 16) (r : Zone) : State := { s with zones := s.zones.set z r }

/-- The record at a slot, if one holds it. -/
def State.device (s : State) (i : Fin 48) : Option Device := s.registry.devices[i]

/-- Store or free the record at a slot. -/
def State.setDevice (s : State) (i : Fin 48) (d : Option Device) : State :=
  { s with registry := { s.registry with devices := s.registry.devices.set i d } }

/-- A zone's hold stack, top first. -/
def State.stackOf (s : State) (z : Fin 17) : List Hold := s.holds.stack[z]

/-- Store a zone's hold stack. -/
def State.setStack (s : State) (z : Fin 17) (l : List Hold) : State :=
  { s with holds := { s.holds with stack := s.holds.stack.set z l } }

/-- A zone's program list, in time order. -/
def State.pointsOf (s : State) (z : Fin 17) : List Point := s.points[z]

/-- Store a zone's program list. -/
def State.setPoints (s : State) (z : Fin 17) (l : List Point) : State := { s with points := s.points.set z l }

/-- The bus address of a slot (R161). -/
def addressOf (i : Fin 48) : Nat := i.val + 1

/-! ### Time -/

/-- A timed event has come: the time base has reached its moment, and never runs back (DESIGN CHOICE,
notes/assumptions/2.md). -/
def State.reach (s : State) (t : Nat) : State :=
  { s with time := { s.time with now := max s.time.now t } }

/-- The moment of the minute tick that is due next: where an item's last minute runs out. -/
def State.reachMinute (s : State) : State := s.reach (s.clock.minuteAt.getD s.time.now)

/-- A block takes the minute tick that is due before MINUTE_TICK does: the time base reaches its moment, and MINUTE_TICK
will not reach the blocks marked again (R24, R41; DESIGN CHOICE, notes/assumptions/4.md). -/
def State.takeEarly (s : State) (taken : TickTaken) : State :=
  { s.reachMinute with clock := { s.clock with taken } }

/-- Milliseconds since an instant. -/
def State.since (s : State) (t : Nat) : Nat := s.time.now - t

/-- A number of minutes in milliseconds. -/
def minutes (m : Int) : Nat := m.toNat * Config.minute

/-! ### Announcement queue -/

/-- Enter a room zone at the tail of the announcement queue, at most once (R42, R155). -/
def State.announce (s : State) (z : Fin 16) : State :=
  if z ∈ s.bus.announce then s else { s with bus := { s.bus with announce := s.bus.announce ++ [z] } }

/-- Enter every room zone in index order (R67, R69). -/
def State.announceAll (s : State) : State := rooms.foldl State.announce s

/-! ### Zone states and member counts -/

/-- The zone is enabled: SATISFIED or CALLING. -/
def Zone.enabled (r : Zone) : Bool := r.state != .disabled

/-- The zone is CALLING. -/
def Zone.isCalling (r : Zone) : Bool := r.state == .calling

/-- At least one room zone is CALLING. -/
def State.anyCalling (s : State) : Bool := rooms.any (fun z => (s.zone z).isCalling)

/-- Add `up` to and take `down` from the count of one kind (R20). -/
def Zone.count (r : Zone) (kind : DeviceKind) (up down : Nat) : Zone :=
  match kind with
  | .valveHead => { r with valves := r.valves + up - down }
  | .roomSensor => { r with sensors := r.sensors + up - down }
  | .roomUnit => { r with units := r.units + up - down }

/-- A binding into a zone, or none, is taken (R20). -/
def State.addMember (s : State) (z : Option (Fin 16)) (kind : DeviceKind) : State :=
  match z with
  | some z => s.setZone z ((s.zone z).count kind 1 0)
  | none => s

/-- A binding ends (R20). -/
def State.dropMember (s : State) (z : Option (Fin 16)) (kind : DeviceKind) : State :=
  match z with
  | some z => s.setZone z ((s.zone z).count kind 0 1)
  | none => s

/-- The zone is at its limit for a kind: six valve heads, two room-sensing devices (R20). -/
def Zone.atLimit (r : Zone) (kind : DeviceKind) : Bool :=
  match kind with
  | .valveHead => decide (6 ≤ r.valves)
  | .roomSensor | .roomUnit => decide (2 ≤ r.sensors + r.units)

/-- A bound zone, or none, is at its limit for a kind. -/
def State.zoneFull (s : State) (z : Option (Fin 16)) (kind : DeviceKind) : Bool :=
  z.any (fun z => (s.zone z).atLimit kind)

end Sys2Proof.Machine
end

