-- ==== Sys2Proof/Machine/Admission.lean ====
section
/-! DEFINITION. The admission order and the record whose turn it is (R168). -/

namespace Sys2Proof.Machine

/-- Store the Device Registry block. -/
def State.setRegistry (s : State) (r : Registry) : State := { s with registry := r }

/-- The record just before one in the order. -/
def precedes (order : List (Fin 48)) (i : Fin 48) : Option (Fin 48) := (order.takeWhile (fun j => j != i)).getLast?

/-- A record enters the order at its tail, unless it is pending already (R168, R170). -/
def State.enterOrder (s : State) (i : Fin 48) : State :=
  if i ∈ s.registry.order then s else s.setRegistry { s.registry with order := s.registry.order ++ [i] }

/-- A record leaves the order; the record before it stands in for it as the one last sent an ASSIGN (R168). -/
def State.leaveOrder (s : State) (i : Fin 48) : State :=
  s.setRegistry { s.registry with
    order := s.registry.order.filter (fun j => j != i)
    lastAssign := if s.registry.lastAssign = some i then precedes s.registry.order i else s.registry.lastAssign }

/-- The record whose turn it is: the first that entered after the one last sent an ASSIGN, else the head (R168). -/
def State.turn (s : State) : Option (Fin 48) :=
  match s.registry.lastAssign with
  | some i => ((s.registry.order.dropWhile (fun j => j != i)).tail.head?).or s.registry.order.head?
  | none => s.registry.order.head?

end Sys2Proof.Machine
end

