-- ==== Sys2Proof/Machine/Schedule.lean ====
section
/-! DEFINITION. Program lists, the point in force, the scheduled level and setpoint resolution (chapter 2). -/

namespace Sys2Proof.Machine

/-- Insert a point at the place its time gives (R29). -/
def insertPoint (p : Point) : List Point → List Point
  | [] => [p]
  | q :: l => if p.time < q.time then p :: q :: l else q :: insertPoint p l

/-- The points in the pool (R27). -/
def State.pointCount (s : State) : Nat := (s.points.toList.map List.length).sum

/-- The point of a list at a time. -/
def pointAt (l : List Point) (t : Nat) : Option Point := l.find? (fun p => p.time == t)

/-- The point in force: the last at or before the time of week, else the last of the list (R34). -/
def inForce (l : List Point) (time : Option Nat) : Option Point :=
  match time with
  | none => none
  | some t =>
    match (l.filter (fun p => decide (p.time ≤ t))).getLast? with
    | some p => some p
    | none => l.getLast?

/-- The point in force for a zone now. -/
def State.pointInForce (s : State) (z : Fin 17) : Option Point := inForce (s.pointsOf z) s.clock.timeOfWeek

/-- A room level written: clamped to 50..300; −32768 has no meaning of its own (R28). -/
def roomLevel (v : Int) : Level := .deg (clamp v 50 300)

/-- A ZW level written: 0 and the code of OFF store OFF, as does every value below 300 (R28, R7). -/
def cylinderLevel (v : Int) : Level := if v < 300 then .off else .deg (clamp v 300 650)

/-- A level as it is stored for a point of the zone (R28). -/
def storedLevel (z : Fin 17) (v : Int) : Level := if z = zw then cylinderLevel v else roomLevel v

/-- The stored ZW level differs from the value written (R28, R7). -/
def cylinderLevelClamped (v : Int) : Bool :=
  if v < 300 then !(v == 0 || v == -32768) else decide (650 < v)

/-- The stored level differs from the value written (R28). -/
def levelClamped (z : Fin 17) (v : Int) : Bool :=
  if z = zw then cylinderLevelClamped v else decide (clamp v 50 300 ≠ v)

/-! ### Resolution -/

/-- The scheduled level of a room zone and its source (R37); a room point of level OFF, which no run has, gives the
default (DESIGN CHOICE, notes/assumptions/27.md). -/
def State.roomScheduled (s : State) (z : Fin 16) : Int × Source :=
  match s.pointInForce (roomIndex z) with
  | some ⟨_, .deg t⟩ => (t, .program)
  | some ⟨_, .off⟩ => ((s.zone z).config.defaultSetpoint, .program)
  | none => ((s.zone z).config.defaultSetpoint, .default)

/-- Steps 1 to 3 of R38: the candidate and its source. -/
def State.roomCandidate (s : State) (z : Fin 16) : Int × Source :=
  match s.house.mode with
  | .vacant =>
    (if (s.zone z).config.vacantKeep then s.house.vacantSetpoint else (s.zone z).config.frostFloor, .vacant)
  | .occupied =>
    match (s.stackOf (roomIndex z)).head? with
    | some h => (h.setpoint, .hold)
    | none => s.roomScheduled z
  | .setback =>
    match (s.stackOf (roomIndex z)).head? with
    | some h => (h.setpoint, .hold)
    | none => ((s.roomScheduled z).1 - s.house.setbackOffset, .setback)

/-- The effective setpoint that R38 gives a room zone: the candidate after the clamp of step 4. -/
def State.roomSetpoint (s : State) (z : Fin 16) : Int :=
  clamp (s.roomCandidate z).1 (s.zone z).config.frostFloor (s.zone z).config.comfortCeiling

/-- Resolve a room zone: store setpoint and source, and queue a changed setpoint (R38, R40, R42). -/
def State.resolveRoom (s : State) (z : Fin 16) : State :=
  let t := s.setZone z { s.zone z with setpoint := s.roomSetpoint z, source := (s.roomCandidate z).2 }
  if s.roomSetpoint z = (s.zone z).setpoint then t else t.announce z

/-- The target and source that R39 gives ZW. -/
def State.cylinderResolved (s : State) : Level × CylinderSource :=
  match s.house.mode with
  | .vacant => (.off, .vacant)
  | .occupied | .setback =>
    match (s.stackOf zw).head? with
    | some h => (.deg h.setpoint, .hold)
    | none =>
      match s.pointInForce zw with
      | some p => (p.level, .program)
      | none => (s.cylinder.defaultTarget, .default)

/-- Resolve ZW (R39); nothing is queued (R42). -/
def State.resolveCylinder (s : State) : State :=
  { s with cylinder := { s.cylinder with target := s.cylinderResolved.1, source := s.cylinderResolved.2 } }

/-- Resolve the zone of an index. -/
def State.resolve (s : State) (z : Fin 17) : State :=
  match roomOf z with
  | some r => s.resolveRoom r
  | none => s.resolveCylinder

/-- Resolve Z0..Z15 in index order (DESIGN CHOICE, notes/assumptions/14.md). -/
def State.resolveRooms (s : State) : State := rooms.foldl State.resolveRoom s

/-- Resolve all 17 zones, in index order (R40). -/
def State.resolveAll (s : State) : State := s.resolveRooms.resolveCylinder

end Sys2Proof.Machine
end

