-- ==== Sys2Proof/Machine/Heat.lean ====
section
/-! DEFINITION. What the Boiler Controller computes from the records as they stand: outdoor temperature, frost,
room load, flow target, modulation and the flow check (chapter 6), and the cylinder flow target (R134). -/

namespace Sys2Proof.Machine

/-! ### Sensors -/

/-- The source of the outdoor temperature in use (R101). -/
inductive OutdoorSource where
  | sensor | held | fallback
  deriving DecidableEq, Repr

/-- The outdoor temperature in use and its source (R101). -/
def State.outdoor (s : State) : Int × OutdoorSource :=
  match s.boiler.tout.status, s.boiler.tout.value with
  | some .ok, some v => (v, .sensor)
  | some .fault, some v =>
    if s.boiler.outdoorHold.isSome then (v, .held) else (s.boiler.config.outdoorFallback, .fallback)
  | _, _ => (s.boiler.config.outdoorFallback, .fallback)

/-! ### Frost and demand (R109) -/

/-- Outdoor frost: T_out_in_use below frost_out. -/
def State.outdoorFrost (s : State) : Bool := decide (s.outdoor.1 < s.boiler.config.frostOut)

/-- Zone frost of one zone: enabled, its temperature known and below its frost floor. -/
def Zone.frost (r : Zone) : Bool := r.enabled && r.temp.any (fun t => decide (t < r.config.frostFloor))

/-- At least one zone is in zone frost. -/
def State.anyZoneFrost (s : State) : Bool := rooms.any (fun z => (s.zone z).frost)

/-- The cylinder channel is CHARGING. -/
def State.charging (s : State) : Bool := s.cylinder.state == .charging

/-- Burner demand (R109). -/
def State.burnerDemand (s : State) : Bool := s.anyCalling || s.charging || s.anyZoneFrost

/-! ### Room load and flow target -/

/-- N of R104. -/
def State.loadNumerator (s : State) : Int :=
  (rooms.map (fun z => if (s.zone z).isCalling then (s.zone z).demand * (s.zone z).config.control.weight else 0)).sum

/-- D of R104. -/
def State.enabledWeight (s : State) : Int :=
  (rooms.map (fun z => if (s.zone z).enabled then (s.zone z).config.control.weight else 0)).sum

/-- The room load L (R104). -/
def State.roomLoad (s : State) : Int :=
  if rooms.any (fun z => (s.zone z).enabled) then floorDiv s.loadNumerator s.enabledWeight else 0

/-- A leading zone: CALLING, or enabled and in zone frost (R105). -/
def Zone.leads (r : Zone) : Bool := r.isCalling || r.frost

/-- The lead setpoint, if any zone leads (R105). -/
def State.leadSetpoint (s : State) : Option Int :=
  (rooms.filter (fun z => (s.zone z).leads)).foldl
    (fun m z => some (match m with | none => (s.zone z).setpoint | some v => max v (s.zone z).setpoint)) none

/-- The floor limit is in force (R105). -/
def State.floorLimit (s : State) : Bool :=
  rooms.any (fun z => (s.zone z).leads && (s.zone z).config.control.emitter == .floor)

/-- Steps 1 to 5 of R106 for a lead setpoint. -/
def State.roomFlowTarget (s : State) (lead : Int) : Int :=
  let b := s.boiler.config
  let tout := clamp s.outdoor.1 (-300) 300
  let curve := lead + nearestAway (b.curveSlope * (lead - tout)) 10
  let boost := floorDiv (s.roomLoad * b.boostMax) 1000
  let f := clamp (curve + boost + b.shift) b.flowMin b.flowMax
  if s.floorLimit then min f b.floorMax else f

/-- The cylinder flow target F_dhw that a CHARGING channel asserts (R134). -/
def State.cylinderFlowTarget (s : State) : Option Int :=
  match s.cylinder.target with
  | .deg t => some (min (t + s.cylinder.chargeMargin) s.boiler.config.flowMax)
  | .off => none

/-- The flow target F (R106, R107); CHARGING with the target OFF, which no run has, gives flow_min (DESIGN CHOICE,
notes/assumptions/27.md). -/
def State.flowTarget (s : State) : Int :=
  let b := s.boiler.config
  if s.charging then
    match s.cylinderFlowTarget with
    | some f => clamp f b.flowMin b.flowMax
    | none => b.flowMin
  else
    match s.leadSetpoint with
    | some lead => s.roomFlowTarget lead
    | none => b.flowMin

/-- The modulation that F and T_flow give a firing burner (R108). -/
def modulationOf (modMin kmod f t : Int) : Int :=
  if t < f then clamp (modMin + floorDiv ((f - t) * kmod) 10) modMin 100 else modMin

/-- The modulation M on MOD (R108); without any TF value a firing burner, which no run has, is given mod_min (DESIGN
CHOICE, notes/assumptions/27.md). -/
def State.modulation (s : State) : Int :=
  match s.boiler.burner, s.boiler.tf.value with
  | .firing, some t => modulationOf s.boiler.config.modMin s.boiler.config.kmod s.flowTarget t
  | .firing, none => s.boiler.config.modMin
  | _, _ => 0

/-! ### The flow check (R120) -/

/-- A valve head bound to the zone, neither FAULTED nor RETIRING: counted by R120 and targeted by R89. -/
def Device.servesZone (d : Device) (z : Fin 16) : Bool :=
  d.kind == .valveHead && d.zone == some z && d.state != .faulted && d.state != .retiring

/-- The counted and targeted valves of a zone, in slot order (DESIGN CHOICE, notes/assumptions/14.md). -/
def State.valvesOf (s : State) (z : Fin 16) : List (Fin 48) :=
  slots.filter (fun i => (s.device i).any (fun d => d.servesZone z))

/-- The flow check is in force. -/
def State.checkInForce (s : State) : Bool :=
  s.boiler.config.bypassZone.isSome && s.boiler.config.minflowPct != 0 && !s.charging

/-- The zone is counted: enabled, or the bypass zone, with a counted valve. A DISABLED bypass zone is counted as R120
orders by name, against the general clause of R94 on weight sums: a conflict of the spec that the model settles for R120
(DEDUCED, unsafe, notes/assumptions/32.md). -/
def State.zoneCounted (s : State) (z : Fin 16) : Bool :=
  ((s.zone z).enabled || s.boiler.config.bypassZone == some z) && !(s.valvesOf z).isEmpty

/-- A position counts as open at 20 % or more; an unknown one does not. -/
def isOpen (p : Option Int) : Bool := p.any (fun v => decide (20 ≤ v))

/-- The open share of a zone from the positions of its counted valves. -/
def openShare (positions : List (Option Int)) : Int :=
  floorDiv (1000 * ((positions.filter isOpen).length : Int)) (positions.length : Int)

/-- The reported position of the valve at a slot (R121). -/
def State.reportedAt (s : State) (i : Fin 48) : Option Int := (s.device i).bind Device.reported

/-- The commanded position of the valve at a slot. -/
def State.commandedAt (s : State) (i : Fin 48) : Option Int := (s.device i).bind Device.commanded

/-- The positions of a zone's counted valves that the reported check reads (R121). -/
def State.reportedOf (s : State) (z : Fin 16) : List (Option Int) := (s.valvesOf z).map s.reportedAt

/-- The positions that the commanded check reads: the own target for the bypass zone's valves (R122). -/
def State.commandedOf (s : State) (z : Fin 16) : List (Option Int) :=
  if s.boiler.config.bypassZone = some z then (s.valvesOf z).map (fun _ => some (s.zone z).ownTarget)
  else (s.valvesOf z).map s.commandedAt

/-- O of R120 over the positions given zone by zone. -/
def State.openSum (s : State) (positions : Fin 16 → List (Option Int)) : Int :=
  (rooms.map (fun z =>
    if s.zoneCounted z then (s.zone z).config.control.weight * openShare (positions z) else 0)).sum

/-- W of R120. -/
def State.countedWeight (s : State) : Int :=
  (rooms.map (fun z => if s.zoneCounted z then (s.zone z).config.control.weight else 0)).sum

/-- The test O ≥ minflow_pct · 10 · W (R120). -/
def State.checkHolds (s : State) (positions : Fin 16 → List (Option Int)) : Bool :=
  decide (s.boiler.config.minflowPct * 10 * s.countedWeight ≤ s.openSum positions)

/-- The reported check passes (R120, R121). -/
def State.reportedPass (s : State) : Bool := !s.checkInForce || s.checkHolds s.reportedOf

/-- The commanded check passes (R120, R122). -/
def State.commandedPass (s : State) : Bool := !s.checkInForce || s.checkHolds s.commandedOf

/-! ### Pump reasons (R119) -/

/-- A reason for the pump to run is present. -/
def State.pumpReason (s : State) : Bool :=
  s.boiler.burner == .firing || s.anyCalling || s.charging || s.outdoorFrost || s.anyZoneFrost

end Sys2Proof.Machine
end

