-- ==== Sys2Proof/Machine/Arbiter.lean ====
section
/-! DEFINITION. The shared operations of the Motor Arbiter: the queue, the hand of a target, the ends of grants and
their revocation (chapter 10). -/

namespace Sys2Proof.Machine

/-- The entry of a valve in the motor queue. -/
def State.entryOf (s : State) (i : Fin 48) : Option Entry := s.motor.queue.find? (fun e => e.slot == i)

/-- Store the motor queue. -/
def State.setQueue (s : State) (q : List Entry) : State := { s with motor := { s.motor with queue := q } }

/-- Put an entry at the tail of its class: URGENT before NORMAL (R179). -/
def enqueue (q : List Entry) (e : Entry) : List Entry :=
  match e.cls with
  | .urgent => q.filter (fun x => x.cls == .urgent) ++ e :: q.filter (fun x => x.cls == .normal)
  | .normal => q ++ [e]

/-- The queue without a valve's entry; the others close up (R181). -/
def dequeue (q : List Entry) (i : Fin 48) : List Entry := q.filter (fun e => e.slot != i)

/-- Change a valve's entry in its place. -/
def retarget (q : List Entry) (i : Fin 48) (f : Entry → Entry) : List Entry :=
  q.map (fun e => if e.slot = i then f e else e)

/-- The hand at a valve with a POSITION entry (R180). -/
def handToPosition (q : List Entry) (e : Entry) (commanded : Option Int) (t : Int) (c : Class) : List Entry :=
  if commanded = some t then dequeue q e.slot
  else if e.cls = c then retarget q e.slot (fun x => { x with target := t })
  else enqueue (dequeue q e.slot) { e with target := t, cls := c }

/-- The hand at a valve with an EXERCISE entry (R180). -/
def handToExercise (q : List Entry) (e : Entry) (c : Class) : List Entry :=
  if c = .urgent ∧ e.cls = .normal then enqueue (dequeue q e.slot) { e with cls := .urgent } else q

/-- The next target a hand leaves at a valve with a grant in flight (R187). -/
def handToGrant (g : Grant) (t : Int) (c : Class) : Option NextTarget :=
  if g.kind = .position ∧ t = g.target then none else some { target := t, cls := c }

/-- The hand at a valve without entry and grant (R180). -/
def handToNothing (q : List Entry) (i : Fin 48) (commanded : Option Int) (t : Int) (c : Class) : List Entry :=
  if commanded = some t then q else enqueue q { slot := i, kind := .position, target := t, cls := c }

/-- The valve may be handed targets: a valve head that is neither FAULTED nor RETIRING (R180). -/
def Device.handable (d : Device) : Bool :=
  d.kind == .valveHead && d.state != .faulted && d.state != .retiring

/-- A POSITION target of a class is handed to the Arbiter for a valve (R180). -/
def State.hand (s : State) (i : Fin 48) (t : Int) (c : Class) : State :=
  match s.device i with
  | none => s
  | some d =>
    if d.handable then
      match d.grant, s.entryOf i with
      | some g, _ => s.setDevice i (some { d with next := handToGrant g t c })
      | none, some e =>
        match e.kind with
        | .position => s.setQueue (handToPosition s.motor.queue e d.commanded t c)
        | .exercise => s.setQueue (handToExercise s.motor.queue e c)
      | none, none => s.setQueue (handToNothing s.motor.queue i d.commanded t c)
    else s

/-- Write a valve's target field. -/
def State.setTarget (s : State) (i : Fin 48) (t : Int) : State :=
  match s.device i with
  | some d => s.setDevice i (some { d with target := t })
  | none => s

/-- Write a valve's target field and hand the target (R92, R122). -/
def State.setAndHand (c : Class) (t : Int) (s : State) (i : Fin 48) : State := (s.setTarget i t).hand i t c

/-- One token is returned (R177). -/
def State.returnToken (s : State) : State :=
  { s with motor := { s.motor with outstanding := s.motor.outstanding - 1 } }

/-- Hand the next target if one was present, else the fallback (R185, R186, R192). -/
def State.handNext (s : State) (i : Fin 48) (next fallback : Option NextTarget) : State :=
  match next, fallback with
  | some n, _ => s.hand i n.target n.cls
  | none, some n => s.hand i n.target n.cls
  | none, none => s

/-- The valve's target field as a hand of class NORMAL (R192). -/
def Device.targetHand (d : Device) : NextTarget := { target := d.target, cls := .normal }

/-- A grant ends DONE (R185, R192). -/
def State.endDone (s : State) (i : Fin 48) (d : Device) (g : Grant) : State :=
  match g.kind with
  | .position =>
    (s.setDevice i (some { d with grant := none, next := none, failureRun := 0 })).returnToken.handNext i d.next none
  | .exercise =>
    (s.setDevice i (some { d with
      grant := none, next := none, failureRun := 0, exerciseAge := 0, exercisePhase := .none })).returnToken.handNext
        i d.next (some d.targetHand)

/-- What a failed run is tried again with when there is no next target (R186, R192). -/
def Device.retry (d : Device) (g : Grant) : NextTarget :=
  match g.kind with
  | .position => { target := g.target, cls := g.cls }
  | .exercise => d.targetHand

/-- A grant ends STALLED or by timeout (R186, R192): the third failure in a row makes the valve FAULTED,
and a pending one is then no longer in state ADMITTED, so it leaves the admission order (R168; DEDUCED, notes/assumptions/21.md). -/
def State.endFailed (s : State) (i : Fin 48) (d : Device) (g : Grant) : State :=
  let after : Device := { d with
    grant := none, next := none, failureRun := d.failureRun + 1, commanded := none, exercisePhase := .none }
  if d.failureRun + 1 < 3 then
    (s.setDevice i (some after)).returnToken.handNext i d.next (some (d.retry g))
  else
    let t := ((s.setDevice i (some { after with state := .faulted })).returnToken).raise .deviceState
    if d.state = .admitted then t.leaveOrder i else t

/-- A grant ends without outcome: retirement or re-find (R188). -/
def State.endGrant (s : State) (i : Fin 48) (d : Device) : State :=
  match d.grant with
  | some _ => (s.setDevice i (some { d with grant := none, next := none, exercisePhase := .none })).returnToken
  | none => s.setDevice i (some { d with next := none, exercisePhase := .none })

/-- A device after the revocation of its grant, if it holds one (R189). -/
def Device.revoked (d : Device) : Device :=
  match d.grant with
  | some g =>
    { d with
      grant := none, next := none, exercisePhase := .none
      commanded := if g.running then none else d.commanded }
  | none => d

/-- The revocation of all grants (R189); one that finds no grant outstanding changes nothing, the grant flag
included (DEDUCED, notes/assumptions/18.md). -/
def State.revoke (s : State) : State :=
  if s.motor.outstanding = 0 then s
  else
    { s with
      registry := { s.registry with devices := mapTable (Option.map Device.revoked) s.registry.devices }
      motor := { s.motor with outstanding := 0, grantFlag := false } }

end Sys2Proof.Machine
end

