-- ==== Sys2Proof/Machine/Evaluate.lean ====
section
/-! DEFINITION. The evaluations that the Cylinder Channel and the Boiler Controller attach to every event that
changes one of their inputs: charge start and end, the reported check, burner start and stop, pump, bypass
forcing (R107, R111, R113, R119, R121, R122, R128). They stand in one chain, each reading what the one before leaves. -/

namespace Sys2Proof.Machine

/-! ### The cylinder channel -/

/-- The conditions of a charge start in IDLE (R129). -/
def State.chargeWanted (s : State) : Bool :=
  match s.boiler.tc.status, s.boiler.tc.value, s.cylinder.target with
  | some .ok, some v, .deg t => decide (v ≤ t - s.cylinder.dhwHyst)
  | _, _, _ => false

/-- The conditions of a charge end in CHARGING (R130). -/
def State.chargeDone (s : State) : Bool :=
  match s.boiler.tc.value, s.cylinder.target with
  | _, .off => true
  | some v, .deg t => decide (t ≤ v)
  | none, .deg _ => false

/-- The channel changes state; its timers stop (section 7.2). -/
def Cylinder.moveTo (c : Cylinder) (st : CylinderState) : Cylinder :=
  { c with state := st, prio := none, gap := none, recovery := none }

/-- CHARGING with tPRIO started from 0 (R129). -/
def State.startCharge (s : State) : State :=
  { s with cylinder := { s.cylinder.moveTo .charging with prio := some s.time.now } }

/-- The evaluation in IDLE (R129). -/
def State.evalIdle (s : State) : State := if s.chargeWanted then s.startCharge else s

/-- A move into IDLE is followed at once by the evaluation in IDLE (R129). -/
def State.toIdle (s : State) : State := State.evalIdle { s with cylinder := s.cylinder.moveTo .idle }

/-- The channel's evaluation of its state (R128). -/
def State.evalCylinder (s : State) : State :=
  match s.cylinder.state with
  | .idle => s.evalIdle
  | .charging => if s.chargeDone then s.toIdle else s
  | .disabled | .gap | .fault => s

/-- Entry into FAULT raises CYLINDER (R133). -/
def State.cylinderFault (s : State) : State :=
  State.raise { s with cylinder := s.cylinder.moveTo .fault } .cylinder

/-! ### The reported check -/

/-- The reported check is evaluated while it is in force and the burner does not fire (R121), and under a firing burner
once, at the end of a charge, where it comes back into force with no result (R136). A WRITE that brings it into force
under a firing burner has left it a result (`State.keepPassing`). Otherwise the result stays under a firing burner
(DESIGN CHOICE, notes/assumptions/31.md). -/
def State.evalReported (s : State) : State :=
  if s.checkInForce then
    if s.boiler.burner = .firing ∧ s.boiler.reported.isSome then s
    else { s with boiler := { s.boiler with reported := some (s.checkHolds s.reportedOf) } }
  else { s with boiler := { s.boiler with reported := none } }

/-! ### The burner -/

/-- Store the boiler block. -/
def State.setBoiler (s : State) (b : Boiler) : State := { s with boiler := b }

/-- The burner leaves its state: the on time, the WAIT stretch and the recovery timer end. -/
def Boiler.moveTo (b : Boiler) (st : Burner) : Boiler :=
  { b with burner := st, minOn := none, waitFlow := none, recovery := none }

/-- OFF with tBOFF restarted from now (R110). -/
def State.burnerOff (s : State) : State :=
  s.setBoiler { s.boiler.moveTo .off with lastStop := s.time.now }

/-- The last stop, recorded when a firing burner is stopped (R102, R115). -/
def State.stopTime (s : State) : Nat := if s.boiler.burner = .firing then s.time.now else s.boiler.lastStop

/-- Entry into SENSOR_FAULT raises BOILER (R102). -/
def State.burnerSensorFault (s : State) : State :=
  (s.setBoiler { s.boiler.moveTo .sensorFault with lastStop := s.stopTime }).raise .boiler

/-- Entry into LOCKED_OUT raises BOILER (R115). -/
def State.lockOut (s : State) : State :=
  (s.setBoiler { s.boiler.moveTo .lockedOut with lastStop := s.stopTime }).raise .boiler

/-- The lockout ends: the attempt count returns to 0; SENSOR_FAULT when TF is FAULT, else OFF (R115, R117). -/
def State.endLockout (s : State) : State :=
  let t := s.setBoiler { s.boiler with attempts := 0 }
  if s.boiler.tf.status = some .fault then t.burnerSensorFault else t.burnerOff

/-- The start conditions: burner demand present and T_flow ≤ F − on_diff, with TF OK (R111, R102). -/
def State.startConditions (s : State) : Bool :=
  s.burnerDemand && s.boiler.tf.status == some .ok &&
    s.boiler.tf.value.any (fun t => decide (t ≤ s.flowTarget - s.boiler.config.onDiff))

/-- The start gate: as many starts in the list as starts_limit or more (R111). -/
def State.startsGate (s : State) : Bool :=
  decide (s.boiler.config.startsLimit ≤ (s.boiler.startList.length : Int))

/-- A burner start (R111). -/
def State.startBurner (s : State) : State :=
  s.setBoiler { s.boiler.moveTo .firing with
    minOn := some s.time.now, startList := s.boiler.startList ++ [0] }

/-- WAIT with a reason; a WAIT FLOW stretch that goes on keeps its timing (R111). -/
def State.waitFor (s : State) (r : WaitReason) : State :=
  match r with
  | .starts => s.setBoiler (s.boiler.moveTo (.wait .starts))
  | .flow =>
    if s.boiler.burner = .wait .flow then s
    else s.setBoiler { s.boiler.moveTo (.wait .flow) with waitFlow := some s.time.now }

/-- The evaluation of a start in READY and WAIT (R111). -/
def State.evalStart (s : State) : State :=
  if s.startConditions then
    if s.startsGate then s.waitFor .starts
    else if s.reportedPass then s.startBurner
    else s.waitFor .flow
  else s.setBoiler (s.boiler.moveTo .ready)

/-- The stop conditions once tBON has run (R113). -/
def State.stopWanted (s : State) : Bool :=
  s.boiler.minOn.isNone &&
    (!s.burnerDemand || s.boiler.tf.value.any (fun t => decide (s.flowTarget + s.boiler.config.offDiff ≤ t)))

/-- The evaluation of the burner: a start in READY and WAIT, a stop in FIRING (R111, R113). -/
def State.evalBurner (s : State) : State :=
  match s.boiler.burner with
  | .ready | .wait _ => s.evalStart
  | .firing => if s.stopWanted then s.burnerOff else s
  | .off | .lockedOut | .sensorFault => s

/-! ### The pump -/

/-- The pump follows its reasons (R119). -/
def State.evalPump (s : State) : State :=
  match s.boiler.pump with
  | .stopped | .overrun _ => if s.pumpReason then s.setBoiler { s.boiler with pump := .running } else s
  | .running =>
    if s.pumpReason then s else s.setBoiler { s.boiler with pump := .overrun s.time.now }

/-! ### Bypass forcing -/

/-- The commanded check calls for forcing: in force, failing, and the pump running or in overrun (R122). -/
def State.forcingWanted (s : State) : Bool := s.boiler.pump != .stopped && !s.commandedPass

/-- Forcing begins: every valve of the bypass zone is set to 100 and handed URGENT (R122). -/
def State.beginForcing (s : State) : State :=
  match s.boiler.config.bypassZone with
  | some z => (s.valvesOf z).foldl (State.setAndHand .urgent 100) (s.setBoiler { s.boiler with forcing := true })
  | none => s

/-- Forcing ends: every valve of the bypass zone is set to its own target and handed NORMAL (R92, R122). -/
def State.endForcing (s : State) : State :=
  match s.boiler.config.bypassZone with
  | some z =>
    (s.valvesOf z).foldl (State.setAndHand .normal (s.zone z).ownTarget)
      (s.setBoiler { s.boiler with forcing := false })
  | none => s.setBoiler { s.boiler with forcing := false }

/-- Forcing begins and ends with the commanded check (R122). -/
def State.evalForcing (s : State) : State :=
  if s.boiler.forcing then (if s.forcingWanted then s else s.endForcing)
  else (if s.forcingWanted then s.beginForcing else s)

/-- A valve that becomes one of the bypass zone while forcing is in force is taken into it at once (R122). -/
def State.joinForcing (s : State) (i : Fin 48) : State :=
  match s.boiler.config.bypassZone with
  | some z =>
    if s.boiler.forcing ∧ (s.device i).any (fun d => d.servesZone z) then s.setAndHand .urgent 100 i else s
  | none => s

/-! ### All evaluations -/

/-- Every evaluation of the channel and the boiler, taken while READY is set, in one fixed order (DESIGN CHOICE,
notes/assumptions/9.md). -/
def State.evaluate (s : State) : State :=
  if s.time.ready then s.evalCylinder.evalReported.evalBurner.evalReported.evalPump.evalForcing else s

/-- The evaluations as part of an event that began in `before`: taken when the event has changed a record they
read (DESIGN CHOICE, notes/assumptions/9.md). -/
def State.evaluateFrom (s before : State) : State :=
  if s.zones = before.zones ∧ s.cylinder = before.cylinder ∧ s.boiler = before.boiler ∧
      s.registry.devices = before.registry.devices then s
  else s.evaluate

end Sys2Proof.Machine
end

