-- ==== Sys2Proof/Machine/Channel.lean ====
section
/-! DEFINITION. The Cylinder Channel's own events: the expiries of its timers, the TC sample, and the enable and
disable of ZW (chapter 7, R7). -/

namespace Sys2Proof.Machine

/-- tPRIO expires: GAP when a room zone is CALLING, else tPRIO restarts (R131). -/
def State.prioExpires (s : State) : State :=
  if s.anyCalling then
    { s with cylinder := { s.cylinder.moveTo .gap with gap := some s.time.now } }
  else { s with cylinder := { s.cylinder with prio := some s.time.now } }

/-- After a gap the charge resumes below the target itself (R132). -/
def State.gapResumes (s : State) : Bool :=
  match s.boiler.tc.status, s.boiler.tc.value, s.cylinder.target with
  | some .ok, some v, .deg t => decide (v < t)
  | _, _, _ => false

/-- tGAP expires: CHARGING below the target, else IDLE and its evaluation (R132). -/
def State.gapExpires (s : State) : State := if s.gapResumes then s.startCharge else s.toIdle

/-- A length written for a running timer ends the interval at the write when it has already run (R103, R127). -/
def State.overdue (s : State) (start : Option Nat) (length : Nat) : Bool :=
  start.any (fun t => decide (length ≤ s.since t))

/-- The TC sample at the channel, its status stored already (R133): a FAULT sample moves an enabled channel to FAULT
or stops its recovery timer; in FAULT the first OK sample starts that timer. -/
def State.channelSample (s : State) : State :=
  match s.cylinder.state, s.boiler.tc.status with
  | .idle, some .fault | .charging, some .fault | .gap, some .fault => s.cylinderFault
  | .fault, some .fault => { s with cylinder := { s.cylinder with recovery := none } }
  | .fault, some .ok =>
    if s.cylinder.recovery.isSome then s
    else { s with cylinder := { s.cylinder with recovery := some s.time.now } }
  | _, _ => s

/-- ENABLE of ZW while DISABLED: IDLE, or FAULT with CYLINDER when TC is FAULT or has had no OK sample (R7, R133). -/
def State.enableCylinder (s : State) : State :=
  if s.cylinder.state = .disabled then
    if s.boiler.tc.status = some .ok then
      State.resolveCylinder { s with cylinder := s.cylinder.moveTo .idle }
    else s.cylinderFault.resolveCylinder
  else s

/-- DISABLE of ZW from any enabled state: charge demand, DIVERT and the timers go with the state (R7). -/
def State.disableCylinder (s : State) : State :=
  if s.cylinder.state = .disabled then s
  else State.resolveCylinder { s with cylinder := s.cylinder.moveTo .disabled }

end Sys2Proof.Machine
end

