-- ==== Sys2Proof/Machine/Operands.lean ====
section
/-! DEFINITION. The operand forms of the host link: item slots and their values, the codes of enumerated values, the
coding of read values, and response payloads (R201, R202, R203, section 11.7). -/

namespace Sys2Proof.Machine

/-! ### Item slots -/

/-- The items that are not in empty slots. -/
def realItems (items : List Item) : List Item := items.filter (fun i => i.code != 0)

/-- The item codes carried, in slot order. -/
def itemCodes (items : List Item) : List Nat := (realItems items).map (fun i => i.code.toNat)

/-- Every code is one the record has and no code comes twice (R201). -/
def codesOk (allowed : List Nat) (items : List Item) : Bool :=
  (itemCodes items).all (fun c => allowed.contains c) && decide (itemCodes items).Nodup

/-- The raw value of an item. -/
def itemWord (items : List Item) (code : Nat) : Option Word :=
  ((realItems items).find? (fun i => i.code.toNat == code)).map Item.value

/-- The value of an item of a signed field (R201). -/
def item (items : List Item) (code : Nat) : Option Int := (itemWord items code).map BitVec.toInt

/-- The value of an item of a field carried unsigned (R201). -/
def itemNat (items : List Item) (code : Nat) : Option Nat := (itemWord items code).map BitVec.toNat

/-- The write carries the item. -/
def carries (items : List Item) (code : Nat) : Bool := (itemWord items code).isSome

/-- An enumerated item, where carried, lies within its codes 0..n−1 (R201). -/
def enumOk (items : List Item) (code n : Nat) : Bool := (itemNat items code).all (fun v => decide (v < n))

/-- A numeric field after a write: the written value clamped, or the stored one (R13). -/
def takeItem (items : List Item) (code : Nat) (lo hi old : Int) : Int :=
  match item items code with
  | some v => clamp v lo hi
  | none => old

/-- The clamp changed the written value of a field. -/
def itemClamped (items : List Item) (code : Nat) (lo hi : Int) : Bool :=
  (item items code).any (fun v => decide (clamp v lo hi ≠ v))

/-- A yes/no or set/clear field after a write. -/
def takeFlag (items : List Item) (code : Nat) (old : Bool) : Bool :=
  match itemNat items code with
  | some v => v == 1
  | none => old

/-- OK, or CLAMPED where a stored value differs from the value written. -/
def okOrClamped (clamped : Bool) : Result := if clamped then .clamped else .ok

/-! ### Zone operands -/

/-- A key that names a zone 0..16. -/
def zoneKey (n : Nat) : Option (Fin 17) := if h : n < 17 then some ⟨n, h⟩ else none

/-- A zone item: its value 0..16 (R29, R47, R201). -/
def zoneItem (items : List Item) (code : Nat) : Option (Fin 17) := (itemNat items code).bind zoneKey

/-- A slot key. -/
def slotKey (n : Nat) : Option (Fin 48) := if h : n < 48 then some ⟨n, h⟩ else none

/-- A room zone or none: `some none` is none, `none` is a code outside the range. -/
def roomOrNone (w : Word) : Option (Option (Fin 16)) :=
  if h : w.toNat < 16 then some (some ⟨w.toNat, h⟩) else if w = 0x8000#16 then some none else none

/-! ### Read values (R201) -/

/-- −32768: none, absent, UNKNOWN and OFF in signed fields. -/
def absent : Word := 0x8000#16

/-- A signed value. -/
def int (v : Int) : Word := BitVec.ofInt 16 v

/-- A signed value that may be missing. -/
def intOr (v : Option Int) : Word := v.elim absent int

/-- A count or a value carried unsigned. -/
def nat (n : Nat) : Word := BitVec.ofNat 16 n

/-- A count or index that may be missing, in a signed field. -/
def natOr (n : Option Nat) : Word := n.elim absent nat

/-- yes and set are 1, no and clear 0. -/
def flag (b : Bool) : Word := if b then 1 else 0

/-- The two halves of a 32-bit field, high half first (R202). -/
def halves (v : BitVec 32) : List Word := [v.extractLsb' 16 16, v.extractLsb' 0 16]

/-- A list: its length, then its elements (R202). -/
def listField (l : List Word) : List Word := nat l.length :: l

/-- A level or cylinder target; OFF is −32768. -/
def level : Level → Word
  | .off => absent
  | .deg t => int t

/-! ### Codes of enumerated values: the place in the manual's list, from 0 (R201) -/

def emitterCode : Emitter → Word
  | .radiator => 0
  | .floor => 1

def zoneStateCode : ZoneState → Word
  | .disabled => 0
  | .satisfied => 1
  | .calling => 2

def sourceCode : Source → Word
  | .hold => 0
  | .vacant => 1
  | .setback => 2
  | .program => 3
  | .default => 4

def tempSourceCode : TempSource → Word
  | .room => 0
  | .heads => 1
  | .none => 2

def cylinderStateCode : CylinderState → Word
  | .disabled => 0
  | .idle => 1
  | .charging => 2
  | .gap => 3
  | .fault => 4

def cylinderSourceCode : CylinderSource → Word
  | .hold => 0
  | .vacant => 1
  | .program => 2
  | .default => 3

def endKindCode : EndKind → Word
  | .nextPoint => 0
  | .countdown _ => 1
  | .indefinite => 2

/-- Remaining minutes, 0 when absent (an unsigned field). -/
def remaining : EndKind → Nat
  | .countdown n => n
  | _ => 0

/-- LINK is 0; a device is its bus address 1..48. -/
def originCode : Origin → Word
  | .link => 0
  | .device a => nat a

def modeCode : Mode → Word
  | .occupied => 0
  | .setback => 1
  | .vacant => 2

/-- LINK, RETURN, PRESENCE, INPUT, or none. -/
def causeCode : Option WakeCause → Word
  | some .link => 0
  | some .return => 1
  | some (.presence _) => 2
  | some .input => 3
  | none => absent

/-- The bus address of a PRESENCE cause. -/
def causeAddress : Option WakeCause → Word
  | some (.presence a) => nat a
  | _ => absent

def statusCode : Option SensorStatus → Word
  | some .ok => 0
  | some .fault => 1
  | none => absent

def burnerCode : Burner → Word
  | .off => 0
  | .ready => 1
  | .wait _ => 2
  | .firing => 3
  | .lockedOut => 4
  | .sensorFault => 5

/-- The WAIT reason; −32768 outside WAIT (R202). -/
def waitCode : Burner → Word
  | .wait .starts => 0
  | .wait .flow => 1
  | _ => absent

def pumpCode : Pump → Word
  | .stopped => 0
  | .running => 1
  | .overrun _ => 2

def lineCode : Line → Word
  | .stopped => 0
  | .starting => 1
  | .running => 2
  | .lineFault => 3

def deviceKindCode : DeviceKind → Word
  | .valveHead => 0
  | .roomSensor => 1
  | .roomUnit => 2

def deviceStateCode : DeviceState → Word
  | .admitted => 0
  | .active => 1
  | .stale => 2
  | .lost => 3
  | .faulted => 4
  | .retiring => 5

def motorCode : MotorState → Word
  | .idle => 0
  | .running => 1
  | .stalled => 2

def runKindCode : RunKind → Word
  | .position => 0
  | .exercise => 1

def classCode : Class → Word
  | .urgent => 0
  | .normal => 1

def phaseCode : Phase → Word
  | .none => 0
  | .opening => 1

/-- The result codes of section 11.7. -/
def Result.code : Result → Byte
  | .ok => 0
  | .clamped => 1
  | .pending => 2
  | .notFound => 3
  | .duplicate => 4
  | .full => 5
  | .zoneFull => 6
  | .badValue => 7
  | .badCommand => 8
  | .state => 9
  | .finished => 10
  | .crcError => 11
  | .short => 12

/-! ### Responses -/

/-- The answer to a command: its result and its payload bytes. -/
structure Answer where
  result  : Result
  payload : List Byte
  deriving DecidableEq, Repr

/-- Sixteen payload bytes, filled with zeros. -/
def fill (bytes : List Byte) : List Byte := (bytes ++ List.replicate 16 0).take 16

/-- An answer with a zero payload (R203). -/
def Answer.plain (r : Result) : Answer := { result := r, payload := fill [] }

/-- The bytes of words, high byte first. -/
def wordBytes (l : List Word) : List Byte := l.flatMap (fun w => [w.hi, w.lo])

/-- `n` values of a view from a first field number; places past its end are −32768 (R202). -/
def window (view : List Word) (first n : Nat) : List Word :=
  ((view.drop (first - 1)) ++ List.replicate n absent).take n

/-- The payload of READ: fields in the view, the first field, seven values (section 11.7). -/
def readPayload (view : List Word) (first : Nat) : List Byte :=
  fill ([BitVec.ofNat 8 view.length, BitVec.ofNat 8 first] ++ wordBytes (window view first 7))

/-- The payload of NEXT and of the R203 answers: fields in the view, first field, key, six values. -/
def keyedPayload (key : Word) (view : List Word) (first : Nat) : List Byte :=
  fill ([BitVec.ofNat 8 view.length, BitVec.ofNat 8 first, key.hi, key.lo] ++ wordBytes (window view first 6))

/-- The answer of an accepted CREATE, WRITE or ADMIT: the key and the first six fields of view 0 (R203). -/
def Answer.record (r : Result) (key : Word) (view : List Word) : Answer :=
  { result := r, payload := keyedPayload key view 1 }

/-- The field number is one of the view's (R202). -/
def firstOk (view : List Word) (first : Nat) : Bool := decide (1 ≤ first) && decide (first ≤ view.length)

/-- The twenty bytes a frame clocks out: status, echo, result, payload, check byte (section 11.7). -/
def responseBytes (status : Byte) (r : Response) : List Byte :=
  withCrc ([status, r.echo, r.result.code] ++ r.payload)

end Sys2Proof.Machine
end

