-- ==== Sys2Proof/Machine/Stacks.lean ====
section
/-! DEFINITION. The shared operations of the Hold Stacks: handles, pushes, retirements and the ends of holds
(chapter 3). -/

namespace Sys2Proof.Machine

/-- The holds in the pool (R44). -/
def State.poolCount (s : State) : Nat := (s.holds.stack.toList.map List.length).sum

/-- The handles in use. -/
def State.handlesInUse (s : State) : List Nat := s.holds.stack.toList.flatten.map Hold.handle

/-- The handle after a handle: 65535 is followed by 1 (R46). -/
def nextHandle (h : Nat) : Nat := if h = 65535 then 1 else h + 1

/-- The first handle from `h` on that names no hold, tried at most `fuel` times (R46). -/
def freeHandle (used : List Nat) : Nat → Nat → Nat
  | 0, h => h
  | fuel + 1, h => if h ∈ used then freeHandle used fuel (nextHandle h) else h

/-- The handle the next push takes; at most 24 are in use (R46). -/
def State.newHandle (s : State) : Nat := freeHandle s.handlesInUse 25 s.holds.handles

/-- Take a setpoint into the range of the zone of a hold (R45). -/
def State.holdRange (s : State) (z : Fin 17) (v : Int) : Int :=
  match roomOf z with
  | some r => clamp (clamp v 50 300) (s.zone r).config.frostFloor (s.zone r).config.comfortCeiling
  | none => clamp v 300 650

/-- A push onto a stack that is not full is refused when the pool is (R49). -/
def State.pushRefused (s : State) (z : Fin 17) : Bool :=
  decide ((s.stackOf z).length < 4) && decide (24 ≤ s.poolCount)

/-- Push a hold: it goes on top with a new handle and push number; the bottom hold of a full stack is displaced and
HOLD_DISPLACED raised (R46, R48). The setpoint is taken into range (R45). -/
def State.push (s : State) (z : Fin 17) (setpoint : Int) (ending : EndKind) (origin : Origin) (retain : Bool) :
    State :=
  let h : Hold :=
    { handle := s.newHandle, setpoint := s.holdRange z setpoint, ending, origin, retain, pushed := s.holds.pushes }
  let t := s.setStack z (h :: (s.stackOf z).take 3)
  let u := { t with holds := { t.holds with
    handles := nextHandle s.newHandle
    pushes := (s.holds.pushes + 1) % 4294967296 } }
  u.raiseIf (decide (4 ≤ (s.stackOf z).length)) .holdDisplaced

/-- The zone on whose stack the hold of a handle lies. -/
def State.zoneOfHandle (s : State) (handle : Nat) : Option (Fin 17) :=
  allZones.find? (fun z => (s.stackOf z).any (fun h => h.handle == handle))

/-- The hold of a handle, with its zone. -/
def State.findHold (s : State) (handle : Nat) : Option (Fin 17 × Hold) :=
  match s.zoneOfHandle handle with
  | some z => ((s.stackOf z).find? (fun h => h.handle == handle)).map (fun h => (z, h))
  | none => none

/-- Remove the hold of a handle from a zone's stack; the others keep their order (R52). -/
def State.dropHold (s : State) (z : Fin 17) (handle : Nat) : State :=
  s.setStack z ((s.stackOf z).filter (fun h => h.handle != handle))

/-- Replace the hold of a handle in its place (R51, R60). -/
def State.putHold (s : State) (z : Fin 17) (h : Hold) : State :=
  s.setStack z ((s.stackOf z).map (fun g => if g.handle = h.handle then h else g))

/-- Retire every NEXT_POINT hold of a zone: a point crossing or a point change (R54). -/
def State.retireNextPoint (s : State) (z : Fin 17) : State :=
  s.setStack z ((s.stackOf z).filter (fun h => h.ending != .nextPoint))

/-- One minute of a hold's countdown; `none` when it runs out (R53). -/
def countDown (h : Hold) : Option Hold :=
  match h.ending with
  | .countdown n => if n ≤ 1 then none else some { h with ending := .countdown (n - 1) }
  | _ => some h

/-- The minute tick at the Hold Stacks: every COUNTDOWN hold loses a minute, and those that reach 0 are retired, as
one event over all stacks (R53). -/
def State.countHolds (s : State) : State :=
  { s with holds := { s.holds with stack := mapTable (List.filterMap countDown) s.holds.stack } }

/-- A warm reset retires every hold whose retain flag is no (R63). -/
def State.dropUnretained (s : State) : State :=
  { s with holds := { s.holds with stack := mapTable (List.filter Hold.retain) s.holds.stack } }

end Sys2Proof.Machine
end

