-- ==== Sys2Proof/Machine/Views.lean ====
section
/-! DEFINITION. The views of the records that READ, NEXT and the R203 answers return (R200, R202), each a list of
16-bit fields in the order its rule gives. Where the rule leaves a view's shape open, it is a DESIGN CHOICE,
notes/assumptions/16.md. -/

namespace Sys2Proof.Machine

/-! ### Zones (R5, R6, R27, R138) -/

def controlFields (c : Control) : List Word := [emitterCode c.emitter, int c.weight, int c.kp, int c.ki]

/-- The configuration view of a room zone (section 1.2). -/
def Zone.configView (r : Zone) : List Word :=
  let c := r.config
  controlFields c.control ++
    [int c.minLift, int c.hysteresis, int c.headOffset, int c.frostFloor, int c.comfortCeiling,
     int c.defaultSetpoint, int c.requestOn, int c.requestOff, int c.blindDemand, int c.deviceHoldMinutes,
     flag c.vacantKeep]

/-- The computed view of a room zone (section 1.2). -/
def Zone.computedView (r : Zone) : List Word :=
  [zoneStateCode r.state, int r.setpoint, sourceCode r.source, intOr r.temp, tempSourceCode r.tempSource,
   int r.demand, int r.previous, int r.integral, nat r.valves, nat r.sensors, nat r.units]

/-- The pending view: presence, then the four pending control values (R5). -/
def Zone.pendingView (r : Zone) : List Word :=
  match r.pending with
  | some c => 1 :: controlFields c
  | none => [0, absent, absent, absent, absent]

/-- The program view: the zone's count and the pool count (R27). -/
def State.programView (s : State) (z : Fin 17) : List Word := [nat (s.pointsOf z).length, nat s.pointCount]

/-- Record and configuration of ZW (R6, section 7.1). -/
def State.cylinderView (s : State) : List Word :=
  let c := s.cylinder
  [cylinderStateCode c.state, level c.defaultTarget, level c.target, cylinderSourceCode c.source,
   int c.dhwHyst, int c.chargeMargin, int c.tPrio, int c.tGap, level c.defaultTarget]

/-- An interval shown in a unit: exact where it is a whole number of units, else rounded down or up as the part
does (a free value, Config.roundsUp; DESIGN CHOICE, notes/assumptions/8.md). -/
def shown (ms unit : Nat) : Nat :=
  if ms % unit = 0 then ms / unit else if Config.roundsUp ms then ms / unit + 1 else ms / unit

/-- What is left of an interval begun at `start`. -/
def State.left (s : State) (start length : Nat) : Nat := start + length - s.time.now

/-- The channel status of ZW (R138); what does not apply in the state is absent. -/
def State.channelView (s : State) : List Word :=
  let c := s.cylinder
  [cylinderStateCode c.state, intOr s.boiler.tc.value, statusCode s.boiler.tc.status, level c.target,
   (if c.state = .charging then intOr s.cylinderFlowTarget else absent),
   (if c.state = .charging then natOr (c.prio.map (fun t => shown (s.since t) Config.minute)) else absent),
   (if c.state = .gap then natOr (c.gap.map (fun t => shown (s.left t (minutes c.tGap)) Config.minute)) else absent),
   (if c.state = .fault then flag c.recovery.isSome else absent)]

/-- The views of record kind ZONE (R200). -/
def State.zoneView (s : State) (z : Fin 17) (view : Nat) : Option (List Word) :=
  match roomOf z, view with
  | some r, 0 => some (s.zone r).configView
  | some r, 1 => some (s.zone r).computedView
  | some r, 2 => some (s.zone r).pendingView
  | none, 0 => some s.cylinderView
  | none, 1 => some s.channelView
  | _, 3 => some (s.programView z)
  | _, _ => none

/-! ### Points and holds (R32, R50) -/

def pointView (z : Fin 17) (p : Point) : List Word := [nat z.val, nat p.time, level p.level]

/-- The eight fields of a hold with its place and the depth of its stack (R50). -/
def State.holdView (s : State) (z : Fin 17) (h : Hold) : List Word :=
  [nat h.handle, nat z.val, int h.setpoint, endKindCode h.ending, nat (remaining h.ending), originCode h.origin,
   flag h.retain] ++ halves (BitVec.ofNat 32 h.pushed) ++
  [nat ((s.stackOf z).findIdx (fun g => g.handle == h.handle)), nat (s.stackOf z).length]

/-- The pool view: holds in the pool, the depth of each stack, the handle counter (R50). -/
def State.poolView (s : State) : List Word :=
  nat s.poolCount :: allZones.map (fun z => nat (s.stackOf z).length) ++ [nat s.holds.handles]

/-! ### House and clock (R65, R23) -/

def State.houseView (s : State) : List Word :=
  let h := s.house
  [modeCode h.mode, nat (h.countdown.getD 0), flag h.wakeReturn, flag h.wakePresence, flag h.wakeInput,
   flag h.disarmOnWake, causeCode h.lastCause, causeAddress h.lastCause, int h.setbackOffset,
   int h.vacantSetpoint]

/-- The hour of day (R23). -/
def hourOfDay (time : Nat) : Nat := time % 1440 / 60

/-- Whole seconds until the next minute tick, 0..59 (R23). -/
def State.secondsToTick (s : State) : Nat :=
  min 59 ((s.clock.minuteAt.getD s.time.now - s.time.now) / Config.second)

/-- The clock view (R23, R202). An UNSET time of week, and the hour with it, reads −32768, for which R201 gives no
code: DESIGN CHOICE, notes/assumptions/16.md. -/
def State.clockView (s : State) : List Word :=
  [natOr s.clock.timeOfWeek, natOr (s.clock.timeOfWeek.map hourOfDay), nat s.secondsToTick]

/-! ### Boiler (section 6.2, R124) -/

def State.boilerView (s : State) : List Word :=
  let b := s.boiler.config
  [int b.curveSlope, int b.boostMax, int b.shift, int b.flowMin, int b.flowMax, int b.floorMax, int b.kmod,
   int b.modMin, int b.onDiff, int b.offDiff, int b.tBon, int b.tBoff, int b.tOvr, int b.startsLimit,
   int b.frostOut, int b.outdoorFallback, natOr (b.bypassZone.map Fin.val), int b.minflowPct]

def outdoorCode : OutdoorSource → Word
  | .sensor => 0
  | .held => 1
  | .fallback => 2

def sensorFields (x : Sensor) : List Word := [intOr x.value, statusCode x.status]

/-- The status view of the boiler, in the order of R124. The reported check shows the result of its last evaluation, so
while the burner fires the one before (R121; DESIGN CHOICE, notes/assumptions/31.md). The results of the two checks
read 1 for pass and 0 for fail, which R124 and R201 leave open: DESIGN CHOICE, notes/assumptions/16.md. -/
def State.boilerStatus (s : State) : List Word :=
  let b := s.boiler
  [burnerCode b.burner, waitCode b.burner, flag b.pulse.isSome, nat b.attempts, pumpCode b.pump,
   int s.flowTarget, int s.roomLoad, int s.modulation, intOr s.leadSetpoint] ++
  sensorFields b.tf ++ sensorFields b.tout ++ sensorFields b.tc ++
  [int s.outdoor.1, outdoorCode s.outdoor.2] ++ listField (b.startList.map nat) ++
  [flag s.outdoorFrost, flag s.anyZoneFrost, flag s.burnerDemand, flag (b.reported.getD true), flag s.commandedPass,
   flag b.forcing]

/-! ### Line and link (R159, R202) -/

def State.lineView (s : State) : List Word :=
  [lineCode s.bus.line, nat s.bus.cycle,
   (if s.bus.line = .starting then nat s.bus.starting else absent),
   (if s.bus.line = .lineFault then natOr (s.bus.recovery.map (fun t => shown (s.left t Config.tLFR) Config.second))
    else absent)] ++
  listField (s.bus.announce.map (fun z => nat z.val))

def kindWord (k : RecordKind) : Word := (kindCode k).setWidth 16

/-- The link view (R202). Bits 11..15 of the flags and of the enables are 0: DESIGN CHOICE, notes/assumptions/34.md. -/
def State.linkView (s : State) : List Word :=
  [nat s.link.badCount, s.link.cursor.elim absent (fun c => kindWord c.kind), s.link.flags.setWidth 16,
   s.link.enables.setWidth 16]

/-! ### Devices, join entries and motor (R162, R166, R168, R178) -/

/-- The grant state of a valve (R179). -/
def State.grantCode (s : State) (i : Fin 48) (d : Device) : Word :=
  match d.grant with
  | some g => if g.running then 3 else 2
  | none => if (s.entryOf i).isSome then 1 else 0

/-- A field that the record's kind has; absent for the other kinds. -/
def only (b : Bool) (w : Word) : Word := if b then w else absent

/-- The device fields of table 9.1, with the address after the slot (R202). -/
def State.deviceView (s : State) (i : Fin 48) (d : Device) : List Word :=
  let v := d.kind == .valveHead
  [nat i.val, nat (addressOf i)] ++ halves d.serial ++
  [deviceKindCode d.kind, natOr (d.zone.map Fin.val), deviceStateCode d.state, intOr d.lastTemp, nat d.misses,
   nat d.bad, only (d.kind == .roomUnit) (nat d.lastSeq), only v (intOr d.commanded), only v (int d.target),
   only v (intOr d.reported), only v (motorCode d.motor), only v (s.grantCode i d),
   only v (intOr (d.next.map NextTarget.target)), only v (nat d.failureRun),
   (if v then nat d.exerciseAge else 0), only v (phaseCode d.exercisePhase)]

/-- The number of free slots. -/
def State.freeSlots (s : State) : Nat := (slots.filter (fun i => (s.device i).isNone)).length

/-- The admission view (R168). -/
def State.admissionView (s : State) : List Word :=
  listField (s.registry.order.map (fun i => nat i.val)) ++
  [natOr (s.registry.lastAssign.map Fin.val), nat s.freeSlots]

def joinView (e : JoinEntry) : List Word :=
  halves e.serial ++ [deviceKindCode e.kind, nat e.sightings, nat e.age]

/-- The join entry of a number. -/
def State.joinEntry (s : State) (n : Nat) : Option JoinEntry := s.bus.joins.find? (fun e => e.number == n)

/-- The motor summary (R178). -/
def State.motorView (s : State) : List Word :=
  let m := s.motor
  [int m.tokenLimit, int m.exerciseHour, nat m.outstanding, flag m.grantFlag, nat m.queue.length,
   nat (m.queue.filter (fun e => e.cls == .urgent)).length]

def entryView (e : Entry) : List Word := [nat e.slot.val, runKindCode e.kind, int e.target, classCode e.cls]

/-! ### READ by kind and key -/

/-- What a key and view name (R202). -/
inductive Found where
  | notFound
  | noView
  | fields (view : List Word)
  deriving DecidableEq, Repr

/-- The one view 0 of a record. -/
def only0 (view : Nat) (l : List Word) : Found := if view = 0 then .fields l else .noView

/-- A record that may be missing, with its one view 0. -/
def only0? (view : Nat) (l : Option (List Word)) : Found :=
  match l with
  | some l => only0 view l
  | none => .notFound

/-- The view that READ names by kind, key, view number and, for POINT, zone (R200, R201). -/
def State.find (s : State) (kind : RecordKind) (key : Word) (view : Nat) (zone : Byte) : Found :=
  let k := key.toNat
  match kind with
  | .zone =>
    match zoneKey k with
    | some z => (s.zoneView z view).elim .noView .fields
    | none => .notFound
  | .point =>
    only0? view ((zoneKey zone.toNat).bind (fun z => (pointAt (s.pointsOf z) k).map (pointView z)))
  | .hold =>
    if k = 0 then only0 view s.poolView
    else only0? view ((s.findHold k).map (fun x => s.holdView x.1 x.2))
  | .house => if k = 0 then only0 view s.houseView else .notFound
  | .clock => if k = 0 then only0 view s.clockView else .notFound
  | .boiler =>
    if k = 0 then
      match view with
      | 0 => .fields s.boilerView
      | 1 => .fields s.boilerStatus
      | _ => .noView
    else .notFound
  | .line =>
    match k with
    | 0 => only0 view s.lineView
    | 1 => only0 view s.linkView
    | _ => .notFound
  | .device =>
    if k = 65535 then only0 view s.admissionView
    else only0? view ((slotKey k).bind (fun i => (s.device i).map (s.deviceView i)))
  | .join => only0? view ((s.joinEntry k).map joinView)
  | .motor =>
    if k = 0 then only0 view s.motorView
    else only0? view (s.motor.queue[k - 1]?.map entryView)

end Sys2Proof.Machine
end

