-- ==== Sys2Proof/Machine/Frames.lean ====
section
/-! DEFINITION. The frame: its beginning, what is done with a good frame, and the held response (R196 to R199). -/

namespace Sys2Proof.Machine

/-- Store the Host Link block. -/
def State.setLink (s : State) (l : Link) : State := { s with link := l }

/-- CS falls: the status byte is fixed, and the frame clocks out the held response, or zeros while READY is low
(R196, R197, R199). -/
def State.beginFrame (s : State) : State :=
  s.setLink { s.link with
    shift := []
    frame := some {
      notReady := !s.time.ready
      status := if s.time.ready then s.statusByte else 0
      out := if s.time.ready then some s.link.held else none } }

/-- The byte that SDO carries for each byte shifted in, numbered from 0: the twenty bytes of the response, then zero
bytes; in a frame begun while READY was low zero bytes throughout (R196, R197). -/
def FrameOpen.sdo (f : FrameOpen) (k : Nat) : Byte :=
  match f.out with
  | some r => (responseBytes f.status r).getD k 0
  | none => 0

/-- The frame that ends now: the open one, or one that begins at this very moment (DESIGN CHOICE,
notes/assumptions/12.md). -/
def State.frameNow (s : State) : State := if s.link.frame.isSome then s else s.beginFrame

/-- The frame was begun while READY was low and is discarded whole (R197). -/
def State.frameDiscarded (s : State) : Bool := s.frameNow.link.frame.any FrameOpen.notReady

/-- CS rises: no frame is open. -/
def State.closeFrame (s : State) : State := s.setLink { s.link with frame := none }

/-- A frame of whole bytes is taken at the rise of CS; one begun while READY was low is discarded (R196, R197). -/
def State.takeFrame (s : State) (taken : State → State) : State :=
  if s.frameDiscarded then s.closeFrame else taken s.closeFrame

/-- A good frame: the bad-frame count becomes 0 (R198). -/
def State.goodFrame (s : State) (bytes : List Byte) : State :=
  s.setLink { s.link with shift := bytes, badCount := 0, lastBad := false }

/-- Hold a response (R196). -/
def State.hold (s : State) (r : Response) : State := s.setLink { s.link with held := r }

/-- The bytes shifted in by the frame of a command, the bytes it does not read taken as 0 (DESIGN CHOICE,
notes/assumptions/12.md). -/
def frameBytes (i : Instr) : List Byte := (Frame.encode i).getD []

/-- A host link command: its good frame is taken, the command is executed, and the response to it is held (R196). -/
def State.command (s : State) (i : Instr) (body : State → State × Answer) : State :=
  s.takeFrame (fun t =>
    let r := body (t.goodFrame (frameBytes i))
    r.1.hold { echo := (frameBytes i).getD 0 0, result := r.2.result, payload := r.2.payload })

/-- A command refused: nothing changes, and the payload is zero (R203). -/
def refuse (r : Result) (s : State) : State × Answer := (s, .plain r)

end Sys2Proof.Machine
end

