-- ==== Sys2Proof/Machine/BoilerCommands.lean ====
section
/-! DEFINITION. WRITE of the boiler record and BOILER RESET (R103, R116). -/

namespace Sys2Proof.Machine

/-- The item codes of the boiler record (R201). -/
def boilerCodes : List Nat := [1, 2, 3, 4, 5, 6, 7, 8, 9, 10, 11, 12, 13, 14, 15, 16, 17, 18]

/-- The bypass_zone code is 0..15 or none (R103). -/
def bypassOk (items : List Item) : Bool := (itemWord items 17).all (fun w => (roomOrNone w).isSome)

/-- A pair of the limit check: where either is carried, the lower as written is not above the upper (R103). -/
def pairOk (items : List Item) (low high : Nat) (storedLow storedHigh : Int) : Bool :=
  !(carries items low || carries items high) ||
    decide ((item items low).getD storedLow ≤ (item items high).getD storedHigh)

/-- The whole-write check of the boiler record (R103). -/
def boilerCheck (c : BoilerConfig) (items : List Item) : Bool :=
  codesOk boilerCodes items && bypassOk items && pairOk items 4 6 c.flowMin c.floorMax &&
    pairOk items 4 5 c.flowMin c.flowMax

/-- bypass_zone after a write. -/
def takeBypass (items : List Item) (old : Option (Fin 16)) : Option (Fin 16) :=
  match (itemWord items 17).bind roomOrNone with
  | some z => z
  | none => old

/-- The boiler record after an accepted WRITE, every numeric field clamped to its range (R103). -/
def BoilerConfig.store (c : BoilerConfig) (items : List Item) : BoilerConfig where
  curveSlope := takeItem items 1 2 40 c.curveSlope
  boostMax := takeItem items 2 0 150 c.boostMax
  shift := takeItem items 3 (-100) 100 c.shift
  flowMin := takeItem items 4 200 500 c.flowMin
  flowMax := takeItem items 5 400 850 c.flowMax
  floorMax := takeItem items 6 250 550 c.floorMax
  kmod := takeItem items 7 1 50 c.kmod
  modMin := takeItem items 8 10 50 c.modMin
  onDiff := takeItem items 9 20 150 c.onDiff
  offDiff := takeItem items 10 20 100 c.offDiff
  tBon := takeItem items 11 1 15 c.tBon
  tBoff := takeItem items 12 1 30 c.tBoff
  tOvr := takeItem items 13 1 15 c.tOvr
  startsLimit := takeItem items 14 1 12 c.startsLimit
  frostOut := takeItem items 15 (-100) 100 c.frostOut
  outdoorFallback := takeItem items 16 (-300) 300 c.outdoorFallback
  bypassZone := takeBypass items c.bypassZone
  minflowPct := takeItem items 18 0 50 c.minflowPct

/-- A stored value differs from the value written (R103). -/
def boilerClamped (items : List Item) : Bool :=
  itemClamped items 1 2 40 || itemClamped items 2 0 150 || itemClamped items 3 (-100) 100 ||
  itemClamped items 4 200 500 || itemClamped items 5 400 850 || itemClamped items 6 250 550 ||
  itemClamped items 7 1 50 || itemClamped items 8 10 50 || itemClamped items 9 20 150 ||
  itemClamped items 10 20 100 || itemClamped items 11 1 15 || itemClamped items 12 1 30 ||
  itemClamped items 13 1 15 || itemClamped items 14 1 12 || itemClamped items 15 (-100) 100 ||
  itemClamped items 16 (-300) 300 || itemClamped items 18 0 50

/-- A tBON written no longer than the time already run ends the interval at the write (R103). -/
def State.shortenMinOn (items : List Item) (s : State) : State :=
  if carries items 11 ∧ s.overdue s.boiler.minOn (minutes s.boiler.config.tBon) then
    s.setBoiler { s.boiler with minOn := none }
  else s

/-- A tBOFF written no longer than the time already run ends the interval: READY (R103, R110). -/
def State.shortenOff (items : List Item) (s : State) : State :=
  if carries items 12 ∧ s.boiler.burner = .off ∧
      s.overdue (some s.boiler.lastStop) (minutes s.boiler.config.tBoff) then
    s.setBoiler (s.boiler.moveTo .ready)
  else s

/-- The start of a running pump overrun. -/
def Boiler.overrunStart (b : Boiler) : Option Nat :=
  match b.pump with
  | .overrun t => some t
  | _ => none

/-- A tOVR written no longer than the time already run ends the interval: STOPPED (R103, R119). -/
def State.shortenOverrun (items : List Item) (s : State) : State :=
  if carries items 13 ∧ s.overdue s.boiler.overrunStart (minutes s.boiler.config.tOvr) then
    s.setBoiler { s.boiler with pump := .stopped }
  else s

/-- Forcing ends for the old zone when bypass_zone is written to another value (R122). -/
def State.releaseBypass (s : State) (items : List Item) : State :=
  if s.boiler.forcing ∧ takeBypass items s.boiler.config.bypassZone ≠ s.boiler.config.bypassZone then s.endForcing
  else s

/-- A check that the write brings into force under a firing burner is not evaluated (R121): its result stays that of a
check out of force, which passes (R120; DEDUCED, notes/assumptions/31.md). -/
def State.keepPassing (s : State) : State :=
  if s.boiler.burner = .firing ∧ s.checkInForce = true ∧ s.boiler.reported = none then
    s.setBoiler { s.boiler with reported := some true }
  else s

/-- An accepted WRITE of the boiler record: stored, running timers compared, everything evaluated again (R103). -/
def State.storeBoiler (s : State) (items : List Item) : State :=
  let t := s.releaseBypass items
  let u := (t.setBoiler { t.boiler with config := t.boiler.config.store items }).keepPassing
  State.evaluate (((u.shortenMinOn items).shortenOff items).shortenOverrun items)

/-- WRITE of the boiler record (R103); one with no item changes nothing (DESIGN CHOICE, notes/assumptions/22.md). The key
is checked before the items (DESIGN CHOICE, notes/assumptions/15.md). -/
def State.writeBoiler (s : State) (key : Word) (items : List Item) : State × Answer :=
  if key.toNat ≠ 0 then refuse .notFound s
  else if boilerCheck s.boiler.config items then
    let t := if realItems items = [] then s else s.storeBoiler items
    (t, .record (okOrClamped (boilerClamped items)) 0 t.boilerView)
  else refuse .badValue s

/-- BOILER RESET (R116). -/
def State.boilerReset (s : State) : State × Answer :=
  if s.boiler.burner = .lockedOut then
    if s.boiler.pulse.isSome then (s, .plain .ok)
    else if s.boiler.attempts < 3 then (s.setBoiler { s.boiler with pulse := some s.time.now }, .plain .ok)
    else refuse .state s
  else refuse .state s

/-- WRITE_BOILER (R103). -/
def execWriteBoiler (key : Word) (items : List Item) (s : State) : Host.Outcome State Fault Refusal :=
  .next (s.command (.writeBoiler key items) (fun t => t.writeBoiler key items))

/-- BOILER_RESET (R116). -/
def execBoilerReset (s : State) : Host.Outcome State Fault Refusal :=
  .next (s.command .boilerReset State.boilerReset)

end Sys2Proof.Machine
end

