-- ==== Sys2Proof/Machine/BoilerEvents.lean ====
section
/-! DEFINITION. The events of the Boiler Controller and the Cylinder Channel: the sample, the timers, LOCKOUT and
its reset pulse (chapters 6 and 7). A timer's event brings the time base to the moment the timer runs out. -/

namespace Sys2Proof.Machine

/-! ### The sample (R100 to R102, R114, R133) -/

/-- A sample of one input: a value within −400..1100 is OK and stored; any other reading is a FAULT (R100). -/
def takeSensor (x : Sensor) (reading : Int) : Sensor :=
  if -400 ≤ reading ∧ reading ≤ 1100 then { value := some reading, status := some .ok }
  else { value := x.value, status := some .fault }

/-- Keep a running timer's start, or start it now. -/
def State.startTimer (s : State) (t : Option Nat) : Option Nat := some (t.getD s.time.now)

/-- What a TF sample does to the burner (R102, R114), its value and status stored already. -/
def State.burnerSample (s : State) (reading : Int) : State :=
  match s.boiler.tf.status, s.boiler.burner with
  | some .fault, .lockedOut => s
  | some .fault, .sensorFault => s.setBoiler { s.boiler with recovery := none }
  | some .fault, _ => s.burnerSensorFault
  | _, .sensorFault => s.setBoiler { s.boiler with recovery := s.startTimer s.boiler.recovery }
  | _, .firing => if s.boiler.config.flowMax + 50 ≤ reading then s.burnerOff else s
  | _, _ => s

/-- The TF sample. -/
def State.sampleFlow (s : State) (reading : Int) : State :=
  (s.setBoiler { s.boiler with tf := takeSensor s.boiler.tf reading }).burnerSample reading

/-- The outdoor hold after a TO sample (R101): it runs from the first FAULT of an unbroken run of FAULT samples. -/
def State.holdAfter (s : State) (x : Sensor) : Option Nat :=
  match x.status with
  | some .fault =>
    if s.boiler.tout.status = some .fault then s.boiler.outdoorHold
    else if x.value.isSome then some s.time.now else none
  | _ => none

/-- The TO sample; a change from OK to FAULT raises BOILER (R101). -/
def State.sampleOutdoor (s : State) (reading : Int) : State :=
  let x := takeSensor s.boiler.tout reading
  (s.setBoiler { s.boiler with tout := x, outdoorHold := s.holdAfter x }).raiseIf
    (s.boiler.tout.status == some .ok && x.status == some .fault) .boiler

/-- The TC sample, handed to the Cylinder Channel (R100, R133). -/
def State.sampleCylinder (s : State) (reading : Int) : State :=
  State.channelSample (s.setBoiler { s.boiler with tc := takeSensor s.boiler.tc reading })

/-- One sample of the three inputs with every evaluation attached to it (R100; the order of the inputs is a DESIGN
CHOICE, notes/assumptions/23.md). -/
def State.takeSample (s : State) (tflow tout tcyl : Int) : State :=
  (((s.sampleFlow tflow).sampleOutdoor tout).sampleCylinder tcyl).evaluate

/-- The sample that is due: the time base reaches it, and the next is tSMP later (R100). -/
def State.advanceSample (s : State) (t : Nat) : State :=
  let u := s.reach t
  { u with time := { u.time with sampleAt := some (t + Config.tSMP) } }

/-- SENSOR_SAMPLE (R100): one that falls due while READY is low is taken when READY sets. -/
def execSensorSample (tflow tout tcyl : Int) (s : State) : Host.Outcome State Fault Refusal :=
  .next (
    match s.time.sampleAt with
    | none => s
    | some t =>
      let u := s.advanceSample t
      if s.time.ready then u.takeSample tflow tout tcyl
      else { u with time := { u.time with sampleDue := true } })

/-! ### Timers of the boiler -/

/-- OUTDOOR_HOLD_EXPIRY (R101). -/
def execOutdoorHoldExpiry (s : State) : Host.Outcome State Fault Refusal :=
  .next (
    match s.boiler.outdoorHold with
    | some t =>
      let u := s.reach (t + Config.outdoorHold)
      (u.setBoiler { u.boiler with outdoorHold := none }).evaluate
    | none => s)

/-- SENSOR_RECOVERY_EXPIRY (R102): OFF with tBOFF restarted. -/
def execSensorRecoveryExpiry (s : State) : Host.Outcome State Fault Refusal :=
  .next (
    match s.boiler.burner, s.boiler.recovery with
    | .sensorFault, some t => (s.reach (t + Config.sensorRecovery)).burnerOff.evaluate
    | _, _ => s)

/-- TBOFF_EXPIRY (R110): READY, and a start evaluated at once. -/
def execTboffExpiry (s : State) : Host.Outcome State Fault Refusal :=
  .next (
    if s.time.ready ∧ s.boiler.burner = .off then
      let u := s.reach (s.boiler.lastStop + minutes s.boiler.config.tBoff)
      (u.setBoiler (u.boiler.moveTo .ready)).evaluate
    else s)

/-- TBON_EXPIRY (R113): a stop is evaluated. -/
def execTbonExpiry (s : State) : Host.Outcome State Fault Refusal :=
  .next (
    match s.boiler.burner, s.boiler.minOn with
    | .firing, some t =>
      let u := s.reach (t + minutes s.boiler.config.tBon)
      (u.setBoiler { u.boiler with minOn := none }).evaluate
    | _, _ => s)

/-- WAIT_FLOW_EXPIRY (R111): an unbroken WAIT FLOW stretch raises BOILER once. -/
def execWaitFlowExpiry (s : State) : Host.Outcome State Fault Refusal :=
  .next (
    match s.boiler.burner, s.boiler.waitFlow with
    | .wait .flow, some t =>
      let u := s.reach (t + Config.waitFlowDelay)
      ((u.setBoiler { u.boiler with waitFlow := none }).raise .boiler).evaluate
    | _, _ => s)

/-- PUMP_OVERRUN_EXPIRY (R119): STOPPED when no reason is present. -/
def execPumpOverrunExpiry (s : State) : Host.Outcome State Fault Refusal :=
  .next (
    match s.boiler.pump with
    | .overrun t =>
      let u := s.reach (t + minutes s.boiler.config.tOvr)
      if u.pumpReason then u.evaluate else (u.setBoiler { u.boiler with pump := .stopped }).evaluate
    | _ => s)

/-! ### The start list (R112) -/

/-- The minute tick at the start list: every entry ages by 1, and one that reaches 60 is removed. -/
def State.ageStarts (s : State) : State :=
  s.setBoiler { s.boiler with startList := (s.boiler.startList.map (· + 1)).filter (fun a => decide (a < 60)) }

/-- The Boiler Controller takes the tick: a removal is a change of the list for R111 (R112). -/
def State.tickStarts (s : State) : State := s.ageStarts.evaluate

/-- The oldest entry reaches 60: the Boiler Controller takes the minute tick that is due, so that every entry ages before
a start is evaluated (R112). Where it has taken the tick, or the oldest entry has minutes left, nothing ages
(DESIGN CHOICE, notes/assumptions/4.md). -/
def State.expireStart (s : State) : State :=
  if s.clock.taken.starts = false ∧ s.boiler.startList.head?.any (fun a => decide (59 ≤ a)) then
    (s.takeEarly { s.clock.taken with starts := true }).tickStarts
  else s

/-- START_LIST_ENTRY_EXPIRY (R112): part of the minute tick that is due, so it waits while READY is low. -/
def execStartListEntryExpiry (s : State) : Host.Outcome State Fault Refusal :=
  .next (if s.time.ready then s.expireStart else s)

/-! ### Lockout (R115, R117) -/

/-- LOCKOUT_ASSERT (R115): the level is watched while READY is set. -/
def execLockoutAssert (s : State) : Host.Outcome State Fault Refusal :=
  .next (
    let t := s.setBoiler { s.boiler with lockoutPin := true }
    if s.time.ready ∧ s.boiler.burner ≠ .lockedOut then t.lockOut.evaluate else t)

/-- LOCKOUT_RELEASE (R115): with no pulse running it ends the lockout. -/
def execLockoutRelease (s : State) : Host.Outcome State Fault Refusal :=
  .next (
    let t := s.setBoiler { s.boiler with lockoutPin := false }
    if s.time.ready ∧ s.boiler.burner = .lockedOut ∧ s.boiler.pulse = none then t.endLockout.evaluate else t)

/-- The end of the pulse with LOCKOUT still asserted: one attempt more, at most 3, and BOILER (R117). -/
def State.failedAttempt (s : State) : State :=
  (s.setBoiler { s.boiler with attempts := min 3 (s.boiler.attempts + 1) }).raise .boiler

/-- LOCKOUT_RESET_PULSE_END (R117): BRESET is released and LOCKOUT read. -/
def execLockoutResetPulseEnd (s : State) : Host.Outcome State Fault Refusal :=
  .next (
    match s.boiler.pulse with
    | some t =>
      let u := s.reach (t + Config.tRST)
      let v := u.setBoiler { u.boiler with pulse := none }
      if s.boiler.lockoutPin then v.failedAttempt else v.endLockout.evaluate
    | none => s)

/-! ### Timers of the cylinder channel -/

/-- TPRIO_EXPIRY (R131). -/
def execTprioExpiry (s : State) : Host.Outcome State Fault Refusal :=
  .next (
    match s.cylinder.state, s.cylinder.prio with
    | .charging, some t => (s.reach (t + minutes s.cylinder.tPrio)).prioExpires.evaluate
    | _, _ => s)

/-- TGAP_EXPIRY (R132). -/
def execTgapExpiry (s : State) : Host.Outcome State Fault Refusal :=
  .next (
    match s.cylinder.state, s.cylinder.gap with
    | .gap, some t => (s.reach (t + minutes s.cylinder.tGap)).gapExpires.evaluate
    | _, _ => s)

/-- CYLINDER_RECOVERY_EXPIRY (R133): IDLE, and its evaluation at once. -/
def execCylinderRecoveryExpiry (s : State) : Host.Outcome State Fault Refusal :=
  .next (
    match s.cylinder.state, s.cylinder.recovery with
    | .fault, some t => (s.reach (t + Config.sensorRecovery)).toIdle.evaluate
    | _, _ => s)

end Sys2Proof.Machine
end

