-- ==== Sys2Proof/Machine/HoldCommands.lean ====
section
/-! DEFINITION. CREATE, WRITE and RETIRE of holds, and the expiry of a countdown (chapter 3). -/

namespace Sys2Proof.Machine

/-- A push, a change or a retirement of a hold resolves its zone as part of the event (R40). -/
def State.afterHold (s : State) (z : Fin 17) (before : State) : State := (s.resolve z).evaluateFrom before

/-- The item codes of a hold (R201). -/
def holdCodes : List Nat := [1, 2, 3, 4, 5, 6, 7, 8]

/-- An end kind from its code and the remaining minutes, 0 taken as 1 (R47, R51). -/
def endKindOf (code : Nat) (minutes : Nat) : EndKind :=
  match code with
  | 0 => .nextPoint
  | 1 => .countdown (if minutes = 0 then 1 else minutes)
  | _ => .indefinite

/-- The items a CREATE of a hold needs (R201): zone, setpoint, end kind, retain, and remaining minutes for
COUNTDOWN. -/
def createHoldComplete (items : List Item) : Bool :=
  carries items 2 && carries items 3 && carries items 4 && carries items 7 &&
    (itemNat items 4 != some 1 || carries items 5)

/-- The setpoint or the remaining minutes were clamped (R47). -/
def State.createHoldClamped (s : State) (z : Fin 17) (items : List Item) (setpoint : Int) : Bool :=
  decide (s.holdRange z setpoint ≠ setpoint) || (itemNat items 4 == some 1 && itemNat items 5 == some 0)

/-- CREATE of a hold: values, then the pool (R47). The checks of R201 (an unknown code, a code twice, a missing item)
come before the pool, which R47's order leaves open, and items it does not read are ignored (DESIGN CHOICE,
notes/assumptions/15.md). -/
def State.createHold (s : State) (items : List Item) : State × Answer :=
  if codesOk holdCodes items && createHoldComplete items && enumOk items 4 3 && enumOk items 7 2 then
    match zoneItem items 2, item items 3, itemNat items 4 with
    | some z, some setpoint, some code =>
      if s.pushRefused z then refuse .full s
      else
        let ending := endKindOf code ((itemNat items 5).getD 0)
        let t := s.push z setpoint ending .link (takeFlag items 7 false)
        let view := ((t.stackOf z).head?.map (t.holdView z)).getD []
        (t.afterHold z s,
         .record (okOrClamped (s.createHoldClamped z items setpoint)) (nat s.newHandle) view)
    | _, _, _ => refuse .badValue s
  else refuse .badValue s

/-- The end kind is COUNTDOWN. -/
def EndKind.isCountdown : EndKind → Bool
  | .countdown _ => true
  | _ => false

/-- The end kind after a WRITE is COUNTDOWN (R51). -/
def endsCountdown (h : Hold) (items : List Item) : Bool :=
  match itemNat items 4 with
  | some code => code == 1
  | none => h.ending.isCountdown

/-- The items a WRITE of a hold may carry, and the four refusals of R51. -/
def writeHoldOk (h : Hold) (items : List Item) : Bool :=
  codesOk [3, 4, 5] items && enumOk items 4 3 &&
    (h.ending.isCountdown || !endsCountdown h items || carries items 5) &&
    (!carries items 5 || endsCountdown h items)

/-- The end kind a WRITE stores (R51). -/
def writtenEnding (h : Hold) (items : List Item) : EndKind :=
  if endsCountdown h items then
    match itemNat items 5 with
    | some m => endKindOf 1 m
    | none => h.ending
  else
    match itemNat items 4 with
    | some code => endKindOf code 0
    | none => h.ending

/-- The hold as an accepted WRITE leaves it (R51). -/
def State.writtenHold (s : State) (z : Fin 17) (h : Hold) (items : List Item) : Hold :=
  { h with
    setpoint := (item items 3).elim h.setpoint (s.holdRange z)
    ending := writtenEnding h items }

/-- A value of the WRITE was clamped (R51). -/
def State.writeHoldClamped (s : State) (z : Fin 17) (items : List Item) : Bool :=
  (item items 3).any (fun v => decide (s.holdRange z v ≠ v)) || itemNat items 5 == some 0

/-- WRITE of a hold, checked whole (R51); the handle is looked up before the checks of R201 (DESIGN CHOICE,
notes/assumptions/15.md). -/
def State.writeHold (s : State) (key : Word) (items : List Item) : State × Answer :=
  match s.findHold key.toNat with
  | none => refuse .notFound s
  | some (z, h) =>
    if writeHoldOk h items then
      let g := s.writtenHold z h items
      let t := s.putHold z g
      (t.afterHold z s, .record (okOrClamped (s.writeHoldClamped z items)) key (t.holdView z g))
    else refuse .badValue s

/-- RETIRE of a hold; key 0 is answered BAD_COMMAND (R52). -/
def State.retireHold (s : State) (key : Word) : State × Answer :=
  if key.toNat = 0 then refuse .badCommand s
  else
    match s.findHold key.toNat with
    | none => refuse .notFound s
    | some (z, h) => ((s.dropHold z h.handle).afterHold z s, .plain .ok)

/-- The Hold Stacks take the minute tick (R53). -/
def State.tickHolds (s : State) : State := s.countHolds.resolveAll.evaluate

/-- The countdown of a hold runs out with its last minute: the Hold Stacks take the minute tick that is due, as one
event over all stacks (R53). Where they have taken it, or the hold has minutes left, nothing ends (DESIGN CHOICE,
notes/assumptions/4.md). -/
def State.expireHold (s : State) (handle : Nat) : State :=
  match s.findHold handle with
  | some (_, h) =>
    if s.clock.taken.holds = false ∧ (countDown h).isNone then
      (s.takeEarly { s.clock.taken with holds := true }).tickHolds
    else s
  | none => s

/-- CREATE_HOLD (R47). -/
def execCreateHold (items : List Item) (s : State) : Host.Outcome State Fault Refusal :=
  .next (s.command (.createHold items) (fun t => t.createHold items))

/-- WRITE_HOLD (R51). -/
def execWriteHold (key : Word) (items : List Item) (s : State) : Host.Outcome State Fault Refusal :=
  .next (s.command (.writeHold key items) (fun t => t.writeHold key items))

/-- RETIRE_HOLD (R52). -/
def execRetireHold (key : Word) (s : State) : Host.Outcome State Fault Refusal :=
  .next (s.command (.retireHold key) (fun t => t.retireHold key))

/-- HOLD_COUNTDOWN_EXPIRY (R53): part of the minute tick that is due, so it waits while READY is low. -/
def execHoldCountdownExpiry (handle : Nat) (s : State) : Host.Outcome State Fault Refusal :=
  .next (if s.time.ready then s.expireHold handle else s)

end Sys2Proof.Machine
end

