-- ==== Sys2Proof/Machine/House.lean ====
section
/-! DEFINITION. The shared operations of the House Mode Unit: a change of mode and a wake (R64, R69, R71), and the
answer's view of the record stands in Views.lean. -/

namespace Sys2Proof.Machine

/-- Store the house record. -/
def State.setHouse (s : State) (h : House) : State := { s with house := h }

/-- A change of the house mode with its countdown: MODE_CHANGED, every room zone queued in index order, all 17 zones
resolved (R64, R67, R69; the order is a DESIGN CHOICE, notes/assumptions/14.md). -/
def State.changeMode (s : State) (m : Mode) (countdown : Option Nat) : State :=
  (((s.setHouse { s.house with mode := m, countdown }).raise .modeChanged).announceAll).resolveAll

/-- The enable of a wake cause; LINK has none and is always taken (R69). -/
def House.wakeEnabled (h : House) : WakeCause → Bool
  | .link => true
  | .return => h.wakeReturn
  | .presence _ => h.wakePresence
  | .input => h.wakeInput

/-- Disarm after a PRESENCE or INPUT wake that took effect (R71). -/
def House.disarm (h : House) (cause : WakeCause) : House :=
  match cause with
  | .presence _ | .input =>
    if h.disarmOnWake then { h with wakePresence := false, wakeInput := false } else h
  | .link | .return => h

/-- A wake (R69): in SETBACK or VACANT, with its enable set, it returns the house to OCCUPIED. -/
def State.wake (s : State) (cause : WakeCause) : State :=
  if s.house.wakeEnabled cause ∧ s.house.mode ≠ .occupied then
    State.changeMode (s.setHouse ({ s.house with lastCause := some cause }.disarm cause)) .occupied none
  else s

/-- The return countdown's end: none, then a RETURN wake if its enable is set (R70). -/
def State.returnEnds (s : State) : State :=
  State.wake (s.setHouse { s.house with countdown := none }) .return

/-- The minute tick at the House Mode Unit (R70). -/
def State.countReturn (s : State) : State :=
  match s.house.countdown with
  | some n => if n ≤ 1 then s.returnEnds else s.setHouse { s.house with countdown := some (n - 1) }
  | none => s

/-- The House Mode Unit takes the tick (R70). -/
def State.tickHouse (s : State) : State := s.countReturn.evaluate

end Sys2Proof.Machine
end

