-- ==== Sys2Proof/Machine/Joins.lean ====
section
/-! DEFINITION. The join list and the re-find of a record (chapter 9). -/

namespace Sys2Proof.Machine

/-- Store the Field Bus Controller block. -/
def State.setBus (s : State) (b : Bus) : State := { s with bus := b }

/-! ### The join list (R163, R165) -/

/-- Store the join list; when an exhausted numbering finds the list empty it restarts (R163; DEDUCED,
notes/assumptions/19.md). -/
def State.setJoins (s : State) (l : List JoinEntry) : State :=
  s.setBus { s.bus with
    joins := l
    lastEntry := if l = [] ∧ s.bus.lastEntry = 65535 then 0 else s.bus.lastEntry }

/-- The list without the entry of a number. -/
def State.dropJoin (s : State) (number : Nat) : State :=
  s.setJoins (s.bus.joins.filter (fun e => e.number != number))

/-- An entry a minute older, at its tenth minute none (R165). -/
def JoinEntry.aged (e : JoinEntry) : Option JoinEntry :=
  if e.age + 1 < 10 then some { e with age := e.age + 1 } else none

/-- The minute tick at the join list (R165). -/
def State.ageJoins (s : State) : State := s.setJoins (s.bus.joins.filterMap JoinEntry.aged)

/-- The entry of a serial is sighted again (R164, case 4). -/
def JoinEntry.sighted (e : JoinEntry) (kind : DeviceKind) : JoinEntry :=
  { e with sightings := min 255 (e.sightings + 1), age := 0, kind := kind }

/-- A serial in the join list. -/
def State.joinOf (s : State) (serial : BitVec 32) : Option JoinEntry :=
  s.bus.joins.find? (fun e => e.serial == serial)

/-- A new serial (R164, cases 5 and 6): entered at the tail with JOIN_PENDING, or dropped with JOIN_DROPPED. -/
def State.newJoin (s : State) (serial : BitVec 32) (kind : DeviceKind) : State :=
  if s.bus.joins.length < 8 ∧ s.bus.lastEntry < 65535 then
    (s.setBus { s.bus with
      joins := s.bus.joins ++ [{ number := s.bus.lastEntry + 1, serial, kind, sightings := 1, age := 0 }]
      lastEntry := s.bus.lastEntry + 1 }).raise .joinPending
  else s.raise .joinDropped

/-! ### Re-find (R170, R188) -/

/-- The record as a re-find leaves it, the end of its grant aside (R170). -/
def Device.refound (d : Device) : Device :=
  let e : Device := { d with state := .admitted, misses := 0, lastSeq := 0 }
  match d.kind with
  | .valveHead => { e with commanded := none, failureRun := 0 }
  | .roomSensor | .roomUnit => e

/-- A re-find of a record as one event: ADMITTED and pending, a grant ended without outcome, the queue entry kept; a
valve that was FAULTED is one of its zone's valves again (R170, R181, R188, R122). The exercise phase becomes NONE
though an EXERCISE entry stays (DEDUCED, notes/assumptions/20.md). -/
def State.refind (s : State) (i : Fin 48) (d : Device) : State :=
  let t := (s.endGrant i d.refound).enterOrder i
  if d.state = .faulted then t.joinForcing i else t

/-- The slot of a registered serial (R161). -/
def State.slotOf (s : State) (serial : BitVec 32) : Option (Fin 48) :=
  slots.find? (fun i => (s.device i).any (fun d => d.serial == serial))

/-- A JOIN_REQ of a registered serial (R164, cases 1 to 3). -/
def State.knownJoin (s : State) (i : Fin 48) (kind : DeviceKind) : State :=
  match s.device i with
  | some d => if d.state = .retiring ∨ d.kind ≠ kind then s else s.refind i d
  | none => s

/-- A JOIN_REQ taken at the end of a join slot (R164). -/
def State.takeJoin (s : State) (serial : BitVec 32) (kind : DeviceKind) : State :=
  match s.slotOf serial, s.joinOf serial with
  | some i, _ => s.knownJoin i kind
  | none, some e =>
    s.setBus { s.bus with
      joins := s.bus.joins.map (fun x => if x.number = e.number then e.sighted kind else x) }
  | none, none => s.newJoin serial kind

end Sys2Proof.Machine
end

