-- ==== Sys2Proof/Machine/ClockCommands.lean ====
section
/-! DEFINITION. SET CLOCK, the minute tick and the expiry of a join entry (R24 to R26, R35, R36, R165). -/

namespace Sys2Proof.Machine

/-! ### SET CLOCK -/

/-- The time of week is stored and the minute tick phase restarts: no block has taken the tick now due (R25). -/
def State.startClock (s : State) (time : Nat) : State :=
  { s with clock := { s.clock with
    timeOfWeek := some time, minuteAt := some (s.time.now + Config.tMIN), taken := .none } }

/-- The point in force of a zone differs between two clocks (R36). -/
def pointChanged (l : List Point) (before after : Option Nat) : Bool := inForce l before != inForce l after

/-- The NEXT_POINT holds of every zone whose point in force changed are retired (R36, R54). -/
def State.takePointChanges (s : State) (before : Option Nat) : State :=
  allZones.foldl
    (fun t z => if pointChanged (s.pointsOf z) before s.clock.timeOfWeek then t.retireNextPoint z else t) s

/-- SET CLOCK (R25, R36, R40); it answers with the clock view (R203), laid out as a record's answer (DESIGN
CHOICE, notes/assumptions/15.md). -/
def State.setClock (s : State) (time : Word) : State × Answer :=
  if 10079 < time.toNat then refuse .badValue s
  else
    let t := (((s.startClock time.toNat).takePointChanges s.clock.timeOfWeek).resolveAll).evaluateFrom s
    (t, .record .ok 0 t.clockView)

/-- SET_CLOCK (R25). -/
def execSetClock (time : Word) (s : State) : Host.Outcome State Fault Refusal :=
  .next (s.command (.setClock time) (fun t => t.setClock time))

/-! ### The minute tick -/

/-- The minute after a time of week (R24). -/
def nextMinute (t : Nat) : Nat := if t = 10079 then 0 else t + 1

/-- The clock and the hour counter advance; a wrap of the counter leaves the hour count advance due (R24). No block has
taken the next tick. -/
def Clock.advanced (c : Clock) : Clock :=
  { c with
    timeOfWeek := c.timeOfWeek.map nextMinute
    hourCounter := if 59 ≤ c.hourCounter then 0 else c.hourCounter + 1
    hourDue := c.hourDue || decide (59 ≤ c.hourCounter)
    taken := .none }

/-- The zone's list has a point at the time of week (R35). -/
def State.crossed (s : State) (z : Fin 17) : Bool :=
  s.clock.timeOfWeek.any (fun t => (pointAt (s.pointsOf z) t).isSome)

/-- The point crossings of the tick: each retires its zone's NEXT_POINT holds (R35, R54). -/
def State.takeCrossings (s : State) : State :=
  allZones.foldl (fun t z => if s.crossed z then t.retireNextPoint z else t) s

/-- The Program Store and the Setpoint Resolver take the tick (R24, R35, R40). -/
def State.tickClock (s : State) : State :=
  (State.takeCrossings { s with clock := s.clock.advanced }).resolveAll.evaluate

/-- A block takes the tick as its own event, unless it has taken it already. -/
def State.tickUnless (taken : Bool) (tick : State → State) (s : State) : State := if taken then s else tick s

/-- The minute tick at every block that has not taken it, in the order of R24's clock, holds, house, boiler and bus
(DESIGN CHOICE, notes/assumptions/4.md). -/
def State.minuteTick (s : State) : State :=
  let k := s.clock.taken
  let t := s.tickClock.tickUnless k.holds State.tickHolds |>.tickUnless k.house State.tickHouse
  t.tickUnless k.starts State.tickStarts |>.tickUnless k.joins State.ageJoins

/-- The minute tick that is due: the time base reaches it, and the next is tMIN later (R23). -/
def State.advanceMinute (s : State) (t : Nat) : State :=
  let u := s.reach t
  { u with clock := { u.clock with minuteAt := some (t + Config.tMIN) } }

/-- MINUTE_TICK (R24): one that falls due while READY is low is taken when READY sets (R23). -/
def execMinuteTick (s : State) : Host.Outcome State Fault Refusal :=
  .next (
    match s.clock.minuteAt with
    | none => s
    | some t =>
      let u := s.advanceMinute t
      if s.time.ready then u.minuteTick else { u with time := { u.time with minuteDue := true } })

/-- A join entry in its last minute reaches its age limit: the Field Bus Controller takes the minute tick that is due,
as one event over the list (R165). Where it has taken it, or the entry has minutes left, nothing ages (DESIGN
CHOICE, notes/assumptions/4.md). -/
def State.expireJoin (s : State) (number : Nat) : State :=
  match s.joinEntry number with
  | some e =>
    if s.clock.taken.joins = false ∧ e.aged.isNone then
      (s.takeEarly { s.clock.taken with joins := true }).ageJoins
    else s
  | none => s

/-- JOIN_ENTRY_EXPIRY (R165): part of the minute tick that is due, so it waits while READY is low. -/
def execJoinEntryExpiry (number : Nat) (s : State) : Host.Outcome State Fault Refusal :=
  .next (if s.time.ready then s.expireJoin number else s)

end Sys2Proof.Machine
end

