-- ==== Sys2Proof/Machine/Demand.lean ====
section
/-! DEFINITION. The Demand Engine: the control tick and a zone's computation (chapter 5, R10, R17). -/

namespace Sys2Proof.Machine

/-! ### Zone temperature (R81, R82) -/

/-- The device is ACTIVE, bound to the zone, of one of the kinds; then its last temperature, if it holds one. -/
def Device.reading (d : Device) (z : Fin 16) (room : Bool) : Option Int :=
  if d.zone = some z ∧ d.state = .active ∧ (d.kind != .valveHead) = room then d.lastTemp else none

/-- The readings of the room set (`room`) or of the head set (R81). -/
def State.readings (s : State) (z : Fin 16) (room : Bool) : List Int :=
  slots.filterMap (fun i => (s.device i).bind (fun d => d.reading z room))

/-- The mean of readings, to nearest with halves upward (R82). -/
def mean (l : List Int) : Int := nearestUp l.sum (l.length : Int)

/-- Stage 1: zone temperature and source (R81, R82). -/
def State.zoneTemp (s : State) (z : Fin 16) : Option Int × TempSource :=
  let r := s.readings z true
  let v := s.readings z false
  if r ≠ [] then (some (mean r), .room)
  else if v ≠ [] then (some (mean v - (s.zone z).config.headOffset), .heads)
  else (none, .none)

/-! ### Demand (R83 to R86) -/

/-- The error, clamped to ±100 (R84). -/
def errorOf (setpoint temp : Int) : Int := clamp (setpoint - temp) (-100) 100

/-- The new integral by conditional integration (R85). -/
def newIntegral (c : Control) (i e : Int) : Int :=
  let u0 := c.kp * e + i
  if (1000 ≤ u0 ∧ 0 < e) ∨ (u0 ≤ 0 ∧ e < 0) then i else clamp (i + c.ki * e) 0 1000

/-- The demand from the proportional term and the new integral, slew-limited for FLOOR (R86). -/
def newDemand (c : Control) (previous e i : Int) : Int :=
  let u := clamp (c.kp * e + i) 0 1000
  match c.emitter with
  | .radiator => u
  | .floor => clamp u (previous - 50) (previous + 50)

/-- Stage 2 with a temperature (R84 to R86). -/
def Zone.computed (r : Zone) (t : Int) : Zone :=
  let e := errorOf r.setpoint t
  let i := newIntegral r.config.control r.integral e
  let u := newDemand r.config.control r.previous e i
  { r with integral := i, demand := u, previous := u }

/-- Stage 2 taken blind: the integral and the previous demand are kept (R83). -/
def Zone.blind (r : Zone) : Zone :=
  { r with demand := if r.config.frostFloor < r.setpoint then r.config.blindDemand else 0 }

/-- Stages 1 and 2 stored: temperature, source and demand. -/
def Zone.withTemp (r : Zone) (t : Option Int × TempSource) : Zone :=
  let q := { r with temp := t.1, tempSource := t.2 }
  match t.1 with
  | some v => q.computed v
  | none => q.blind

/-- Stage 3: request hysteresis (R10). -/
def requestState (c : ZoneConfig) (u : Int) : ZoneState → ZoneState
  | .satisfied => if c.requestOn ≤ u then .calling else .satisfied
  | .calling => if u < c.requestOff then .satisfied else .calling
  | .disabled => .disabled

/-- The valve target that a demand gives: ceiling(u / 10), a small opening raised to min_lift (R89). -/
def valveTarget (minLift u : Int) : Int :=
  let p := ceilDiv u 10
  if 0 < p ∧ p < minLift then minLift else p

/-- The zone after stages 1 to 3, with the own target of stage 4. -/
def Zone.ticked (r : Zone) (t : Option Int × TempSource) : Zone :=
  let q := r.withTemp t
  { q with
    state := requestState q.config q.demand q.state
    ownTarget := valveTarget q.config.minLift q.demand }

/-! ### Valve targets (R89 to R92, R94) -/

/-- The deadband of a valve without entry and grant (R90). -/
def outsideDeadband (hysteresis p : Int) (commanded : Option Int) : Bool :=
  match commanded with
  | none => true
  | some c => decide (hysteresis ≤ |p - c|) || (decide (p = 0 ∨ p = 100) && decide (p ≠ c))

/-- The valve is handed p, by what it has (R90, R91). -/
def handsTarget (d : Device) (e : Option Entry) (hysteresis p : Int) : Bool :=
  match d.grant, e with
  | some g, _ => g.kind == .position && p != (d.next.elim g.target NextTarget.target)
  | none, some e => e.kind == .position && p != e.target
  | none, none => outsideDeadband hysteresis p d.commanded

/-- Stage 4 at one valve (R89 to R91). -/
def State.targetValve (hysteresis p : Int) (s : State) (i : Fin 48) : State :=
  match s.device i with
  | some d =>
    let t := s.setTarget i p
    if handsTarget d (s.entryOf i) hysteresis p then t.hand i p .normal else t
  | none => s

/-- Stage 4 at one valve of the bypass zone while forcing is in force (R92). -/
def State.forceValve (s : State) (i : Fin 48) : State :=
  match s.device i with
  | some d =>
    if d.target ≠ 100 ∨ (d.commanded ≠ some 100 ∧ s.entryOf i = none ∧ d.grant = none) then
      s.setAndHand .urgent 100 i
    else s
  | none => s

/-- Forcing is in force for the zone (R92). -/
def State.forced (s : State) (z : Fin 16) : Bool :=
  s.boiler.forcing && s.boiler.config.bypassZone == some z

/-- Stage 4 over the zone's targeted valves, in slot order. -/
def State.targetValves (s : State) (z : Fin 16) : State :=
  if s.forced z then (s.valvesOf z).foldl State.forceValve s
  else (s.valvesOf z).foldl (State.targetValve (s.zone z).config.hysteresis (s.zone z).ownTarget) s

/-! ### The zone's control tick (R79) -/

/-- A pending configuration is applied when its zone leaves CALLING (R17). -/
def Zone.applied (r : Zone) : Zone :=
  match r.pending with
  | some c => { r with config := { r.config with control := c }, pending := none }
  | none => r

/-- The zone left CALLING at this tick with a pending configuration: apply it and raise CONFIG_APPLIED (R17, R88). -/
def State.applyPending (s : State) (z : Fin 16) (was : ZoneState) : State :=
  if was = .calling ∧ (s.zone z).state = .satisfied ∧ (s.zone z).pending.isSome then
    (s.setZone z (s.zone z).applied).raise .configApplied
  else s

/-- Announce the zone when its state changed (R10). -/
def State.announceIf (b : Bool) (z : Fin 16) (s : State) : State := if b then s.announce z else s

/-- The tick of an enabled zone: four stages, then a pending configuration (R79, R88). -/
def State.tickEnabled (s : State) (z : Fin 16) : State :=
  let r := s.zone z
  let q := r.ticked (s.zoneTemp z)
  let t := (s.setZone z q).announceIf (q.state != r.state) z
  ((t.targetValves z).applyPending z r.state)

/-- The tick of a DISABLED zone: its valves are closed (R94). -/
def State.tickDisabled (s : State) (z : Fin 16) : State :=
  (s.setZone z { s.zone z with ownTarget := 0 }).targetValves z

/-- A zone's control tick with the evaluations it causes (R79). -/
def State.zoneTick (s : State) (z : Fin 16) : State :=
  if (s.zone z).enabled then (s.tickEnabled z).evaluate else (s.tickDisabled z).evaluateFrom s

/-- The zone's computation has been taken. -/
def State.tickTaken (s : State) (z : Fin 16) : State :=
  { s with time := { s.time with ticking := s.time.ticking.filter (fun y => y != z) } }

/-- The control tick starts one computation for each room zone (R78; DEDUCED, notes/assumptions/7.md). -/
def State.startTicks (s : State) : State := { s with time := { s.time with ticking := rooms } }

/-- The control tick that is due: the time base reaches it, and the next is tCTL later (R78). -/
def State.advanceControl (s : State) (t : Nat) : State :=
  let u := s.reach t
  { u with time := { u.time with controlAt := some (t + Config.tCTL) } }

/-- CONTROL_TICK (R78): one that falls due while READY is low is taken when READY sets. -/
def execControlTick (s : State) : Host.Outcome State Fault Refusal :=
  .next (
    match s.time.controlAt with
    | none => s
    | some t =>
      let u := s.advanceControl t
      if s.time.ready then u.startTicks else { u with time := { u.time with controlDue := true } })

/-- ZONE_CONTROL_TICK (R79): the computation that the last control tick started for the zone. -/
def execZoneControlTick (zone : Fin 16) (s : State) : Host.Outcome State Fault Refusal :=
  .next (if s.time.ready ∧ zone ∈ s.time.ticking then (s.zoneTick zone).tickTaken zone else s)

end Sys2Proof.Machine
end

