-- ==== Sys2Proof/Machine/Exercise.lean ====
section
/-! DEFINITION. The hour count advance at the Motor Arbiter: valve exercise (R190). -/

namespace Sys2Proof.Machine

/-- A valve an hour older, saturating at 65535 (R190). -/
def Device.aged (d : Device) : Device :=
  match d.kind with
  | .valveHead => { d with exerciseAge := min 65535 (d.exerciseAge + 1) }
  | .roomSensor | .roomUnit => d

/-- Every valve's exercise age rises by 1, whatever its state (R190). -/
def State.ageValves (s : State) : State :=
  { s with registry := { s.registry with devices := mapTable (Option.map Device.aged) s.registry.devices } }

/-- The zone of a device is CALLING; a device bound to no zone counts as not CALLING (R190). -/
def State.zoneCalls (s : State) (d : Device) : Bool := d.zone.any (fun z => (s.zone z).isCalling)

/-- The clock is set and the hour of day is the exercise hour (R190). -/
def State.exerciseHourNow (s : State) : Bool :=
  s.clock.timeOfWeek.any (fun t => decide ((hourOfDay t : Int) = s.motor.exerciseHour))

/-- Due exercise, of a valve without entry and grant (R190). -/
def State.exerciseDue (s : State) (d : Device) : Bool :=
  decide (168 ≤ d.exerciseAge) && s.exerciseHourNow && !s.zoneCalls d

/-- Forced exercise by age (R190). -/
def Device.exerciseForced (d : Device) : Bool := decide (240 ≤ d.exerciseAge)

/-- The valve's exercise phase becomes OPENING with the queue that holds its EXERCISE entry (R190). -/
def State.openExercise (s : State) (i : Fin 48) (d : Device) (q : List Entry) : State :=
  (s.setQueue q).setDevice i (some { d with exercisePhase := .opening })

/-- The EXERCISE entry that a valve without entry gets (R190). -/
def exerciseEntry (i : Fin 48) : Entry := { slot := i, kind := .exercise, target := 100, cls := .normal }

/-- The advance at a valve that holds no grant (R190). -/
def State.exerciseFree (s : State) (i : Fin 48) (d : Device) : State :=
  match s.entryOf i with
  | none =>
    if s.exerciseDue d || d.exerciseForced then s.openExercise i d (enqueue s.motor.queue (exerciseEntry i)) else s
  | some e =>
    if d.exerciseForced && e.kind == .position then
      s.openExercise i d (retarget s.motor.queue i (fun x => { x with kind := .exercise, target := 100 }))
    else s

/-- The advance at one record: a valve that is not FAULTED and not RETIRING may be entered (R190). -/
def State.exerciseAt (s : State) (i : Fin 48) : State :=
  match s.device i with
  | some d => if d.handable && d.grant.isNone then s.exerciseFree i d else s
  | none => s

/-- The hour count advance, over all valve records in slot order (R190). -/
def State.advanceHour (s : State) : State := slots.foldl State.exerciseAt s.ageValves

/-- HOUR_COUNT_ADVANCE (R24, R190): the advance that the last wrap of the hour counter left due. -/
def execHourCountAdvance (s : State) : Host.Outcome State Fault Refusal :=
  .next (
    if s.time.ready ∧ s.clock.hourDue = true then
      State.advanceHour { s with clock := { s.clock with hourDue := false } }
    else s)

end Sys2Proof.Machine
end

