-- ==== Sys2Proof/Machine/HouseCommands.lean ====
section
/-! DEFINITION. The commands and events of the House Mode Unit: WRITE of the house record, SET MODE, the return
countdown's expiry and the WAKE input (chapter 4). -/

namespace Sys2Proof.Machine

/-- The item codes a WRITE of the house record may carry: not the mode, the countdown or the last cause (R66). -/
def houseCodes : List Nat := [3, 4, 5, 6, 8, 9]

/-- The house record after an accepted WRITE (R66). -/
def House.store (h : House) (items : List Item) : House :=
  { h with
    wakeReturn := takeFlag items 3 h.wakeReturn
    wakePresence := takeFlag items 4 h.wakePresence
    wakeInput := takeFlag items 5 h.wakeInput
    disarmOnWake := takeFlag items 6 h.disarmOnWake
    setbackOffset := takeItem items 8 0 100 h.setbackOffset
    vacantSetpoint := takeItem items 9 50 150 h.vacantSetpoint }

/-- WRITE of the house record (R66); a write of setback_offset or vacant_setpoint resolves Z0..Z15. The
key is checked before the items (DESIGN CHOICE, notes/assumptions/15.md). -/
def State.writeHouse (s : State) (key : Word) (items : List Item) : State × Answer :=
  if key.toNat ≠ 0 then refuse .notFound s
  else if codesOk houseCodes items && enumOk items 3 2 && enumOk items 4 2 && enumOk items 5 2 && enumOk items 6 2 then
    let t := s.setHouse (s.house.store items)
    let u := if carries items 8 ∨ carries items 9 then t.resolveRooms.evaluateFrom s else t
    (u, .record (okOrClamped (itemClamped items 8 0 100 || itemClamped items 9 50 150)) 0 u.houseView)
  else refuse .badValue s

/-- A mode from its code (R201). -/
def modeOf (b : Byte) : Option Mode :=
  match b.toNat with
  | 0 => some .occupied
  | 1 => some .setback
  | 2 => some .vacant
  | _ => none

/-- A return countdown as SET MODE carries it: 0 is none (R67). -/
def countdownOf (w : Word) : Option Nat := if w.toNat = 0 then none else some w.toNat

/-- SET MODE carrying SETBACK or VACANT (R67): a mode already in force is kept and only the countdown replaced. -/
def State.enterMode (s : State) (m : Mode) (countdown : Option Nat) : State :=
  if s.house.mode = m then s.setHouse { s.house with countdown }
  else (s.changeMode m countdown).evaluateFrom s

/-- The answer of SET MODE: the first six fields of the house record (R203). -/
def State.answerHouse (s : State) : State × Answer := (s, .record .ok 0 s.houseView)

/-- SET MODE (R67, R68). -/
def State.setMode (s : State) (mode : Byte) (countdown : Word) : State × Answer :=
  match modeOf mode with
  | none => refuse .badValue s
  | some .occupied =>
    if countdown.toNat = 0 then ((s.wake .link).evaluateFrom s).answerHouse else refuse .badValue s
  | some .setback => (s.enterMode .setback (countdownOf countdown)).answerHouse
  | some .vacant => (s.enterMode .vacant (countdownOf countdown)).answerHouse

/-- The return countdown runs out with its last minute: the House Mode Unit takes the minute tick that is due (R70). A
countdown that SET MODE stores after it is counted down at the next tick, as in the table of R76. Where the unit has
taken the tick, or minutes are left, nothing ends (DESIGN CHOICE, notes/assumptions/4.md). -/
def State.expireReturn (s : State) : State :=
  if s.clock.taken.house = false ∧ s.house.countdown = some 1 then
    (s.takeEarly { s.clock.taken with house := true }).returnEnds.evaluateFrom s
  else s

/-- WRITE_HOUSE (R66). -/
def execWriteHouse (key : Word) (items : List Item) (s : State) : Host.Outcome State Fault Refusal :=
  .next (s.command (.writeHouse key items) (fun t => t.writeHouse key items))

/-- SET_MODE (R67, R68). -/
def execSetMode (mode : Byte) (countdown : Word) (s : State) : Host.Outcome State Fault Refusal :=
  .next (s.command (.setMode mode countdown) (fun t => t.setMode mode countdown))

/-- RETURN_COUNTDOWN_EXPIRY (R70): part of the minute tick that is due, so it waits while READY is low. -/
def execReturnCountdownExpiry (s : State) : Host.Outcome State Fault Refusal :=
  .next (if s.time.ready then s.expireReturn else s)

/-- WAKE_INPUT_EDGE (R72): taken while READY is set. -/
def execWakeInputEdge (s : State) : Host.Outcome State Fault Refusal :=
  .next (if s.time.ready then (s.wake .input).evaluateFrom s else s)

end Sys2Proof.Machine
end

