-- ==== Sys2Proof/Machine/LinkCommands.lean ====
section
/-! DEFINITION. The host link's own commands and frames: NOP, READ, SEEK and NEXT, the notices, and the frames that
execute nothing (sections 11.1 to 11.5). -/

namespace Sys2Proof.Machine

/-! ### READ (R202) -/

/-- The bad-telegram count of the record at a slot restarts (R162). -/
def State.clearBad (s : State) (i : Fin 48) : State :=
  match s.device i with
  | some d => s.setDevice i (some { d with bad := 0 })
  | none => s

/-- A READ that returns a device record sets its bad-telegram count to 0 (R162, R202). -/
def State.afterRead (s : State) (kind : RecordKind) (key : Word) : State :=
  match kind, slotKey key.toNat with
  | .device, some i => s.clearBad i
  | _, _ => s

/-- READ: the key, then the view, then the first field number (R202; the order is a DESIGN CHOICE,
notes/assumptions/15.md). -/
def State.readRecord (s : State) (kind : RecordKind) (key : Word) (view first zone : Byte) : State × Answer :=
  match s.find kind key view.toNat zone with
  | .notFound => refuse .notFound s
  | .noView => refuse .badValue s
  | .fields l =>
    if firstOk l first.toNat then
      (s.afterRead kind key, { result := .ok, payload := readPayload l first.toNat })
    else refuse .badValue s

/-- READ (R202). -/
def execRead (kind : RecordKind) (key : Word) (view first zone : Byte) (s : State) :
    Host.Outcome State Fault Refusal :=
  .next (s.command (.read kind key view first zone) (fun t => t.readRecord kind key view first zone))

/-! ### SEEK and NEXT (R204) -/

/-- The kinds a cursor walks (R204). -/
def walks : RecordKind → Bool
  | .zone | .point | .hold | .device | .join => true
  | .house | .clock | .boiler | .line | .motor => false

/-- Store the cursor. -/
def State.setCursor (s : State) (c : Option Cursor) : State := s.setLink { s.link with cursor := c }

/-- SEEK (R204). -/
def State.seek (s : State) (kind : RecordKind) : State × Answer :=
  if walks kind then (s.setCursor (some { kind, last := none }), .plain .ok) else refuse .badCommand s

/-- A record that NEXT returns: its place for the cursor and its key on the link. -/
structure Walked where
  place : CursorKey
  key   : Word
  deriving DecidableEq, Repr

/-- The zone after the cursor's (R3). -/
def nextZone (last : Option CursorKey) : Option Walked :=
  let n := match last with
    | some (.zone i) => i + 1
    | _ => 0
  if n < 17 then some { place := .zone n, key := nat n } else none

/-- A point lies after the cursor's key, by zone and then time (R32). -/
def pointAfter (last : Option CursorKey) (z : Fin 17) (p : Point) : Bool :=
  match last with
  | some (.point y t) => decide (y < z.val ∨ (y = z.val ∧ t < p.time))
  | _ => true

/-- The point after the cursor's in a zone's list. -/
def State.pointIn (s : State) (last : Option CursorKey) (z : Fin 17) : Option Walked :=
  ((s.pointsOf z).find? (pointAfter last z)).map (fun p => { place := .point z.val p.time, key := nat p.time })

/-- The point after the cursor's (R32). -/
def State.nextPointOf (s : State) (last : Option CursorKey) : Option Walked := allZones.findSome? (s.pointIn last)

/-- The greatest push number of a list of holds comes first. -/
def newest : List Hold → Option Hold
  | [] => none
  | h :: l => some (l.foldl (fun m g => if m.pushed < g.pushed then g else m) h)

/-- The hold of a zone that follows the cursor: on the cursor's own zone the one with the greatest push number below
the cursor's; on a later zone the top one (R56). -/
def State.holdIn (s : State) (last : Option CursorKey) (z : Fin 17) : Option Hold :=
  match last with
  | some (.hold y n) =>
    if y = z.val then newest ((s.stackOf z).filter (fun h => decide (h.pushed < n)))
    else if y < z.val then (s.stackOf z).head?
    else none
  | _ => (s.stackOf z).head?

/-- The hold after the cursor's (R56). -/
def State.nextHoldOf (s : State) (last : Option CursorKey) : Option Walked :=
  allZones.findSome? (fun z =>
    (s.holdIn last z).map (fun h => { place := .hold z.val h.pushed, key := nat h.handle }))

/-- A slot lies above the cursor's (R162). -/
def slotAfter (last : Option CursorKey) (i : Fin 48) : Bool :=
  match last with
  | some (.device j) => decide (j < i.val)
  | _ => true

/-- The record at the least held slot above the cursor's (R162). -/
def State.nextDeviceOf (s : State) (last : Option CursorKey) : Option Walked :=
  (slots.find? (fun i => slotAfter last i && (s.device i).isSome)).map
    (fun i => { place := .device i.val, key := nat i.val })

/-- An entry number lies above the cursor's (R166). -/
def joinAfter (last : Option CursorKey) (e : JoinEntry) : Bool :=
  match last with
  | some (.join n) => decide (n < e.number)
  | _ => true

/-- The join entry with the least number above the cursor's; the numbers rise along the list (R163, R166). -/
def State.nextJoinOf (s : State) (last : Option CursorKey) : Option Walked :=
  (s.bus.joins.find? (joinAfter last)).map (fun e => { place := .join e.number, key := nat e.number })

/-- The record that follows the cursor (R204). -/
def State.following (s : State) (c : Cursor) : Option Walked :=
  match c.kind with
  | .zone => nextZone c.last
  | .point => s.nextPointOf c.last
  | .hold => s.nextHoldOf c.last
  | .device => s.nextDeviceOf c.last
  | .join => s.nextJoinOf c.last
  | .house | .clock | .boiler | .line | .motor => none

/-- The zone byte with which READ finds the record of a cursor place. -/
def CursorKey.zoneByte : CursorKey → Byte
  | .point z _ => BitVec.ofNat 8 z
  | _ => 0

/-- NEXT returns a record and moves the cursor to it (R204). -/
def State.returnNext (s : State) (c : Cursor) (w : Walked) (view first : Byte) : State × Answer :=
  match s.find c.kind w.key view.toNat w.place.zoneByte with
  | .fields l =>
    if firstOk l first.toNat then
      ((s.afterRead c.kind w.key).setCursor (some { c with last := some w.place }),
       { result := .ok, payload := keyedPayload w.key l first.toNat })
    else refuse .badValue s
  | .notFound | .noView => refuse .badValue s

/-- NEXT (R204). -/
def State.nextRecord (s : State) (view first : Byte) : State × Answer :=
  match s.link.cursor with
  | none => refuse .state s
  | some c =>
    match s.following c with
    | some w => s.returnNext c w view first
    | none => refuse .finished s

/-- SEEK (R204). -/
def execSeek (kind : RecordKind) (s : State) : Host.Outcome State Fault Refusal :=
  .next (s.command (.seek kind) (fun t => t.seek kind))

/-- NEXT (R204). -/
def execNext (view first : Byte) (s : State) : Host.Outcome State Fault Refusal :=
  .next (s.command (.next view first) (fun t => t.nextRecord view first))

/-! ### Notices (R206) -/

/-- READ NOTICES: the flags and the enables are returned, bits 11..15 of both words and the rest of the payload
0 (DESIGN CHOICE, notes/assumptions/34.md), and every flag returned is cleared (R206). -/
def State.readNotices (s : State) : State × Answer :=
  (s.setLink { s.link with flags := 0 },
   { result := .ok, payload := fill (wordBytes [s.link.flags.setWidth 16, s.link.enables.setWidth 16]) })

/-- WRITE NOTICE ENABLES: bits 0..10 are stored, bits 11..15 ignored (R206). -/
def State.writeEnables (s : State) (mask : Word) : State × Answer :=
  (s.setLink { s.link with enables := mask.setWidth 11 }, .plain .ok)

/-- READ_NOTICES (R206). -/
def execReadNotices (s : State) : Host.Outcome State Fault Refusal := .next (s.command .readNotices State.readNotices)

/-- WRITE_NOTICE_ENABLES (R206). -/
def execWriteNoticeEnables (mask : Word) (s : State) : Host.Outcome State Fault Refusal :=
  .next (s.command (.writeNoticeEnables mask) (fun t => t.writeEnables mask))

/-! ### Frames that execute nothing (R196 to R199) -/

/-- NOP: a good frame; the response it clocked out is held again (R196). -/
def execNop (s : State) : Host.Outcome State Fault Refusal :=
  .next (s.takeFrame (fun t => t.goodFrame (frameBytes .nop)))

/-- BAD_COMMAND: a good frame answered BAD_COMMAND, which changes nothing else (R200). -/
def execBadCommand (command kind : Byte) (s : State) : Host.Outcome State Fault Refusal :=
  .next (s.command (.badCommand command kind) (refuse .badCommand))

/-- A response without a payload. -/
def bareResponse (echo : Byte) (r : Result) : Response := { echo, result := r, payload := fill [] }

/-- A bad frame: CRC_ERROR is held, the count rises, and the step that brings it to 8 raises LINK_FAULT (R198). -/
def State.badFrame (s : State) (bytes : List Byte) : State :=
  (s.setLink { s.link with
    held := bareResponse (bytes.getD 0 0) .crcError
    shift := bytes
    badCount := min 255 (s.link.badCount + 1)
    lastBad := true }).raiseIf (s.link.badCount == 7) .linkFault

/-- FRAME_CRC_ERROR (R198). -/
def execFrameCrcError (bytes : List Byte) (s : State) : Host.Outcome State Fault Refusal :=
  .next (s.takeFrame (fun t => t.badFrame bytes))

/-- A short frame: SHORT is held; the count is unchanged (R197). -/
def State.shortTaken (s : State) (bytes : List Byte) : State :=
  s.setLink { s.link with held := bareResponse 0 .short, shift := bytes }

/-- SHORT_FRAME (R197): a CS low period without one whole byte is no frame. -/
def execShortFrame (bytes : List Byte) (s : State) : Host.Outcome State Fault Refusal :=
  .next (if bytes = [] then s.closeFrame else s.takeFrame (fun t => t.shortTaken bytes))

/-- FRAME_WHILE_NOT_READY (R197): the end of a frame begun while READY was low; it is discarded whole. -/
def execFrameWhileNotReady (s : State) : Host.Outcome State Fault Refusal :=
  .next (if s.frameDiscarded then s.closeFrame else s)

/-- FRAME_BEGIN (R196, R197, R199). -/
def execFrameBegin (s : State) : Host.Outcome State Fault Refusal := .next s.beginFrame

end Sys2Proof.Machine
end

