-- ==== Sys2Proof/Machine/PointCommands.lean ====
section
/-! DEFINITION. CREATE, WRITE and RETIRE of program points (section 2.2). -/

namespace Sys2Proof.Machine

/-- A program list has room for one more point, and so has the pool (R27, R29). -/
def State.pointRoom (s : State) (z : Fin 17) : Bool :=
  decide ((s.pointsOf z).length < 32) && decide (s.pointCount < 256)

/-- An edit of a zone's list resolves the zone as part of the command (R33). -/
def State.editPoints (s : State) (z : Fin 17) (l : List Point) : State :=
  ((s.setPoints z l).resolve z).evaluateFrom s

/-- The item codes of a point: zone, time, level (R201). -/
def pointCodes : List Nat := [1, 2, 3]

/-- CREATE of a point: range, then duplicate, then capacity (R29). The checks of R201 (an unknown code, a code twice, a
missing zone or level) come first, which R29's order leaves open: DESIGN CHOICE, notes/assumptions/15.md. Item 2
of a CREATE is not read: the time is the key (R201). -/
def State.createPoint (s : State) (key : Word) (items : List Item) : State × Answer :=
  if codesOk pointCodes items && carries items 1 then
    match zoneItem items 1, item items 3 with
    | some z, some v =>
      let time := key.toNat
      if 10079 < time then refuse .badValue s
      else if (pointAt (s.pointsOf z) time).isSome then refuse .duplicate s
      else if s.pointRoom z then
        let p : Point := { time, level := storedLevel z v }
        (s.editPoints z (insertPoint p (s.pointsOf z)),
         .record (okOrClamped (levelClamped z v)) key (pointView z p))
      else refuse .full s
    | _, _ => refuse .badValue s
  else refuse .badValue s

/-- The new time of a WRITE of a point lies in the week. -/
def newTimeOk (items : List Item) : Bool := (item items 2).all (fun t => decide (0 ≤ t) && decide (t ≤ 10079))

/-- A zone's list without the point of a time. -/
def withoutPoint (l : List Point) (t : Nat) : List Point := l.filter (fun p => p.time != t)

/-- The point as an accepted WRITE leaves it (R30). -/
def movedPoint (z : Fin 17) (p : Point) (items : List Item) : Point :=
  { time := (item items 2).elim p.time Int.toNat
    level := (item items 3).elim p.level (storedLevel z) }

/-- The list after an accepted WRITE of a point: in its place, or at the place the new time gives (R30). -/
def movePoint (l : List Point) (p q : Point) : List Point := insertPoint q (withoutPoint l p.time)

/-- WRITE of a point, checked whole (R30). The key is looked up first, and the checks of R201 come before DUPLICATE; one
that carries item 1 alone changes nothing, and the answer's key is the new time (DESIGN CHOICE,
notes/assumptions/15.md). -/
def State.writePoint (s : State) (key : Word) (items : List Item) : State × Answer :=
  match (zoneItem items 1).bind (fun z => (pointAt (s.pointsOf z) key.toNat).map (fun p => (z, p))) with
  | none => refuse .notFound s
  | some (z, p) =>
    if codesOk pointCodes items && newTimeOk items then
      let q := movedPoint z p items
      if q.time ≠ p.time ∧ (pointAt (s.pointsOf z) q.time).isSome then refuse .duplicate s
      else
        (s.editPoints z (movePoint (s.pointsOf z) p q),
         .record (okOrClamped ((item items 3).any (levelClamped z))) (nat q.time) (pointView z q))
    else refuse .badValue s

/-- RETIRE of a point (R31). -/
def State.retirePoint (s : State) (key : Word) (zone : Byte) : State × Answer :=
  match (zoneKey zone.toNat).bind (fun z => (pointAt (s.pointsOf z) key.toNat).map (fun p => (z, p))) with
  | none => refuse .notFound s
  | some (z, p) => (s.editPoints z (withoutPoint (s.pointsOf z) p.time), .plain .ok)

/-- CREATE_POINT (R29). -/
def execCreatePoint (key : Word) (items : List Item) (s : State) : Host.Outcome State Fault Refusal :=
  .next (s.command (.createPoint key items) (fun t => t.createPoint key items))

/-- WRITE_POINT (R30). -/
def execWritePoint (key : Word) (items : List Item) (s : State) : Host.Outcome State Fault Refusal :=
  .next (s.command (.writePoint key items) (fun t => t.writePoint key items))

/-- RETIRE_POINT (R31). -/
def execRetirePoint (key : Word) (zone : Byte) (s : State) : Host.Outcome State Fault Refusal :=
  .next (s.command (.retirePoint key zone) (fun t => t.retirePoint key zone))

end Sys2Proof.Machine
end

