-- ==== Sys2Proof/Machine/RegistryCommands.lean ====
section
/-! DEFINITION. ADMIT, WRITE and RETIRE of a device record, RETIRE of a join entry, and WRITE of the motor record
(R166, R167, R171, R172, R178). -/

namespace Sys2Proof.Machine

/-! ### ADMIT (R167) -/

/-- The zone byte of ADMIT: 0..15, or 255 for none; `none` is a code outside these (R205). -/
def admitZone (b : Byte) : Option (Option (Fin 16)) :=
  if h : b.toNat < 16 then some (some ⟨b.toNat, h⟩) else if b.toNat = 255 then some none else none

/-- The lowest free slot. -/
def State.freeSlot (s : State) : Option (Fin 48) := slots.find? (fun i => (s.device i).isNone)

/-- A record at its admission (section 9.1). -/
def Device.admitted (e : JoinEntry) (zone : Option (Fin 16)) : Device where
  serial := e.serial
  kind := e.kind
  zone := zone
  state := .admitted
  lastTemp := none
  misses := 0
  bad := 0
  lastSeq := 0
  commanded := none
  target := 0
  reported := none
  motor := .idle
  grant := none
  next := none
  failureRun := 0
  exerciseAge := 0
  exercisePhase := .none
  fresh := true

/-- An accepted ADMIT (R167). -/
def State.admitAt (s : State) (i : Fin 48) (e : JoinEntry) (zone : Option (Fin 16)) : State :=
  (((((s.setDevice i (some (Device.admitted e zone))).addMember zone e.kind).dropJoin e.number).enterOrder
    i).joinForcing i).evaluateFrom s

/-- ADMIT, checked in order (R167). -/
def State.admitDevice (s : State) (serial : BitVec 32) (zone : Byte) : State × Answer :=
  match admitZone zone with
  | none => refuse .badValue s
  | some z =>
    match s.joinOf serial with
    | none => refuse .notFound s
    | some e =>
      match s.freeSlot with
      | none => refuse .full s
      | some i =>
        if s.zoneFull z e.kind then refuse .zoneFull s
        else
          let t := s.admitAt i e z
          (t, .record .ok (nat i.val) (t.deviceView i (Device.admitted e z)))

/-- ADMIT (R167). -/
def execAdmit (serial : BitVec 32) (zone : Byte) (s : State) : Host.Outcome State Fault Refusal :=
  .next (s.command (.admitDevice serial zone) (fun t => t.admitDevice serial zone))

/-! ### WRITE and RETIRE of a device (R171, R172) -/

/-- The bound zone a WRITE of a device carries; `none` is a write refused with BAD_VALUE (R171). -/
def boundItem (items : List Item) (old : Option (Fin 16)) : Option (Option (Fin 16)) :=
  if codesOk [4] items then (itemWord items 4).elim (some old) roomOrNone else none

/-- An accepted rebind to another zone (R171, R20, R122). -/
def State.rebind (s : State) (i : Fin 48) (d : Device) (zone : Option (Fin 16)) : State :=
  ((((s.setDevice i (some { d with zone := zone })).dropMember d.zone d.kind).addMember zone d.kind).joinForcing
    i).evaluateFrom s

/-- The answer of an accepted WRITE of a device (R203). -/
def State.answerDevice (s : State) (i : Fin 48) : State × Answer :=
  (s, .record .ok (nat i.val) (((s.device i).map (s.deviceView i)).getD []))

/-- WRITE of a record that the key names (R171). The items, a code twice among them (R201), are checked before the record's
state, the state before the zone's limit (DESIGN CHOICE, notes/assumptions/15.md). -/
def State.rebindOr (s : State) (i : Fin 48) (d : Device) (items : List Item) : State × Answer :=
  match boundItem items d.zone with
  | none => refuse .badValue s
  | some z =>
    if d.state = .retiring then refuse .state s
    else if z = d.zone then s.answerDevice i
    else if s.zoneFull z d.kind then refuse .zoneFull s
    else (s.rebind i d z).answerDevice i

/-- The record a key of WRITE or RETIRE names (R162, R171, R172). A key of 48..65535, 65535 too, names none, as a free
slot does, and is answered NOT_FOUND: DESIGN CHOICE, notes/assumptions/15.md. -/
def State.deviceOf (s : State) (key : Word) : Option (Fin 48 × Device) :=
  (slotKey key.toNat).bind (fun i => (s.device i).map (fun d => (i, d)))

/-- WRITE of record kind DEVICE (R171). -/
def State.writeDevice (s : State) (key : Word) (items : List Item) : State × Answer :=
  match s.deviceOf key with
  | some (i, d) => s.rebindOr i d items
  | none => refuse .notFound s

/-- A record is retired (R172, R181, R188). -/
def State.retire (s : State) (i : Fin 48) (d : Device) : State :=
  let t := (s.setQueue (dequeue s.motor.queue i)).endGrant i { d with state := .retiring }
  (if d.state = .admitted then t.leaveOrder i else t).evaluateFrom s

/-- RETIRE of record kind DEVICE (R172). -/
def State.retireDevice (s : State) (key : Word) : State × Answer :=
  match s.deviceOf key with
  | some (i, d) => if d.state = .retiring then (s, .plain .ok) else (s.retire i d, .plain .ok)
  | none => refuse .notFound s

/-- WRITE_DEVICE (R171). -/
def execWriteDevice (key : Word) (items : List Item) (s : State) : Host.Outcome State Fault Refusal :=
  .next (s.command (.writeDevice key items) (fun t => t.writeDevice key items))

/-- RETIRE_DEVICE (R172). -/
def execRetireDevice (key : Word) (s : State) : Host.Outcome State Fault Refusal :=
  .next (s.command (.retireDevice key) (fun t => t.retireDevice key))

/-! ### RETIRE of a join entry (R166) -/

/-- RETIRE of record kind JOIN (R166). -/
def State.retireJoin (s : State) (key : Word) : State × Answer :=
  match s.joinEntry key.toNat with
  | some e => (s.dropJoin e.number, .plain .ok)
  | none => refuse .notFound s

/-- RETIRE_JOIN (R166). -/
def execRetireJoin (key : Word) (s : State) : Host.Outcome State Fault Refusal :=
  .next (s.command (.retireJoin key) (fun t => t.retireJoin key))

/-! ### WRITE of the motor record (R178) -/

/-- The motor record after an accepted WRITE (R178). -/
def Motor.store (m : Motor) (items : List Item) : Motor :=
  { m with
    tokenLimit := takeItem items 1 1 6 m.tokenLimit
    exerciseHour := takeItem items 2 0 23 m.exerciseHour }

/-- WRITE of record kind MOTOR (R178): key, then items, then the line state (DESIGN CHOICE, notes/assumptions/15.md). -/
def State.writeMotor (s : State) (key : Word) (items : List Item) : State × Answer :=
  if key.toNat ≠ 0 then refuse .notFound s
  else if codesOk [1, 2] items then
    if carries items 1 ∧ s.bus.line ≠ .stopped then refuse .state s
    else
      let t := { s with motor := s.motor.store items }
      (t, .record (okOrClamped (itemClamped items 1 1 6 || itemClamped items 2 0 23)) 0 t.motorView)
  else refuse .badValue s

/-- WRITE_MOTOR (R178). -/
def execWriteMotor (key : Word) (items : List Item) (s : State) : Host.Outcome State Fault Refusal :=
  .next (s.command (.writeMotor key items) (fun t => t.writeMotor key items))

end Sys2Proof.Machine
end

