-- ==== Sys2Proof/Machine/Line.lean ====
section
/-! DEFINITION. The line of the field bus and its cycle: RUN, STOP, overcurrent, the recovery timer, the beginning
of a cycle and the window boundary (sections 8.1, 8.2, R182). -/

namespace Sys2Proof.Machine

/-! ### The cycle (R142, R146) -/

/-- The moment of a part of the cycle in progress, from its offset in the timeline of section 8.2. -/
def State.reachPart (s : State) (offset : Nat) : State := s.reach (s.bus.cycleStart + offset)

/-- A device record that a cycle finds: one admitted in the cycle before is served from now on (R161). -/
def Device.settled (d : Device) : Device := { d with fresh := false }

/-- The bus with a new cycle begun now: the counter advances and the BEACON carries it (R146). -/
def Bus.newCycle (b : Bus) (now : Nat) : Bus :=
  { b with
    cycle := (b.cycle + 1) % 256
    cycleStart := now
    part := .beacon
    window := 0
    answer := none
    invited := false
    sent := some (.beacon ((b.cycle + 1) % 256)) }

/-- The beginning of a STARTING cycle adds 1 to the count; the cycle that would be the fourth is the first RUNNING
one (R142). -/
def Bus.countStart (b : Bus) : Bus :=
  if b.line = .starting then
    if 3 ≤ b.starting then { b with line := .running, starting := 0 } else { b with starting := b.starting + 1 }
  else b

/-- A cycle begins (R146). -/
def State.newCycle (s : State) : State :=
  let t := s.setBus (s.bus.newCycle s.time.now).countStart
  { t with registry := { t.registry with devices := mapTable (Option.map Device.settled) t.registry.devices } }

/-- The cycle in progress is abandoned at the point it had reached (R143). -/
def Bus.abandoned (b : Bus) : Bus := { b with answer := none, invited := false, sent := none, starting := 0 }

/-- A move out of RUNNING revokes every grant (R143, R144, R189). -/
def State.leaveRunning (s : State) : State := if s.bus.line = .running then s.revoke else s

/-- STARTING, its count at 0, with a cycle begun at once (R141, R143). -/
def State.startLine (s : State) : State :=
  State.newCycle (s.setBus { s.bus with line := .starting, starting := 0, recovery := none })

/-- STOPPED: drive off, cycle abandoned, recovery timer stopped (R144). -/
def State.stopLine (s : State) : State :=
  let t := s.leaveRunning
  t.setBus { t.bus.abandoned with line := .stopped, recovery := none }

/-- LINE_FAULT: drive off, cycle abandoned, the notice raised, the recovery timer started (R143). -/
def State.faultLine (s : State) : State :=
  let t := s.leaveRunning
  (t.setBus { t.bus.abandoned with line := .lineFault, recovery := some t.time.now }).raise .lineFault

/-- RUN (R141). -/
def State.runLine (s : State) : State × Answer :=
  match s.bus.line with
  | .stopped => (s.startLine, .plain .ok)
  | .starting | .running => (s, .plain .ok)
  | .lineFault => refuse .state s

/-- STOP (R144). -/
def State.stop (s : State) : State × Answer :=
  match s.bus.line with
  | .stopped => (s, .plain .ok)
  | .starting | .running | .lineFault => (s.stopLine.evaluateFrom s, .plain .ok)

/-- RUN (R141). -/
def execRun (s : State) : Host.Outcome State Fault Refusal := .next (s.command .run State.runLine)

/-- STOP (R144). -/
def execStop (s : State) : Host.Outcome State Fault Refusal := .next (s.command .stop State.stop)

/-- OVERCURRENT (R143): detected while the line is STARTING or RUNNING. -/
def execOvercurrent (s : State) : Host.Outcome State Fault Refusal :=
  .next (if s.driveOn then s.faultLine.evaluateFrom s else s)

/-- LINE_FAULT_RECOVERY_EXPIRY (R143): STARTING as though RUN had been taken. -/
def execLineFaultRecoveryExpiry (s : State) : Host.Outcome State Fault Refusal :=
  .next (
    match s.bus.line, s.bus.recovery with
    | .lineFault, some t => (s.reach (t + Config.tLFR)).startLine
    | _, _ => s)

/-- CYCLE_BEGIN (R146): while the line is STARTING or RUNNING, tCYC after the beginning of the cycle before. -/
def execCycleBegin (s : State) : Host.Outcome State Fault Refusal :=
  .next (if s.driveOn then (s.reachPart Config.tCYC).newCycle else s)

/-! ### The window boundary (R147, R182) -/

/-- The entry's valve may be granted: it is ADMITTED or ACTIVE (R182). -/
def State.qualifies (s : State) (e : Entry) : Bool :=
  (s.device e.slot).any (fun d => d.state == .admitted || d.state == .active)

/-- The grant an entry becomes (R182). -/
def State.grantOf (s : State) (e : Entry) : Grant :=
  { running := false, target := e.target, kind := e.kind, cls := e.cls, issued := s.time.now, mark := false }

/-- A grant is issued to the valve of an entry (R182). -/
def State.issue (s : State) (e : Entry) : State :=
  match s.device e.slot with
  | some d =>
    let t := s.setDevice e.slot (some { d with grant := some (s.grantOf e) })
    { t with motor := { t.motor with
      queue := dequeue t.motor.queue e.slot
      outstanding := t.motor.outstanding + 1
      grantFlag := true } }
  | none => s

/-- A window boundary at the Motor Arbiter: the flag is cleared, and one grant at most is issued (R182). -/
def State.takeBoundary (s : State) : State :=
  let t := { s with motor := { s.motor with grantFlag := false } }
  if (t.motor.outstanding : Int) < t.motor.tokenLimit then
    match t.motor.queue.find? t.qualifies with
    | some e => t.issue e
    | none => t
  else t

/-- The boundary is still to come in this cycle: at the beginning of slot 6k, before or after that slot's own
event (R147, R154; DEDUCED, notes/assumptions/13.md). -/
def Bus.boundaryAhead (b : Bus) (k : Fin 8) : Bool :=
  b.line == .running && decide (b.part.index ≤ 6 * k.val + 1) && decide (b.window ≤ k.val)

/-- WINDOW_BOUNDARY (R147, R182). -/
def execWindowBoundary (window : Fin 8) (s : State) : Host.Outcome State Fault Refusal :=
  .next (
    if s.bus.boundaryAhead window then
      let t := s.reachPart (40 + 228 * window.val)
      (t.setBus { t.bus with window := window.val + 1 }).takeBoundary
    else s)

end Sys2Proof.Machine
end

