-- ==== Sys2Proof/Machine/ZoneCommands.lean ====
section
/-! DEFINITION. WRITE of a zone record: WRITE_ZONE, ENABLE, DISABLE, ZW_ENABLE, ZW_DISABLE (sections 1.3 to 1.6,
7.1). -/

namespace Sys2Proof.Machine

/-! ### Enable and disable (R8, R9) -/

/-- The computed fields as an enable, a disable or a warm reset leaves them (R8, R9, R22). -/
def Zone.cleared (r : Zone) (st : ZoneState) : Zone :=
  { r with
    state := st, pending := none, demand := 0, previous := 0, integral := 0, temp := none, tempSource := .none
    ownTarget := 0 }

/-- ENABLE of a DISABLED room zone (R8); of an enabled zone it changes nothing. -/
def State.enableRoom (s : State) (z : Fin 16) : State :=
  if (s.zone z).enabled then s
  else ((s.setZone z ((s.zone z).cleared .satisfied)).announce z).resolveRoom z

/-- DISABLE of an enabled room zone (R9); of a DISABLED zone it changes nothing. -/
def State.disableRoom (s : State) (z : Fin 16) : State :=
  if (s.zone z).enabled then ((s.setZone z ((s.zone z).cleared .disabled)).announce z).resolveRoom z
  else s

/-! ### The whole-write check (R11, R12) -/

/-- The item codes of a room zone: the fifteen fields and the enable item (R201). -/
def roomCodes : List Nat := [1, 2, 3, 4, 5, 6, 7, 8, 9, 10, 11, 12, 13, 14, 15, 16]

/-- The frost floor as written is not above the comfort ceiling (R12). -/
def floorLimitOk (c : ZoneConfig) (items : List Item) : Bool :=
  !(carries items 8 || carries items 9) ||
    decide ((item items 8).getD c.frostFloor ≤ (item items 9).getD c.comfortCeiling)

/-- request_off as written is below request_on (R12). -/
def requestLimitOk (c : ZoneConfig) (items : List Item) : Bool :=
  !(carries items 11 || carries items 12) ||
    decide ((item items 12).getD c.requestOff < (item items 11).getD c.requestOn)

/-- The whole-write check of a room zone (R11, R12). -/
def roomCheck (c : ZoneConfig) (items : List Item) : Bool :=
  codesOk roomCodes items && enumOk items 1 2 && enumOk items 15 2 && enumOk items 16 2 &&
    floorLimitOk c items && requestLimitOk c items

/-! ### Storing the fields (R13 to R16) -/

/-- The emitter after a write. -/
def takeEmitter (items : List Item) (old : Emitter) : Emitter :=
  match itemNat items 1 with
  | some v => if v = 0 then .radiator else .floor
  | none => old

/-- The four control values with the written fields replaced, clamped (R13, R16). -/
def storeControl (c : Control) (items : List Item) : Control :=
  { emitter := takeEmitter items c.emitter
    weight := takeItem items 2 1 100 c.weight
    kp := takeItem items 3 1 100 c.kp
    ki := takeItem items 4 0 20 c.ki }

/-- request_off after a write that stored request_on `on` (R13): the written value clamped, or the stored one lowered
when the write carries request_on. -/
def requestOffAfter (c : ZoneConfig) (items : List Item) (on : Int) : Int :=
  match item items 12 with
  | some v => clamp v 0 (on - 10)
  | none => if carries items 11 then min c.requestOff (on - 10) else c.requestOff

/-- The immediate fields after a write (R13, R14). -/
def storeImmediate (c : ZoneConfig) (items : List Item) : ZoneConfig :=
  let on := takeItem items 11 50 500 c.requestOn
  { c with
    minLift := takeItem items 5 0 30 c.minLift
    hysteresis := takeItem items 6 1 10 c.hysteresis
    headOffset := takeItem items 7 0 50 c.headOffset
    frostFloor := takeItem items 8 50 100 c.frostFloor
    comfortCeiling := takeItem items 9 150 300 c.comfortCeiling
    defaultSetpoint := takeItem items 10 50 300 c.defaultSetpoint
    requestOn := on
    requestOff := requestOffAfter c items on
    blindDemand := takeItem items 13 0 1000 c.blindDemand
    deviceHoldMinutes := takeItem items 14 15 480 c.deviceHoldMinutes
    vacantKeep := takeFlag items 15 c.vacantKeep }

/-- A stored value differs from the value written, or request_off was lowered (R11, R13). -/
def roomClamped (c : ZoneConfig) (items : List Item) : Bool :=
  let on := takeItem items 11 50 500 c.requestOn
  itemClamped items 2 1 100 || itemClamped items 3 1 100 || itemClamped items 4 0 20 ||
  itemClamped items 5 0 30 || itemClamped items 6 1 10 || itemClamped items 7 0 50 ||
  itemClamped items 8 50 100 || itemClamped items 9 150 300 || itemClamped items 10 50 300 ||
  itemClamped items 11 50 500 || itemClamped items 13 0 1000 || itemClamped items 14 15 480 ||
  decide (requestOffAfter c items on ≠ (item items 12).getD c.requestOff)

/-- The write carries a control field. -/
def carriesControl (items : List Item) : Bool :=
  carries items 1 || carries items 2 || carries items 3 || carries items 4

/-- The control fields go into the pending configuration: the zone is CALLING (R16). -/
def goesPending (r : Zone) (items : List Item) : Bool := carriesControl items && r.isCalling

/-- The fields are taken in the zone's current state (R14, R15, R16). -/
def Zone.store (r : Zone) (items : List Item) : Zone :=
  let control := storeControl r.config.control items
  if goesPending r items then
    { r with config := storeImmediate r.config items, pending := some control }
  else { r with config := { storeImmediate r.config items with control } }

/-- A field whose write resolves the zone again (R14). -/
def carriesSetpointInput (items : List Item) : Bool :=
  carries items 8 || carries items 9 || carries items 10 || carries items 15

/-- Resolve the zone again where the event changed one of its inputs. -/
def State.resolveIf (b : Bool) (z : Fin 17) (s : State) : State := if b then s.resolve z else s

/-- DISABLE first, then the fields in the zone's current state, then ENABLE (R15). -/
def State.storeRoom (s : State) (z : Fin 16) (items : List Item) : State :=
  let t := if itemNat items 16 = some 0 then s.disableRoom z else s
  let u := (t.setZone z ((t.zone z).store items)).resolveIf (carriesSetpointInput items) (roomIndex z)
  if itemNat items 16 = some 1 then u.enableRoom z else u

/-- The answer of an accepted write of a room zone: PENDING, else CLAMPED, else OK (R11). -/
def roomResult (r : Zone) (items : List Item) : Result :=
  if goesPending r items ∧ itemNat items 16 ≠ some 0 then .pending
  else okOrClamped (roomClamped r.config items)

/-- WRITE of a room zone record (R11 to R16). -/
def State.writeRoom (s : State) (z : Fin 16) (items : List Item) : State × Answer :=
  if roomCheck (s.zone z).config items then
    let t := (s.storeRoom z items).evaluateFrom s
    (t, .record (roomResult (s.zone z) items) (nat z.val) (t.zone z).configView)
  else refuse .badValue s

/-! ### Record ZW (R7, R127) -/

/-- The item codes of ZW (R201). -/
def cylinderCodes : List Nat := [16, 17, 18, 19, 20, 21]

/-- The default target after a write (R7). -/
def takeLevel (items : List Item) (old : Level) : Level :=
  match item items 21 with
  | some v => cylinderLevel v
  | none => old

/-- The cylinder fields after a write, each clamped to its range (R127, R7). -/
def Cylinder.store (c : Cylinder) (items : List Item) : Cylinder :=
  { c with
    dhwHyst := takeItem items 17 20 150 c.dhwHyst
    chargeMargin := takeItem items 18 50 250 c.chargeMargin
    tPrio := takeItem items 19 10 120 c.tPrio
    tGap := takeItem items 20 5 60 c.tGap
    defaultTarget := takeLevel items c.defaultTarget }

/-- A stored value of ZW differs from the value written (R7, R127). -/
def cylinderClamped (items : List Item) : Bool :=
  itemClamped items 17 20 150 || itemClamped items 18 50 250 || itemClamped items 19 10 120 ||
  itemClamped items 20 5 60 || (item items 21).any cylinderLevelClamped

/-- A tPRIO written no longer than the time it has run ends the interval (R127). -/
def State.shortenPrio (items : List Item) (s : State) : State :=
  if carries items 19 ∧ s.cylinder.state = .charging ∧ s.overdue s.cylinder.prio (minutes s.cylinder.tPrio) then
    s.prioExpires
  else s

/-- A tGAP written no longer than the time it has run ends the interval (R127). -/
def State.shortenGap (items : List Item) (s : State) : State :=
  if carries items 20 ∧ s.cylinder.state = .gap ∧ s.overdue s.cylinder.gap (minutes s.cylinder.tGap) then
    s.gapExpires
  else s

/-- DISABLE first, then the fields, then ENABLE (R7, R15); a new default target resolves ZW. The end of an interval by a
shortened tPRIO or tGAP is taken before the evaluation of the new target (R127; DESIGN CHOICE,
notes/assumptions/33.md). -/
def State.storeCylinder (s : State) (items : List Item) : State :=
  let t := if itemNat items 16 = some 0 then s.disableCylinder else s
  let u := State.resolveIf (carries items 21) zw { t with cylinder := t.cylinder.store items }
  let v := (u.shortenGap items).shortenPrio items
  if itemNat items 16 = some 1 then v.enableCylinder else v

/-- The write stores a field of ZW. -/
def carriesCylinder (items : List Item) : Bool :=
  carries items 17 || carries items 18 || carries items 19 || carries items 20 || carries items 21

/-- The evaluation that a WRITE of ZW takes, whatever the values it stores (R128); the enable item alone is an event
like any other. -/
def State.evaluateWrite (s : State) (items : List Item) (before : State) : State :=
  if carriesCylinder items then s.evaluate else s.evaluateFrom before

/-- WRITE of record ZW (R7, R127). -/
def State.writeCylinder (s : State) (items : List Item) : State × Answer :=
  if codesOk cylinderCodes items && enumOk items 16 2 then
    let t := (s.storeCylinder items).evaluateWrite items s
    (t, .record (okOrClamped (cylinderClamped items)) (nat 16) t.cylinderView)
  else refuse .badValue s

/-- WRITE of record kind ZONE: keys 17..65535 are answered NOT_FOUND (R3), before the items are checked (DESIGN CHOICE,
notes/assumptions/15.md). -/
def State.writeZone (s : State) (key : Word) (items : List Item) : State × Answer :=
  match zoneKey key.toNat with
  | some z =>
    match roomOf z with
    | some r => s.writeRoom r items
    | none => s.writeCylinder items
  | none => refuse .notFound s

/-- The enable item alone: ENABLE is 1, DISABLE 0 (R201). -/
def enableItem (v : Word) : List Item := [{ code := 16, value := v }]

/-! ### The meanings -/

/-- WRITE_ZONE (R11). -/
def execWriteZone (key : Word) (items : List Item) (s : State) : Host.Outcome State Fault Refusal :=
  .next (s.command (.writeZone key items) (fun t => t.writeZone key items))

/-- ENABLE of a room zone (R8). -/
def execEnable (zone : Fin 16) (s : State) : Host.Outcome State Fault Refusal :=
  .next (s.command (.enable zone) (fun t => t.writeRoom zone (enableItem 1)))

/-- DISABLE of a room zone (R9). -/
def execDisable (zone : Fin 16) (s : State) : Host.Outcome State Fault Refusal :=
  .next (s.command (.disable zone) (fun t => t.writeRoom zone (enableItem 0)))

/-- ENABLE of ZW (R7). -/
def execZwEnable (s : State) : Host.Outcome State Fault Refusal :=
  .next (s.command .zwEnable (fun t => t.writeCylinder (enableItem 1)))

/-- DISABLE of ZW (R7). -/
def execZwDisable (s : State) : Host.Outcome State Fault Refusal :=
  .next (s.command .zwDisable (fun t => t.writeCylinder (enableItem 0)))

end Sys2Proof.Machine
end

