-- ==== Sys2Proof/Machine/Resets.lean ====
section
/-! DEFINITION. Power-on reset, the release of RESETn, READY, and the warm reset of every block (R207, R21, R22, R63,
R77, R99, R125, R126, R139, R160, R176, R195). -/

namespace Sys2Proof.Machine

/-! ### RESETn -/

/-- POWER_ON_RESET (R207): RESETn is held low. The queue of commands and the level of the LOCKOUT input lie outside
the part's reset; the model's clock runs on (DESIGN CHOICE, notes/assumptions/6.md). An open frame that was begun while
READY was low stays one, and is discarded whole (R197). One begun while READY was set is forgotten, so the rise of CS
that ends it after READY counts as a frame begun then and is taken (DESIGN CHOICE, notes/assumptions/6.md,
notes/assumptions/12.md). -/
def execPowerOnReset (s : State) : Host.Outcome State Fault Refusal :=
  .next { State.reset with
    time := { TimeBase.reset with now := s.time.now }
    boiler := { Boiler.reset with lockoutPin := s.boiler.lockoutPin }
    link := { Link.reset with frame := s.link.frame.filter FrameOpen.notReady }
    pending := s.pending }

/-- RESETn is released: tPOR, the minute tick and the control tick run from here (R23, R78, R207). -/
def State.releaseReset (s : State) : State :=
  { s with
    time := { s.time with
      resetn := true
      released := some s.time.now
      controlAt := some (s.time.now + Config.tCTL) }
    clock := { s.clock with minuteAt := some (s.time.now + Config.tMIN) } }

/-- RESETN_RELEASE (R207). -/
def execResetnRelease (s : State) : Host.Outcome State Fault Refusal :=
  .next (if s.time.resetn then s else s.releaseReset)

/-! ### The warm reset of the blocks -/

/-- A room zone in a warm reset (R22). -/
def Zone.warm (r : Zone) : Zone := r.cleared (if r.enabled then .satisfied else .disabled)

/-- The Zone Table and the Demand Engine (R22, R99). The computations of a control tick that have not been taken wait for
READY (R78; DEDUCED, notes/assumptions/7.md). -/
def State.warmZones (s : State) : State :=
  { s with
    zones := mapTable Zone.warm s.zones
    time := { s.time with wasCalling := rooms.filter (fun z => (s.zone z).isCalling) } }

/-- The Cylinder Channel (R22, R139). -/
def Cylinder.warm (c : Cylinder) : Cylinder :=
  match c.state with
  | .charging | .gap => c.moveTo .idle
  | .idle | .disabled | .fault => { c with prio := none, gap := none, recovery := none }

/-- The burner state a warm reset leaves: LOCKED_OUT while LOCKOUT is asserted, else OFF (R126; DEDUCED,
notes/assumptions/17.md). -/
def Boiler.warmBurner (b : Boiler) : Burner := if b.lockoutPin = true ∧ b.burner = .lockedOut then .lockedOut else .off

/-- The Boiler Controller (R126). -/
def Boiler.warm (b : Boiler) : Boiler :=
  { b.moveTo b.warmBurner with pulse := none, pump := .stopped, forcing := false }

/-- The Field Bus Controller (R144, R160, R163); the announcement queue is refilled when READY sets. -/
def Bus.warm (b : Bus) : Bus :=
  { b.abandoned with
    line := .stopped
    recovery := none
    cycle := 0
    part := .beacon
    window := 0
    announce := []
    joins := []
    lastEntry := 0 }

/-- A device record in a warm reset (R176, R195): of a valve the commanded position becomes unknown and the grant
fields return to those of no grant. -/
def Device.warm (d : Device) : Device :=
  let e : Device := match d.kind with
    | .valveHead =>
      { d with commanded := none, grant := none, next := none, failureRun := 0, exercisePhase := .none }
    | .roomSensor | .roomUnit => d
  if d.state = .retiring then e else { e with state := .stale, misses := 5 }

/-- The Device Registry (R176). -/
def Registry.warm (r : Registry) : Registry :=
  { devices := mapTable (Option.map Device.warm) r.devices, order := [], lastAssign := none }

/-- The Motor Arbiter (R195). -/
def Motor.warm (m : Motor) : Motor := { m with queue := [], outstanding := 0, grantFlag := false }

/-- Every block takes its warm reset; READY clears (R207). -/
def State.warm (s : State) : State :=
  let t := s.warmZones.dropUnretained
  { t with
    time := { t.time with ready := false, warm := true }
    cylinder := t.cylinder.warm
    boiler := t.boiler.warm
    bus := t.bus.warm
    registry := t.registry.warm
    motor := t.motor.warm
    link := { t.link with badCount := 0, cursor := none } }

/-- WARM_RESET (R207). -/
def execWarmReset (s : State) : Host.Outcome State Fault Refusal :=
  .next (s.command .warmReset (fun t => (t.warm, .plain .ok)))

/-! ### READY sets -/

/-- LOCKOUT as READY sets (R115, R125, R126; DEDUCED, notes/assumptions/17.md). -/
def State.readyLockout (s : State) : State :=
  if s.boiler.lockoutPin = true then (if s.boiler.burner = .lockedOut then s else s.lockOut)
  else (if s.boiler.burner = .lockedOut ∧ s.boiler.pulse = none then s.endLockout else s)

/-- A burner that a warm reset left OFF moves at once to SENSOR_FAULT when TF's status is FAULT (R126). -/
def State.readyFault (s : State) : State :=
  if s.boiler.tf.status = some .fault ∧ s.boiler.burner = .off then s.burnerSensorFault else s

/-- READY is set. -/
def State.setReady (s : State) : State :=
  { s with time := { s.time with ready := true, warm := false } }

/-- The last stop of a burner that leaves a reset OFF is the moment READY sets (R110, R125, R126). -/
def State.stopAtReady (s : State) : State :=
  if s.boiler.burner = .off then s.setBoiler { s.boiler with lastStop := s.time.now } else s

/-- The first READY, tPOR after the release: the first sample is taken now (R100, R125, R207). -/
def State.firstReady (s : State) (tflow tout tcyl : Int) : State :=
  let t := (s.reach (s.time.released.getD s.time.now + Config.tPOR)).setReady
  let u := { t with time := { t.time with sampleAt := some (t.time.now + Config.tSMP) } }
  u.stopAtReady.readyLockout.takeSample tflow tout tcyl

/-- The announcement queue after a warm reset, in index order: the zones that were CALLING, and those whose setpoint
differs from the one before (R22). -/
def State.refill (s before : State) : State :=
  s.setBus { s.bus with
    announce := rooms.filter (fun z =>
      decide (z ∈ s.time.wasCalling) || decide ((s.zone z).setpoint ≠ (before.zone z).setpoint)) }

/-- A sample that fell due while READY was low (R100). -/
def State.dueSample (s : State) (tflow tout tcyl : Int) : State :=
  if s.time.sampleDue = true then
    State.takeSample { s with time := { s.time with sampleDue := false } } tflow tout tcyl
  else s

/-- A minute tick that fell due while READY was low (R23). -/
def State.dueMinute (s : State) : State :=
  if s.time.minuteDue = true then State.minuteTick { s with time := { s.time with minuteDue := false } } else s

/-- A control tick that fell due while READY was low (R78). -/
def State.dueControl (s : State) : State :=
  if s.time.controlDue = true then State.startTicks { s with time := { s.time with controlDue := false } } else s

/-- READY after a warm reset: the resolution of all 17 zones, the refilled queue, the boiler and the channel as their
inputs stand, then what fell due (R22, R23, R40, R78, R100, R126, R139). The order is a DESIGN CHOICE,
notes/assumptions/10.md; no time passes, notes/assumptions/29.md. -/
def State.warmReady (s : State) (tflow tout tcyl : Int) : State :=
  let t := (s.setReady.resolveAll).refill s
  (((t.stopAtReady.readyLockout.readyFault.evaluate).dueSample tflow tout tcyl).dueMinute).dueControl

/-- READY_SET (R207): tPOR after RESETn release, or the end of a warm reset. -/
def execReadySet (tflow tout tcyl : Int) (s : State) : Host.Outcome State Fault Refusal :=
  .next (
    if s.time.ready = true ∨ s.time.resetn = false then s
    else if s.time.warm then s.warmReady tflow tout tcyl
    else s.firstReady tflow tout tcyl)

end Sys2Proof.Machine
end

