-- ==== Sys2Proof/Machine/Telegrams.lean ====
section
/-! DEFINITION. The field bus telegrams as bytes, and what the controller reads from a received one (section 8.3,
section 11.7). -/

namespace Sys2Proof.Machine

/-! ### Sent -/

/-- The two bytes of a word. -/
def bytesOf (w : Word) : List Byte := [w.hi, w.lo]

/-- A count as one byte. -/
def byte1 (n : Nat) : Byte := BitVec.ofNat 8 n

/-- The flags byte of ANNOUNCE: the house mode in bits 2..1 and the calling flag in bit 0 (section 11.7). Bits 3..7, which
it leaves open, are 0: DESIGN CHOICE, notes/assumptions/35.md. -/
def announceFlags (calling : Bool) (m : Mode) : Byte :=
  (if calling then 1 else 0) ||| ((modeCode m).setWidth 8 <<< 1)

/-- The bytes of a telegram before its check byte (section 11.7). Bits 1..7 of the flags byte of MOVE, which it leaves
open, are 0: DESIGN CHOICE, notes/assumptions/35.md. -/
def Telegram.body : Telegram → List Byte
  | .beacon cycle => [0x51, byte1 cycle]
  | .poll address echo group => [0x52, byte1 address, byte1 echo, byte1 group]
  | .move address target exercise =>
    [0x53, byte1 address, (int target).lo, if exercise then 1 else 0]
  | .release address => [0x54, byte1 address]
  | .announce group setpoint temp calling mode =>
    [0x55, byte1 group] ++ bytesOf (int setpoint) ++ bytesOf (intOr temp) ++ [announceFlags calling mode]
  | .invite => [0x56]
  | .assign serial address => 0x57 :: (halves serial).flatMap bytesOf ++ [byte1 address]

/-- The bytes of a telegram on the pair (R2). -/
def Telegram.bytes (t : Telegram) : List Byte := withCrc t.body

/-! ### Received in a device slot (R148, R151) -/

/-- The button events of a room unit. -/
inductive Button where
  | none | up | down | cancel | presence
  deriving DecidableEq, Repr

/-- A REPORT of the kind of record that owns the slot. -/
inductive Report where
  | valve (temp position : Int) (motor : MotorState)
  | sensor (temp : Int)
  | unit (temp : Int) (button : Button) (sequence : Nat)
  deriving DecidableEq, Repr

/-- The outcome of a slot (R151). -/
inductive Reception where
  | good (r : Report)
  | miss
  | badTelegram
  deriving DecidableEq, Repr

/-- A motor state from its code. -/
def motorOf (b : Byte) : Option MotorState :=
  match b.toNat with
  | 0 => some .idle
  | 1 => some .running
  | 2 => some .stalled
  | _ => none

/-- A button event from its code. -/
def buttonOf (b : Byte) : Option Button :=
  match b.toNat with
  | 0 => some .none
  | 1 => some .up
  | 2 => some .down
  | 3 => some .cancel
  | 4 => some .presence
  | _ => none

/-- A device kind from its code. -/
def deviceKindOf (b : Byte) : Option DeviceKind :=
  match b.toNat with
  | 0 => some .valveHead
  | 1 => some .roomSensor
  | 2 => some .roomUnit
  | _ => none

/-- A temperature carried in two bytes. -/
def tempOf (hi lo : Byte) : Int := (Word.ofBytes hi lo).toInt

/-- The fields of a REPORT as the owner's kind gives them, each within its codes; none where the length, the kind
byte, the address or a field does not fit (R148, R151). The list is the telegram without its check byte. -/
def readReport (kind : DeviceKind) (address : Nat) (body : List Byte) : Option Report :=
  match kind, body with
  | .valveHead, [0x61#8, a, t1, t0, p, m] =>
    if a.toNat = address ∧ p.toNat ≤ 100 then (motorOf m).map (Report.valve (tempOf t1 t0) p.toNat) else none
  | .roomSensor, [0x61#8, a, t1, t0] => if a.toNat = address then some (.sensor (tempOf t1 t0)) else none
  | .roomUnit, [0x61#8, a, t1, t0, b, q] =>
    if a.toNat = address ∧ q.toNat ≤ 7 then (buttonOf b).map (fun e => .unit (tempOf t1 t0) e q.toNat) else none
  | _, _ => none

/-- The reported temperature. -/
def Report.temp : Report → Int
  | .valve t _ _ => t
  | .sensor t => t
  | .unit t _ _ => t

/-- The range of a kind's temperature (R80). -/
def tempInRange (kind : DeviceKind) (t : Int) : Bool :=
  match kind with
  | .valveHead => decide (-100 ≤ t ∧ t ≤ 1100)
  | .roomSensor | .roomUnit => decide (0 ≤ t ∧ t ≤ 500)

/-- The outcome of a slot from what its answer time received (R151). -/
def reception (kind : DeviceKind) (address : Nat) (received : Option (List Byte)) : Reception :=
  match received with
  | none => .miss
  | some bytes =>
    if bytes = [] then .miss
    else if crcGood bytes then
      match readReport kind address bytes.dropLast with
      | some r => if tempInRange kind r.temp then .good r else .miss
      | none => .badTelegram
    else .badTelegram

/-! ### Received in the join slot (R158) -/

/-- The serial and kind of a good JOIN_REQ; any other telegram is discarded. -/
def readJoin (bytes : List Byte) : Option (BitVec 32 × DeviceKind) :=
  if crcGood bytes then
    match bytes.dropLast with
    | [0x62#8, a, b, c, d, k] => (deviceKindOf k).map (fun kind => (a ++ b ++ c ++ d, kind))
    | _ => none
  else none

end Sys2Proof.Machine
end

