-- ==== Sys2Proof/Machine/Buttons.lean ====
section
/-! DEFINITION. The handling of room unit buttons (section 3.6, R73). -/

namespace Sys2Proof.Machine

/-- The hold is the unit's own countdown (R60). -/
def Hold.isOwn (h : Hold) (address : Nat) : Bool := h.origin == .device address && h.ending.isCountdown

/-- device_hold_minutes of a zone. -/
def State.holdMinutes (s : State) (z : Fin 16) : Nat := (s.zone z).config.deviceHoldMinutes.toNat

/-- The unit's own countdown on top after a step (R60). -/
def State.stepHold (s : State) (z : Fin 16) (h : Hold) (d : Int) : Hold :=
  { h with setpoint := s.holdRange (roomIndex z) (h.setpoint + d), ending := .countdown (s.holdMinutes z) }

/-- The push of UP or DOWN (R60), refused silently for a full pool (R49). -/
def State.pushStep (s : State) (z : Fin 16) (address : Nat) (d : Int) : State :=
  if s.pushRefused (roomIndex z) then s
  else
    ((s.push (roomIndex z) ((s.zone z).setpoint + d) (.countdown (s.holdMinutes z)) (.device address) false).raise
      .holdByDevice).resolve (roomIndex z)

/-- UP or DOWN by `d` from the unit at an address bound to a zone (R60). -/
def State.step5 (s : State) (z : Fin 16) (address : Nat) (d : Int) : State :=
  match (s.stackOf (roomIndex z)).head? with
  | some h =>
    if h.isOwn address then
      ((s.putHold (roomIndex z) (s.stepHold z h d)).raise .holdByDevice).resolve (roomIndex z)
    else s.pushStep z address d
  | none => s.pushStep z address d

/-- CANCEL from a unit bound to a zone (R61). -/
def State.cancelTop (s : State) (z : Fin 16) : State :=
  match s.stackOf (roomIndex z) with
  | _ :: l => ((s.setStack (roomIndex z) l).raise .holdByDevice).resolve (roomIndex z)
  | [] => s

/-- The event is taken as a PRESENCE wake (R59). -/
def State.wakesBy (s : State) (b : Button) : Bool :=
  b == .presence || (s.house.mode == .vacant && s.house.wakePresence)

/-- A new button event that is not a wake, from a unit bound to a zone (R59). -/
def State.pressAt (s : State) (z : Fin 16) (address : Nat) (b : Button) : State :=
  match b with
  | .up => s.step5 z address 5
  | .down => s.step5 z address (-5)
  | .cancel => s.cancelTop z
  | .presence | .none => s

/-- A new button event (R59). -/
def State.press (s : State) (zone : Option (Fin 16)) (address : Nat) (b : Button) : State :=
  if s.wakesBy b then s.wake (.presence address)
  else
    match zone with
    | some z => s.pressAt z address b
    | none => s

/-- The sequence protocol (R58): NONE and a repeat change nothing; a new event sets the last sequence taken. -/
def State.takeButton (s : State) (i : Fin 48) (d : Device) (b : Button) (sequence : Nat) : State :=
  if b = .none ∨ sequence = d.lastSeq then s
  else (s.setDevice i (some { d with lastSeq := sequence })).press d.zone (addressOf i) b

end Sys2Proof.Machine
end

