-- ==== Sys2Proof/Machine/Slots.lean ====
section
/-! DEFINITION. The parts of a RUNNING cycle: device slots, group slot and join slot, and the grant timeout (sections
8.4 to 8.6, 10.3). -/

namespace Sys2Proof.Machine

/-- The parts come in the order of the timeline, each once in a cycle: this one is still to come (R146; DEDUCED,
notes/assumptions/13.md). -/
def Bus.partAhead (b : Bus) (p : Part) : Bool := b.line == .running && decide (b.part.index < p.index)

/-- A part begins: it carries a telegram or silence, and awaits an answer or none. -/
def State.beginPart (s : State) (p : Part) (sent : Option Telegram) (answer : Option (Fin 48)) (invited : Bool) :
    State :=
  s.setBus { s.bus with part := p, sent, answer, invited }

/-! ### The beginning of a device slot (R150) -/

/-- The group address of a binding: 128 plus the zone, or 0 (R148). -/
def groupAddress (zone : Option (Fin 16)) : Nat := zone.elim 0 (fun z => 128 + z.val)

/-- The echo of a POLL: the last button sequence taken for a ROOM_UNIT, 0 for other kinds (R148). -/
def Device.echo (d : Device) : Nat := if d.kind = .roomUnit then d.lastSeq else 0

/-- A record is freed after its RELEASE: the member count falls and the slot becomes free (R173). -/
def State.release (s : State) (i : Fin 48) (d : Device) : State := (s.setDevice i none).dropMember d.zone d.kind

/-- The MOVE of a SCHEDULED grant: the grant runs and the commanded position takes its target (R183). -/
def State.sendMove (s : State) (i : Fin 48) (d : Device) (g : Grant) : State :=
  s.setDevice i (some { d with commanded := some g.target, grant := some { g with running := true } })

/-- The telegram of a slot with a record and what the sending does (R150). -/
def State.serveRecord (s : State) (i : Fin 48) (d : Device) : State :=
  if d.state = .retiring then (s.beginPart (.slot i) (some (.release (addressOf i))) none false).release i d
  else
    match d.grant with
    | some g =>
      if g.running then
        s.beginPart (.slot i) (some (.poll (addressOf i) d.echo (groupAddress d.zone))) (some i) false
      else
        (s.beginPart (.slot i) (some (.move (addressOf i) g.target (g.kind == .exercise))) (some i) false).sendMove
          i d g
    | none => s.beginPart (.slot i) (some (.poll (addressOf i) d.echo (groupAddress d.zone))) (some i) false

/-- The beginning of a slot; a slot without a record, or with one admitted in this cycle, is silent (R150, R161). -/
def State.serveSlot (s : State) (i : Fin 48) : State :=
  match s.device i with
  | some d => if d.fresh then s.beginPart (.slot i) none none false else s.serveRecord i d
  | none => s.beginPart (.slot i) none none false

/-- DEVICE_SLOT_BEGIN (R150). -/
def execDeviceSlotBegin (slot : Fin 48) (s : State) : Host.Outcome State Fault Refusal :=
  .next (
    if s.bus.partAhead (.slot slot) then ((s.reachPart (40 + 38 * slot.val)).serveSlot slot).evaluateFrom s else s)

/-! ### The end of a device slot (R151 to R153, R184) -/

/-- One step of a count that saturates at 255. -/
def saturate (n : Nat) : Nat := min 255 (n + 1)

/-- The state that a miss moves a record to, from the misses it leaves (R153). -/
def missState (st : DeviceState) (misses : Nat) : DeviceState :=
  match st with
  | .active => if 5 ≤ misses then .stale else .active
  | .stale => if 150 ≤ misses then .lost else .stale
  | .admitted => .admitted
  | .lost => .lost
  | .faulted => .faulted
  | .retiring => .retiring

/-- The record after a miss or a bad telegram (R151, R153). -/
def Device.missed (d : Device) (bad : Bool) : Device :=
  { d with
    misses := saturate d.misses
    bad := if bad then saturate d.bad else d.bad
    state := missState d.state (saturate d.misses) }

/-- A miss or a bad telegram (R151, R153); a change of state raises DEVICE_STATE. -/
def State.takeMiss (s : State) (i : Fin 48) (d : Device) (bad : Bool) : State :=
  (s.setDevice i (some (d.missed bad))).raiseIf ((d.missed bad).state != d.state) .deviceState

/-- The state a good report moves a record to (R152, step 2). -/
def reportState (st : DeviceState) : DeviceState :=
  match st with
  | .admitted | .active | .stale | .lost => .active
  | .faulted => .faulted
  | .retiring => .retiring

/-- The record after steps 1 to 3 of R152. -/
def Device.reported3 (d : Device) (temp : Int) : Device :=
  { d with misses := 0, state := reportState d.state, lastTemp := some temp }

/-- Steps 1 to 3 of R152; the move to ACTIVE raises DEVICE_STATE and ends an admission (R169). -/
def State.takeReading (s : State) (i : Fin 48) (d : Device) (temp : Int) : State :=
  let t := (s.setDevice i (some (d.reported3 temp))).raiseIf (reportState d.state != d.state) .deviceState
  if d.state = .admitted then t.leaveOrder i else t

/-- The reported position lies within the DONE tolerance of the grant's target (R184). -/
def nearTarget (position target : Int) : Bool := decide (|position - target| ≤ 2)

/-- What a report gives a RUNNING grant (R184). -/
def State.takeOutcome (s : State) (i : Fin 48) (d : Device) (g : Grant) (position : Int) (motor : MotorState) :
    State :=
  match motor with
  | .running => s.setDevice i (some { d with grant := some { g with mark := true } })
  | .idle => if g.mark || nearTarget position g.target then s.endDone i d g else s
  | .stalled => s.endFailed i d g

/-- Step 4 of R152: position and motor state are stored and handed to the Motor Arbiter. -/
def State.takePosition (s : State) (i : Fin 48) (d : Device) (position : Int) (motor : MotorState) : State :=
  let e : Device := { d with reported := some position, motor }
  let t := s.setDevice i (some e)
  match d.grant with
  | some g => if g.running then t.takeOutcome i e g position motor else t
  | none => t

/-- A good report, in the order of R152. -/
def State.takeReport (s : State) (i : Fin 48) (d : Device) (r : Report) : State :=
  let t := s.takeReading i d r.temp
  let e := d.reported3 r.temp
  match r with
  | .valve _ position motor => t.takePosition i e position motor
  | .sensor _ => t
  | .unit _ b sequence => t.takeButton i e b sequence

/-- The end of a slot that carried a POLL or a MOVE, at the record as it stands; one that has become RETIRING takes
nothing (R151, R172). -/
def State.takeSlot (s : State) (i : Fin 48) (received : Option (List Byte)) : State :=
  match s.device i with
  | some d =>
    if d.state = .retiring then s
    else
      match reception d.kind (addressOf i) received with
      | .good r => s.takeReport i d r
      | .miss => s.takeMiss i d false
      | .badTelegram => s.takeMiss i d true
  | none => s

/-- The slot's exchange is over. -/
def State.endPart (s : State) : State := s.setBus { s.bus with answer := none, invited := false, sent := none }

/-- DEVICE_SLOT_END (R151). -/
def execDeviceSlotEnd (slot : Fin 48) (received : Option (List Byte)) (s : State) :
    Host.Outcome State Fault Refusal :=
  .next (
    if s.bus.line = .running ∧ s.bus.answer = some slot then
      ((s.reachPart (78 + 38 * slot.val)).endPart.takeSlot slot received).evaluateFrom s
    else s)

/-! ### The grant timeout (R186) -/

/-- GRANT_TIMEOUT (R186): tGRANT after the issue, whether the grant is SCHEDULED or RUNNING. -/
def execGrantTimeout (slot : Fin 48) (s : State) : Host.Outcome State Fault Refusal :=
  .next (
    match s.device slot with
    | some d =>
      match d.grant with
      | some g => ((s.reach (g.issued + Config.tGRANT)).endFailed slot d g).evaluateFrom s
      | none => s
    | none => s)

/-! ### The group slot (R156) -/

/-- The ANNOUNCE of a zone, read as the records stand (R156). -/
def State.announcement (s : State) (z : Fin 16) : Telegram :=
  let r := s.zone z
  .announce (128 + z.val) r.setpoint r.temp r.isCalling s.house.mode

/-- The head of the queue is announced and removed; an empty queue gives a silent slot (R156). -/
def State.serveGroup (s : State) : State :=
  match s.bus.announce with
  | z :: l => State.beginPart (s.setBus { s.bus with announce := l }) .group (some (s.announcement z)) none false
  | [] => s.beginPart .group none none false

/-- GROUP_SLOT (R156). -/
def execGroupSlot (s : State) : Host.Outcome State Fault Refusal :=
  .next (if s.bus.partAhead .group then (s.reachPart 1864).serveGroup else s)

/-! ### The join slot (R158, R168) -/

/-- The serial of a record; 0 of a slot that holds none. -/
def State.serialOf (s : State) (i : Fin 48) : BitVec 32 := (s.device i).elim 0 Device.serial

/-- ASSIGN to the record whose turn it is, or INVITE with none pending (R158, R168). -/
def State.serveJoin (s : State) : State :=
  match s.turn with
  | some i =>
    (s.setRegistry { s.registry with lastAssign := some i }).beginPart .join
      (some (.assign (s.serialOf i) (addressOf i))) none false
  | none => s.beginPart .join (some .invite) none true

/-- JOIN_SLOT (R158). -/
def execJoinSlot (s : State) : Host.Outcome State Fault Refusal :=
  .next (if s.bus.partAhead .join then (s.reachPart 1902).serveJoin else s)

/-- JOIN_REQ (R158, R164): what a join slot that carried INVITE received, taken at its end; anything but a good
JOIN_REQ is discarded. -/
def execJoinReq (received : List Byte) (s : State) : Host.Outcome State Fault Refusal :=
  .next (
    if s.bus.line = .running ∧ s.bus.invited = true then
      let t := (s.reachPart Config.tCYC).endPart
      match readJoin received with
      | some (serial, kind) => (t.takeJoin serial kind).evaluateFrom s
      | none => t
    else s)

end Sys2Proof.Machine
end

