-- ==== Sys2Proof/Machine/Dispatch.lean ====
section
/-! DEFINITION. The meaning of every command and event: one arm per row of spec/opcode_table.json. -/

namespace Sys2Proof.Machine

/-- What a command or event does to everything but the queue of commands that wait. -/
def exec (i : Instr) (s : State) : Host.Outcome State Fault Refusal :=
  match i with
  | .powerOnReset => Sys2Proof.Machine.execPowerOnReset s
  | .readySet tflow tout tcyl => Sys2Proof.Machine.execReadySet tflow tout tcyl s
  | .frameCrcError bytes => Sys2Proof.Machine.execFrameCrcError bytes s
  | .shortFrame bytes => Sys2Proof.Machine.execShortFrame bytes s
  | .frameWhileNotReady => Sys2Proof.Machine.execFrameWhileNotReady s
  | .nop => Sys2Proof.Machine.execNop s
  | .read kind key view first zone => Sys2Proof.Machine.execRead kind key view first zone s
  | .writeZone key items => Sys2Proof.Machine.execWriteZone key items s
  | .enable zone => Sys2Proof.Machine.execEnable zone s
  | .disable zone => Sys2Proof.Machine.execDisable zone s
  | .zwEnable => Sys2Proof.Machine.execZwEnable s
  | .zwDisable => Sys2Proof.Machine.execZwDisable s
  | .createPoint key items => Sys2Proof.Machine.execCreatePoint key items s
  | .writePoint key items => Sys2Proof.Machine.execWritePoint key items s
  | .retirePoint key zone => Sys2Proof.Machine.execRetirePoint key zone s
  | .createHold items => Sys2Proof.Machine.execCreateHold items s
  | .writeHold key items => Sys2Proof.Machine.execWriteHold key items s
  | .retireHold key => Sys2Proof.Machine.execRetireHold key s
  | .writeHouse key items => Sys2Proof.Machine.execWriteHouse key items s
  | .writeBoiler key items => Sys2Proof.Machine.execWriteBoiler key items s
  | .writeDevice key items => Sys2Proof.Machine.execWriteDevice key items s
  | .retireDevice key => Sys2Proof.Machine.execRetireDevice key s
  | .retireJoin key => Sys2Proof.Machine.execRetireJoin key s
  | .writeMotor key items => Sys2Proof.Machine.execWriteMotor key items s
  | .seek kind => Sys2Proof.Machine.execSeek kind s
  | .next view first => Sys2Proof.Machine.execNext view first s
  | .admitDevice serial zone => Sys2Proof.Machine.execAdmit serial zone s
  | .setClock time => Sys2Proof.Machine.execSetClock time s
  | .setMode mode countdown => Sys2Proof.Machine.execSetMode mode countdown s
  | .run => Sys2Proof.Machine.execRun s
  | .stop => Sys2Proof.Machine.execStop s
  | .boilerReset => Sys2Proof.Machine.execBoilerReset s
  | .readNotices => Sys2Proof.Machine.execReadNotices s
  | .writeNoticeEnables mask => Sys2Proof.Machine.execWriteNoticeEnables mask s
  | .warmReset => Sys2Proof.Machine.execWarmReset s
  | .minuteTick => Sys2Proof.Machine.execMinuteTick s
  | .holdCountdownExpiry handle => Sys2Proof.Machine.execHoldCountdownExpiry handle s
  | .returnCountdownExpiry => Sys2Proof.Machine.execReturnCountdownExpiry s
  | .hourCountAdvance => Sys2Proof.Machine.execHourCountAdvance s
  | .startListEntryExpiry => Sys2Proof.Machine.execStartListEntryExpiry s
  | .joinEntryExpiry number => Sys2Proof.Machine.execJoinEntryExpiry number s
  | .controlTick => Sys2Proof.Machine.execControlTick s
  | .zoneControlTick zone => Sys2Proof.Machine.execZoneControlTick zone s
  | .sensorSample tflow tout tcyl => Sys2Proof.Machine.execSensorSample tflow tout tcyl s
  | .outdoorHoldExpiry => Sys2Proof.Machine.execOutdoorHoldExpiry s
  | .sensorRecoveryExpiry => Sys2Proof.Machine.execSensorRecoveryExpiry s
  | .tboffExpiry => Sys2Proof.Machine.execTboffExpiry s
  | .tbonExpiry => Sys2Proof.Machine.execTbonExpiry s
  | .waitFlowExpiry => Sys2Proof.Machine.execWaitFlowExpiry s
  | .lockoutAssert => Sys2Proof.Machine.execLockoutAssert s
  | .lockoutRelease => Sys2Proof.Machine.execLockoutRelease s
  | .lockoutResetPulseEnd => Sys2Proof.Machine.execLockoutResetPulseEnd s
  | .pumpOverrunExpiry => Sys2Proof.Machine.execPumpOverrunExpiry s
  | .tprioExpiry => Sys2Proof.Machine.execTprioExpiry s
  | .tgapExpiry => Sys2Proof.Machine.execTgapExpiry s
  | .cylinderRecoveryExpiry => Sys2Proof.Machine.execCylinderRecoveryExpiry s
  | .wakeInputEdge => Sys2Proof.Machine.execWakeInputEdge s
  | .cycleBegin => Sys2Proof.Machine.execCycleBegin s
  | .windowBoundary window => Sys2Proof.Machine.execWindowBoundary window s
  | .deviceSlotBegin slot => Sys2Proof.Machine.execDeviceSlotBegin slot s
  | .deviceSlotEnd slot received => Sys2Proof.Machine.execDeviceSlotEnd slot received s
  | .grantTimeout slot => Sys2Proof.Machine.execGrantTimeout slot s
  | .groupSlot => Sys2Proof.Machine.execGroupSlot s
  | .joinSlot => Sys2Proof.Machine.execJoinSlot s
  | .joinReq received => Sys2Proof.Machine.execJoinReq received s
  | .overcurrent => Sys2Proof.Machine.execOvercurrent s
  | .lineFaultRecoveryExpiry => Sys2Proof.Machine.execLineFaultRecoveryExpiry s
  | .frameBegin => Sys2Proof.Machine.execFrameBegin s
  | .resetnRelease => Sys2Proof.Machine.execResetnRelease s
  | .badCommand command kind => Sys2Proof.Machine.execBadCommand command kind s

end Sys2Proof.Machine
end

