-- ==== Sys2Proof/Machine/Step.lean ====
section
/-! DEFINITION. One step of the part: the command or event at the front of the queue; with none waiting, time
passes. -/

namespace Sys2Proof.Machine

/-- Nothing waits: the model's clock advances by 1 ms and nothing else happens (DESIGN CHOICE,
notes/assumptions/1.md). -/
def State.idle (s : State) : State := s.reach (s.time.now + 1)

/-- One step: the command or event at the front of the queue is executed with the rest of the queue. -/
def step (s : State) : Host.Outcome State Fault Refusal :=
  match s.pending with
  | [] => .next s.idle
  | i :: rest => exec i { s with pending := rest }

/-- The command that a word spells, put at the front of the queue; the table gives no row bits, so no word spells
one (DESIGN CHOICE, notes/assumptions/28.md: how commands come). -/
def State.withFetchWord (s : State) (nbits w : Nat) : State :=
  match decodeTableWord nbits w with
  | some i => { s with pending := i :: s.pending }
  | none => s

end Sys2Proof.Machine
end

