-- ==== Sys2Proof/Safety.lean ====
section
/-! DEFINITION. What a good state of the part is: the invariants the rules promise of every state, block by block,
and the words the statements use for a taken command and for what the attached evaluations may write. -/

namespace Sys2Proof.Machine

/-! ### Program Store (R27, R28) -/

/-- A stored level lies in the level range of its zone (R28). -/
def levelOk (z : Fin 17) (l : Level) : Bool :=
  match l with
  | .off => decide (z = zw)
  | .deg t => if z = zw then decide (300 ≤ t ∧ t ≤ 650) else decide (50 ≤ t ∧ t ≤ 300)

/-- A zone's list rises strictly in time and holds at most 32 points of the week, each with a level of the zone. -/
abbrev listOk (z : Fin 17) (l : List Point) : Prop :=
  l.Pairwise (fun p q => p.time < q.time) ∧ l.length ≤ 32 ∧ ∀ p ∈ l, p.time ≤ 10079 ∧ levelOk z p.level

/-- The 17 lists are as R27 gives, and the pool holds at most 256 points. -/
abbrev State.ProgramInv (s : State) : Prop := (∀ z : Fin 17, listOk z (s.pointsOf z)) ∧ s.pointCount ≤ 256

/-! ### Hold Stacks (R44, R46) -/

/-- A stack holds at most 4 holds and the pool at most 24; the handles in use lie in 1..65535, as the counter does,
and no two holds share one. -/
abbrev State.HoldInv (s : State) : Prop :=
  (∀ z : Fin 17, (s.stackOf z).length ≤ 4) ∧ s.poolCount ≤ 24 ∧ s.handlesInUse.Nodup ∧
    (∀ h ∈ s.handlesInUse, 1 ≤ h ∧ h ≤ 65535) ∧ 1 ≤ s.holds.handles ∧ s.holds.handles ≤ 65535

/-! ### House Mode Unit (R64, R70) -/

/-- No countdown stands in OCCUPIED or at 0, and the two numeric fields lie in their ranges (table 4.1). -/
abbrev State.HouseInv (s : State) : Prop :=
  (s.house.mode = .occupied → s.house.countdown = none) ∧ s.house.countdown ≠ some 0 ∧
    0 ≤ s.house.setbackOffset ∧ s.house.setbackOffset ≤ 100 ∧
    50 ≤ s.house.vacantSetpoint ∧ s.house.vacantSetpoint ≤ 150

/-! ### Zone Table (R4, R10, R16, R38) -/

/-- Four control values in their ranges (section 1.2). -/
abbrev controlOk (c : Control) : Prop :=
  1 ≤ c.weight ∧ c.weight ≤ 100 ∧ 1 ≤ c.kp ∧ c.kp ≤ 100 ∧ 0 ≤ c.ki ∧ c.ki ≤ 20

/-- The immediate fields in their ranges; request_off is at most request_on − 10 (R4). -/
abbrev configOk (c : ZoneConfig) : Prop :=
  controlOk c.control ∧ 0 ≤ c.minLift ∧ c.minLift ≤ 30 ∧ 1 ≤ c.hysteresis ∧ c.hysteresis ≤ 10 ∧
  0 ≤ c.headOffset ∧ c.headOffset ≤ 50 ∧ 50 ≤ c.frostFloor ∧ c.frostFloor ≤ 100 ∧
  150 ≤ c.comfortCeiling ∧ c.comfortCeiling ≤ 300 ∧ 50 ≤ c.defaultSetpoint ∧ c.defaultSetpoint ≤ 300 ∧
  50 ≤ c.requestOn ∧ c.requestOn ≤ 500 ∧ 0 ≤ c.requestOff ∧ c.requestOff ≤ c.requestOn - 10 ∧
  0 ≤ c.blindDemand ∧ c.blindDemand ≤ 1000 ∧ 15 ≤ c.deviceHoldMinutes ∧ c.deviceHoldMinutes ≤ 480

/-- A per-mille value. -/
abbrev perMille (u : Int) : Prop := 0 ≤ u ∧ u ≤ 1000

/-- A room zone: fields in range, a pending configuration only while CALLING, demand and integral per mille, the
effective setpoint between floor and ceiling, and a DISABLED zone without demand and temperature. -/
abbrev zoneOk (r : Zone) : Prop :=
  configOk r.config ∧ (r.pending.isSome → r.state = .calling) ∧ (∀ c ∈ r.pending, controlOk c) ∧
  perMille r.demand ∧ perMille r.previous ∧ perMille r.integral ∧
  r.config.frostFloor ≤ r.setpoint ∧ r.setpoint ≤ r.config.comfortCeiling ∧
  (r.state = .disabled → r.demand = 0 ∧ r.previous = 0 ∧ r.integral = 0 ∧ r.temp = none)

/-- Every room zone record is as R4 to R18 keep it. -/
abbrev State.ZoneInv (s : State) : Prop := ∀ z : Fin 16, zoneOk (s.zone z)

/-! ### Boiler Controller (R103, R112, R116) -/

/-- The boiler record in its ranges with the two limits R103 keeps; bypass_zone is a room zone or none by its type. -/
abbrev boilerConfigOk (c : BoilerConfig) : Prop :=
  2 ≤ c.curveSlope ∧ c.curveSlope ≤ 40 ∧ 0 ≤ c.boostMax ∧ c.boostMax ≤ 150 ∧ -100 ≤ c.shift ∧ c.shift ≤ 100 ∧
  1 ≤ c.kmod ∧ c.kmod ≤ 50 ∧ 20 ≤ c.onDiff ∧ c.onDiff ≤ 150 ∧ 20 ≤ c.offDiff ∧ c.offDiff ≤ 100 ∧
  -100 ≤ c.frostOut ∧ c.frostOut ≤ 100 ∧ -300 ≤ c.outdoorFallback ∧ c.outdoorFallback ≤ 300 ∧
  200 ≤ c.flowMin ∧ c.flowMin ≤ 500 ∧ 400 ≤ c.flowMax ∧ c.flowMax ≤ 850 ∧ 250 ≤ c.floorMax ∧ c.floorMax ≤ 550 ∧
  c.flowMin ≤ c.flowMax ∧ c.flowMin ≤ c.floorMax ∧ 10 ≤ c.modMin ∧ c.modMin ≤ 50 ∧ 1 ≤ c.startsLimit ∧
  c.startsLimit ≤ 12 ∧ 1 ≤ c.tBon ∧ c.tBon ≤ 15 ∧ 1 ≤ c.tBoff ∧ c.tBoff ≤ 30 ∧ 1 ≤ c.tOvr ∧ c.tOvr ≤ 15 ∧
  0 ≤ c.minflowPct ∧ c.minflowPct ≤ 50

/-- The start list holds at most 12 entries under 60 minutes, at most 3 attempts are counted, and the pulse runs and
the on time counts only in the state they belong to. -/
abbrev State.BoilerInv (s : State) : Prop :=
  boilerConfigOk s.boiler.config ∧ s.boiler.startList.length ≤ 12 ∧ (∀ a ∈ s.boiler.startList, a < 60) ∧
  s.boiler.attempts ≤ 3 ∧ (s.boiler.pulse.isSome → s.boiler.burner = .lockedOut) ∧
  (s.boiler.minOn.isSome → s.boiler.burner = .firing) ∧
  (s.boiler.waitFlow.isSome → s.boiler.burner = .wait .flow) ∧
  (s.boiler.recovery.isSome → s.boiler.burner = .sensorFault)

/-! ### Record ZW and Cylinder Channel (R6, R28, R39, section 7.1, R128) -/

/-- Whatever gives ZW its target is OFF or lies within 300..650: its default target, its points and its holds. -/
abbrev State.targetsOk (s : State) : Prop :=
  levelOk zw s.cylinder.defaultTarget ∧ (∀ p ∈ s.pointsOf zw, levelOk zw p.level) ∧
    ∀ h ∈ s.stackOf zw, levelOk zw (.deg h.setpoint)

/-- The channel's configuration and its target lie in their ranges, and each timer runs in its own state alone. -/
abbrev State.CylinderInv (s : State) : Prop :=
  levelOk zw s.cylinder.target ∧ s.targetsOk ∧
  20 ≤ s.cylinder.dhwHyst ∧ s.cylinder.dhwHyst ≤ 150 ∧ 50 ≤ s.cylinder.chargeMargin ∧ s.cylinder.chargeMargin ≤ 250 ∧
  10 ≤ s.cylinder.tPrio ∧ s.cylinder.tPrio ≤ 120 ∧ 5 ≤ s.cylinder.tGap ∧ s.cylinder.tGap ≤ 60 ∧
  (s.cylinder.prio.isSome ↔ s.cylinder.state = .charging) ∧ (s.cylinder.gap.isSome ↔ s.cylinder.state = .gap) ∧
  (s.cylinder.recovery.isSome → s.cylinder.state = .fault)

/-! ### Field Bus Controller (R140, R155) -/

/-- Counts in range, the recovery timer in LINE_FAULT alone, nothing awaited or invited while the line is not
RUNNING, silence while the drive is off, and a zone at most once in the announcement queue. -/
abbrev State.BusInv (s : State) : Prop :=
  s.bus.cycle < 256 ∧ s.bus.starting ≤ 3 ∧ (s.bus.recovery.isSome ↔ s.bus.line = .lineFault) ∧
  (s.bus.line ≠ .running → s.bus.answer = none ∧ s.bus.invited = false) ∧
  (s.driveOn = false → s.bus.sent = none) ∧ s.bus.announce.Nodup

/-! ### Device Registry and join list (R20, R161, R163, R168) -/

/-- The record at a slot is ADMITTED. -/
abbrev State.pendingAt (s : State) (i : Fin 48) : Prop := (s.device i).map Device.state = some .admitted

/-- The admission order lists each ADMITTED record once and nothing else, and the record last sent an ASSIGN is one
of them. -/
abbrev State.AdmissionInv (s : State) : Prop :=
  s.registry.order.Nodup ∧ (∀ i : Fin 48, i ∈ s.registry.order ↔ s.pendingAt i) ∧
    (∀ i ∈ s.registry.lastAssign, i ∈ s.registry.order)

/-- The serials of the records, in slot order. -/
def State.serials (s : State) : List (BitVec 32) := slots.filterMap (fun i => (s.device i).map Device.serial)

/-- Two records never hold the same serial, and a serial that has a record has no join entry; the join list holds at
most 8 entries of distinct serials, its numbers rising to at most the last one issued. -/
abbrev State.SerialInv (s : State) : Prop :=
  (s.serials ++ s.bus.joins.map JoinEntry.serial).Nodup ∧ s.bus.joins.length ≤ 8 ∧
  (s.bus.joins.map JoinEntry.number).Pairwise (· < ·) ∧
  (∀ e ∈ s.bus.joins, 1 ≤ e.number ∧ e.number ≤ s.bus.lastEntry ∧ e.age ≤ 9 ∧ 1 ≤ e.sightings ∧ e.sightings ≤ 255) ∧
  s.bus.lastEntry ≤ 65535

/-- The devices of a kind bound to a zone, whatever their state. -/
def State.members (s : State) (z : Fin 16) (kind : DeviceKind) : Nat :=
  (slots.filter (fun i => (s.device i).any (fun d => d.zone == some z && d.kind == kind))).length

/-- Every member count is the number of devices bound, within the limits of R20. -/
abbrev State.MemberInv (s : State) : Prop :=
  ∀ z : Fin 16, (s.zone z).valves = s.members z .valveHead ∧ (s.zone z).sensors = s.members z .roomSensor ∧
    (s.zone z).units = s.members z .roomUnit ∧ (s.zone z).valves ≤ 6 ∧ (s.zone z).sensors + (s.zone z).units ≤ 2

/-- A record's counts in their ranges (table 9.1); the third failure in a row makes a valve FAULTED (R186). -/
abbrev deviceOk (d : Device) : Prop :=
  d.misses ≤ 255 ∧ d.bad ≤ 255 ∧ d.lastSeq ≤ 7 ∧ d.failureRun ≤ 3 ∧ d.exerciseAge ≤ 65535 ∧
  (d.state = .faulted → d.kind = .valveHead) ∧ (d.state ≠ .faulted → d.state ≠ .retiring → d.failureRun ≤ 2)

/-- Every record is in range. -/
abbrev State.DeviceInv (s : State) : Prop := ∀ i : Fin 48, ∀ d ∈ s.device i, deviceOk d

/-! ### Motor Arbiter (R177, R179, R182) -/

/-- The valves that hold a grant. -/
def State.granted (s : State) : List (Fin 48) := slots.filter (fun i => (s.device i).any (fun d => d.grant.isSome))

/-- A record with a grant is a valve head in no state that a grant cannot stand in. -/
abbrev grantOk (d : Device) : Prop :=
  d.grant.isSome → d.kind = .valveHead ∧ d.state ≠ .faulted ∧ d.state ≠ .retiring

/-- Tokens are counted: as many grants stand as are outstanding, at most the token limit, and none while the line is
not RUNNING; a valve has one entry or one grant or neither; an entry is a valve head's that is neither FAULTED nor
RETIRING; URGENT entries stand before NORMAL ones. -/
abbrev State.MotorInv (s : State) : Prop :=
  1 ≤ s.motor.tokenLimit ∧ s.motor.tokenLimit ≤ 6 ∧ s.motor.outstanding = s.granted.length ∧
  (s.motor.outstanding : Int) ≤ s.motor.tokenLimit ∧ (s.bus.line ≠ .running → s.motor.outstanding = 0) ∧
  (∀ i : Fin 48, ∀ d ∈ s.device i, grantOk d) ∧ (s.motor.queue.map Entry.slot).Nodup ∧
  (∀ e ∈ s.motor.queue, e.slot ∉ s.granted) ∧
  (∀ e ∈ s.motor.queue, (s.device e.slot).any (fun d =>
    d.kind == .valveHead && d.state != .faulted && d.state != .retiring)) ∧
  s.motor.queue.Pairwise (fun e f => f.cls = .urgent → e.cls = .urgent)

/-! ### Bypass forcing (R122) -/

/-- While forcing is in force every valve of the bypass zone that is neither FAULTED nor RETIRING has target 100. -/
abbrev State.forcedOpen (s : State) : Prop :=
  s.boiler.config.bypassZone.any (fun z => (s.valvesOf z).all (fun i => (s.device i).any (fun d => d.target == 100)))

/-- The minimum flow path: forcing holds its valves open, the pump is STOPPED while READY is low, and while the pump
runs the flow check on commanded positions passes or forcing is in force. -/
abbrev State.BypassInv (s : State) : Prop :=
  (s.boiler.forcing = true → s.forcedOpen) ∧ (s.time.ready = false → s.boiler.pump = .stopped) ∧
    (s.boiler.pump ≠ .stopped → s.commandedPass = true ∨ s.boiler.forcing = true)

/-! ### The reported check (R121) -/

/-- While READY is set and the burner does not fire, the result of the reported check is that of the positions as they
stand; `none` while the check is not in force. -/
abbrev State.ReportedInv (s : State) : Prop :=
  s.time.ready = true → s.boiler.burner ≠ .firing →
    s.boiler.reported = if s.checkInForce then some (s.checkHolds s.reportedOf) else none

/-! ### The words of the statements -/

/-- The code of an enumerated value: its place in the manual's list, from 0 (R201). -/
def placeIn {α : Type} [DecidableEq α] (l : List α) (x : α) : Word := nat (l.idxOf x)

/-- The frame of a host link command is taken: it was begun while READY was set (R197). -/
abbrev State.takes (s : State) : Prop := s.frameDiscarded = false

/-- The state a command is executed in: the frame has ended and is good (R196, R198). -/
def State.received (s : State) (i : Instr) : State :=
  { s with link := { s.link with frame := none, shift := frameBytes i, badCount := 0, lastBad := false } }

/-- The response to a command is held (R196). -/
def State.holding (s : State) (i : Instr) (r : Result) (payload : List Byte) : State :=
  { s with link := { s.link with held := { echo := (frameBytes i).getD 0 0, result := r, payload } } }

/-- The answer with a zero payload, which every refused command gets (R203). -/
def State.bare (s : State) (i : Instr) (r : Result) : State := s.holding i r (List.replicate 16 0)

/-- A device record less its target field and next target, the two fields that bypass forcing may write. -/
def Device.kept (d : Device) : Device := { d with target := 0, next := none }

/-- `t` is `u` but for what the evaluations of the Cylinder Channel and the Boiler Controller may write: the channel's
state and timers, the reported check, the burner, the pump and forcing, the start list, and through forcing the target and next target
of valves and the motor queue. Everything else is as in `u`. -/
abbrev State.SettlesTo (u t : State) : Prop :=
  t = { u with
    cylinder := { u.cylinder with
      state := t.cylinder.state, prio := t.cylinder.prio, gap := t.cylinder.gap, recovery := t.cylinder.recovery }
    boiler := { u.boiler with
      burner := t.boiler.burner, lastStop := t.boiler.lastStop, minOn := t.boiler.minOn, waitFlow := t.boiler.waitFlow
      recovery := t.boiler.recovery, startList := t.boiler.startList, pump := t.boiler.pump
      forcing := t.boiler.forcing, reported := t.boiler.reported }
    registry := { u.registry with devices := t.registry.devices }
    motor := { u.motor with queue := t.motor.queue } } ∧
  ∀ i : Fin 48, (t.device i).map Device.kept = (u.device i).map Device.kept

end Sys2Proof.Machine
end

