-- ==== Sys2Proof/Certificates/Slice0/Obligations.lean ====
section
/-! DEFINITION. The statements for the provers. Each docstring says what is stated; the rules it rests on stand in
OBLIGATIONS.json. `t` is the state after the command or event. `State.takes` says that a host link frame is taken,
`State.received` and `State.holding` what taking it and holding its answer change, and `State.SettlesTo` what the
evaluations of the Cylinder Channel and the Boiler Controller may write (Sys2Proof/Safety.lean). -/

open Sys2Proof Sys2Proof.Machine

/-! ### The machine -/

/-- A step executes the command at the front of the queue with the queue's rest; with none waiting the model's clock
advances by 1 ms and nothing else happens (the model's choice, notes/assumptions/1.md). -/
def Obligations.StepTakesFront : Prop :=
  (∀ (c : Instr) (rest : List Instr) (s : State), s.pending = c :: rest →
    step s = exec c { s with pending := rest }) ∧
  (∀ s : State, s.pending = [] → step s = .next { s with time := { s.time with now := s.time.now + 1 } })

/-- No command or event stops the part, and none touches the queue of those that wait. (What it says beyond the rules is
the model's choice: notes/assumptions/2.md.) -/
def Obligations.EveryCommandCompletes : Prop :=
  ∀ (c : Instr) (s : State), ∃ t, exec c s = .next t ∧ t.pending = s.pending

/-- The frame that spells a well-formed command is decoded to that command, and a request is a good frame of 20 bytes.
-/
def Obligations.FrameRoundTrip : Prop :=
  ∀ (c : Instr) (bytes : List Byte), c.wf = true → Frame.encode c = some bytes →
    Frame.decode bytes = c ∧
      ((∀ b, c ≠ .frameCrcError b) → (∀ b, c ≠ .shortFrame b) → bytes.length = 20 ∧ crcGood bytes = true)

/-! ### Resets -/

/-- POWER_ON_RESET leaves every slot free, the join list and the admission order empty, no record last sent an ASSIGN
and every member count 0. -/
def Obligations.PowerOnEmptiesRegistry : Prop :=
  ∀ s : State, ∃ t, exec .powerOnReset s = .next t ∧
    (∀ i : Fin 48, t.device i = none) ∧ t.bus.joins = [] ∧ t.registry.order = [] ∧ t.registry.lastAssign = none ∧
    ∀ z : Fin 16, (t.zone z).valves = 0 ∧ (t.zone z).sensors = 0 ∧ (t.zone z).units = 0

/-- POWER_ON_RESET: READY is clear and every block holds its power-on values, but that an open frame begun while READY
was low stays open; RESETN_RELEASE starts tPOR, the minute
tick 60 s and the control tick 30 s away and changes nothing else; the first READY_SET, 20 ms after the release,
sets READY, with the first sample taken, the next 10 s away, and tBOFF counted from that moment. (What it says
beyond the rules is the model's choice: notes/assumptions/2.md, notes/assumptions/3.md, notes/assumptions/6.md.) -/
def Obligations.PowerOn : Prop :=
  (∀ s : State, ∃ t, exec .powerOnReset s = .next t ∧ t.time.ready = false ∧ t.time.resetn = false ∧
    t.clock.timeOfWeek = none ∧ t.clock.hourCounter = 0 ∧ (∀ z : Fin 16, t.zone z = Zone.reset) ∧
    t.cylinder = Cylinder.reset ∧ (∀ z : Fin 17, t.pointsOf z = []) ∧ (∀ z : Fin 17, t.stackOf z = []) ∧
    t.holds.handles = 1 ∧ t.holds.pushes = 0 ∧ t.house = House.reset ∧
    t.boiler = { Boiler.reset with lockoutPin := s.boiler.lockoutPin } ∧ t.bus = Bus.reset ∧ t.motor = Motor.reset ∧
    t.link = { Link.reset with frame := s.link.frame.filter FrameOpen.notReady } ∧ t.pending = s.pending) ∧
  (∀ s : State, s.time.resetn = false → exec .resetnRelease s = .next { s with
    time := { s.time with
      resetn := true, released := some s.time.now, controlAt := some (s.time.now + 30000) }
    clock := { s.clock with minuteAt := some (s.time.now + 60000) } }) ∧
  (∀ (tflow tout tcyl : Int) (s : State) (r : Nat), s.time.resetn = true → s.time.ready = false →
    s.time.warm = false → s.time.released = some r → s.boiler.burner = .off →
    ∃ t, exec (.readySet tflow tout tcyl) s = .next t ∧ t.time.ready = true ∧
      t.time.now = max s.time.now (r + 20) ∧ t.time.sampleAt = some (t.time.now + 10000) ∧
      t.boiler.lastStop = t.time.now ∧
      t.boiler.tf = takeSensor s.boiler.tf tflow ∧ t.boiler.tout = takeSensor s.boiler.tout tout ∧
      t.boiler.tc = takeSensor s.boiler.tc tcyl ∧
      (s.boiler.lockoutPin = true → t.boiler.burner = .lockedOut) ∧
      (s.boiler.lockoutPin = false → (takeSensor s.boiler.tf tflow).status = some .fault →
        t.boiler.burner = .sensorFault) ∧
      (s.boiler.lockoutPin = false → (takeSensor s.boiler.tf tflow).status = some .ok → t.boiler.burner = .off) ∧
      t.clock = s.clock ∧ t.zones = s.zones ∧ t.points = s.points ∧ t.holds = s.holds ∧ t.house = s.house ∧
      t.bus = s.bus ∧ t.pending = s.pending)

/-- WARM_RESET keeps what the chapters keep and resets what they reset, block by block, with READY clear and its own
response held; the computations of a control tick that are still to be taken are kept. What a warm reset leaves of a
device record. (What it says beyond the rules is the model's choice: notes/assumptions/7.md,
notes/assumptions/11.md, notes/assumptions/12.md, notes/assumptions/14.md, notes/assumptions/17.md.) -/
def Obligations.WarmReset : Prop :=
  (∀ s : State, s.takes → ∃ t, exec .warmReset s = .next t ∧
     t.time.ready = false ∧ t.time.warm = true ∧ t.time.minuteDue = s.time.minuteDue ∧
     t.time.controlAt = s.time.controlAt ∧ t.time.sampleAt = s.time.sampleAt ∧
     t.time.controlDue = s.time.controlDue ∧ t.time.sampleDue = s.time.sampleDue ∧ t.time.ticking = s.time.ticking ∧
     t.time.wasCalling = rooms.filter (fun z => (s.zone z).state == .calling) ∧
     t.clock = s.clock ∧ t.points = s.points ∧ t.house = s.house ∧
     (∀ z : Fin 16, t.zone z = { s.zone z with
       state := if (s.zone z).state = .disabled then .disabled else .satisfied
       pending := none, demand := 0, previous := 0, integral := 0, temp := none, tempSource := .none, ownTarget := 0 }) ∧
     (∀ z : Fin 17, t.stackOf z = (s.stackOf z).filter (fun h => h.retain)) ∧
     t.holds.handles = s.holds.handles ∧ t.holds.pushes = s.holds.pushes ∧
     t.cylinder = { s.cylinder with
       state := if s.cylinder.state = .charging ∨ s.cylinder.state = .gap then .idle else s.cylinder.state
       prio := none, gap := none, recovery := none } ∧
     t.boiler = { s.boiler with
       burner := if s.boiler.lockoutPin = true ∧ s.boiler.burner = .lockedOut then .lockedOut else .off
       minOn := none, waitFlow := none, recovery := none, pulse := none, pump := .stopped, forcing := false } ∧
     t.bus.line = .stopped ∧ t.bus.cycle = 0 ∧ t.bus.starting = 0 ∧ t.bus.recovery = none ∧ t.bus.announce = [] ∧
     t.bus.joins = [] ∧ t.bus.lastEntry = 0 ∧ t.bus.sent = none ∧
     (∀ i : Fin 48, t.device i = (s.device i).map Device.warm) ∧ t.registry.order = [] ∧
     t.registry.lastAssign = none ∧
     t.motor = { s.motor with queue := [], outstanding := 0, grantFlag := false } ∧
     t.link = { ((s.received .warmReset).bare .warmReset .ok).link with cursor := none } ∧ t.pending = s.pending) ∧
  (∀ d : Device,
     (d.state = .retiring → (Device.warm d).state = .retiring ∧ (Device.warm d).misses = d.misses) ∧
     (d.state ≠ .retiring → (Device.warm d).state = .stale ∧ (Device.warm d).misses = 5) ∧
     (d.kind = .valveHead → (Device.warm d).commanded = none ∧ (Device.warm d).grant = none ∧
       (Device.warm d).next = none ∧ (Device.warm d).exercisePhase = .none ∧ (Device.warm d).failureRun = 0) ∧
     (Device.warm d).serial = d.serial ∧ (Device.warm d).kind = d.kind ∧ (Device.warm d).zone = d.zone ∧
     (Device.warm d).lastTemp = d.lastTemp ∧ (Device.warm d).bad = d.bad ∧ (Device.warm d).lastSeq = d.lastSeq ∧
     (Device.warm d).target = d.target ∧ (Device.warm d).reported = d.reported ∧ (Device.warm d).motor = d.motor ∧
     (Device.warm d).exerciseAge = d.exerciseAge)

/-- READY_SET after a warm reset: READY sets, every zone is resolved afresh, and the announcement queue holds in index
order the zones that were CALLING and those whose setpoint changed (`r`). Then a sample, a minute tick and a control
tick that fell due while READY was low are taken, each once and in that order: the sample and the minute tick as
SENSOR_SAMPLE and MINUTE_TICK take theirs, with no timer moved. So an end of the return countdown, the countdowns of
holds and the ages of the start list fall due too. LOCKOUT asserted gives LOCKED_OUT, with BOILER raised where the
burner was not in it; released, a burner left OFF, or left LOCKED_OUT with no pulse, is in SENSOR_FAULT with BOILER
raised where TF is in FAULT, or the sample taken is, and else OFF with tBOFF counted from now. (What it says beyond
the rules is the model's choice: notes/assumptions/4.md, notes/assumptions/10.md, notes/assumptions/14.md,
notes/assumptions/17.md, notes/assumptions/23.md, notes/assumptions/29.md.) -/
def Obligations.ReadyAfterWarmReset : Prop :=
  (∀ (tflow tout tcyl : Int) (s : State), s.time.resetn = true → s.time.ready = false → s.time.warm = true →
    ∃ r t : State, exec (.readySet tflow tout tcyl) s = .next t ∧
      (r.time = { s.time with ready := true, warm := false } ∧
       r.clock = s.clock ∧ r.points = s.points ∧ r.holds = s.holds ∧ r.house = s.house ∧
       (∀ z : Fin 16, r.zone z = { s.zone z with setpoint := s.roomSetpoint z, source := (s.roomCandidate z).2 }) ∧
       r.cylinder.target = s.cylinderResolved.1 ∧ r.cylinder.source = s.cylinderResolved.2 ∧
       r.bus = { s.bus with announce := rooms.filter (fun z =>
         decide (z ∈ s.time.wasCalling) || decide (s.roomSetpoint z ≠ (s.zone z).setpoint)) } ∧
       (s.boiler.burner = .off → r.boiler.lastStop = s.time.now) ∧
       (∀ i : Fin 48, (r.device i).map Device.kept = (s.device i).map Device.kept) ∧ r.pending = s.pending) ∧
      (let u := if s.time.sampleDue then
          State.takeSample { r with time := { r.time with sampleDue := false } } tflow tout tcyl else r
       let v := if s.time.minuteDue then State.minuteTick { u with time := { u.time with minuteDue := false } } else u
       t = if s.time.controlDue then
         { v with time := { v.time with controlDue := false, ticking := List.finRange 16 } } else v) ∧
      t.time = { s.time with
        ready := true, warm := false, sampleDue := false, minuteDue := false, controlDue := false
        ticking := if s.time.controlDue then List.finRange 16 else s.time.ticking } ∧
      (let b := s.boiler
       let faulty := b.tf.status = some .fault ∨ (s.time.sampleDue = true ∧ (tflow < -400 ∨ 1100 < tflow))
       (b.burner = .off → t.boiler.lastStop = s.time.now) ∧
       (b.lockoutPin = true →
         t.boiler.burner = .lockedOut ∧ (b.burner ≠ .lockedOut → t.raised .boiler = true)) ∧
       (b.lockoutPin = false → b.burner = .off ∨ (b.burner = .lockedOut ∧ b.pulse = none) →
         (b.burner = .lockedOut → t.boiler.attempts = 0) ∧
         (faulty → t.boiler.burner = .sensorFault ∧ t.raised .boiler = true) ∧
         (¬ faulty → t.boiler.burner = .off ∧ t.boiler.lastStop = s.time.now)) ∧
       (s.time.sampleDue = true → t.boiler.tf = takeSensor b.tf tflow ∧ t.boiler.tout = takeSensor b.tout tout ∧
         t.boiler.tc = takeSensor b.tc tcyl) ∧
       (s.time.sampleDue = false → t.boiler.tf = b.tf ∧ t.boiler.tout = b.tout ∧ t.boiler.tc = b.tc)) ∧
      (s.time.minuteDue = false → t.clock = s.clock ∧ t.holds = s.holds ∧ t.house = s.house) ∧
      (s.time.minuteDue = true →
        let time := s.clock.timeOfWeek.map (fun w => if w = 10079 then 0 else w + 1)
        t.clock = {
          timeOfWeek := time
          minuteAt := s.clock.minuteAt
          hourCounter := if 59 ≤ s.clock.hourCounter then 0 else s.clock.hourCounter + 1
          hourDue := s.clock.hourDue || decide (59 ≤ s.clock.hourCounter)
          taken := { holds := false, house := false, starts := false, joins := false } } ∧
        (∀ z : Fin 17, t.stackOf z = ((s.stackOf z).filter (fun h =>
          !(h.ending == .nextPoint && (s.pointsOf z).any (fun p => time == some p.time)))).filterMap (fun h =>
            match h.ending with
            | .countdown m => if s.clock.taken.holds then some h
                else if m ≤ 1 then none else some { h with ending := .countdown (m - 1) }
            | _ => some h)) ∧
        (s.house.countdown = none ∨ s.clock.taken.house = true → t.house = s.house) ∧
        (∀ m, s.house.countdown = some m → s.clock.taken.house = false →
          (1 < m → t.house = { s.house with countdown := some (m - 1) }) ∧
          (m ≤ 1 → s.house.mode ≠ .occupied → t.house = (if s.house.wakeReturn then
              { s.house with mode := .occupied, countdown := none, lastCause := some .return }
              else { s.house with countdown := none }) ∧
            (s.house.wakeReturn = true → t.raised .modeChanged = true))) ∧
        (s.boiler.burner = .off ∨ s.boiler.burner = .lockedOut → t.boiler.startList =
          if s.clock.taken.starts then s.boiler.startList
          else (s.boiler.startList.map (· + 1)).filter (fun a => decide (a < 60)))) ∧
      (∀ z : Fin 16, (t.zone z).setpoint = t.roomSetpoint z ∧ (t.zone z).source = (t.roomCandidate z).2) ∧
      t.cylinder.target = t.cylinderResolved.1 ∧ t.pending = s.pending) ∧
  (∀ (s : State) (due : Nat), s.time.ready = true →
    let time := { s.time with now := max s.time.now due }
    (s.clock.minuteAt = some due → exec .minuteTick s =
      .next (State.minuteTick { s with time, clock := { s.clock with minuteAt := some (due + 60000) } })) ∧
    (s.time.sampleAt = some due → ∀ tflow tout tcyl : Int, exec (.sensorSample tflow tout tcyl) s =
      .next (State.takeSample { s with time := { time with sampleAt := some (due + 10000) } } tflow tout tcyl)))

/-! ### The host link -/

/-- NOP is a good frame that executes nothing: the response it clocked out is held again, the bad-frame count is 0, and
nothing else changes. A frame answered BAD_COMMAND is good and changes nothing else; so is SEEK of a kind that no
cursor walks. (What it says beyond the rules is the model's choice: notes/assumptions/12.md.) -/
def Obligations.NopAndBadCommand : Prop :=
  (∀ s : State, s.takes → exec .nop s = .next (s.received .nop)) ∧
  ((∀ (command kind : Byte) (s : State), s.takes → exec (.badCommand command kind) s =
     .next ((s.received (.badCommand command kind)).bare (.badCommand command kind) .badCommand)) ∧
   (∀ (kind : RecordKind) (s : State), s.takes →
     kind = .house ∨ kind = .clock ∨ kind = .boiler ∨ kind = .line ∨ kind = .motor →
     exec (.seek kind) s = .next ((s.received (.seek kind)).bare (.seek kind) .badCommand)))

/-- A bad frame is not executed: CRC_ERROR is held with the command byte as received, the bad-frame count rises,
saturating at 255, and the step that brings it to 8 raises LINK_FAULT. A short frame holds SHORT with an echoed NOP
and leaves the count; a CS low period without a whole byte leaves everything. A frame begun while READY was low is
discarded whole, whatever command its bytes spell, and answered by nothing, also where READY sets, or RESETn falls,
before CS rises. (What it says beyond the rules is the model's choice: notes/assumptions/6.md,
notes/assumptions/12.md.) -/
def Obligations.FramesNotTaken : Prop :=
  ((∀ (bytes : List Byte) (s : State), s.takes →
     exec (.frameCrcError bytes) s = .next { s with link := { s.link with
       frame := none, shift := bytes
       held := { echo := bytes.getD 0 0, result := .crcError, payload := List.replicate 16 0 }
       badCount := min 255 (s.link.badCount + 1), lastBad := true
       flags := if s.link.badCount = 7 then s.link.flags ||| Notice.linkFault.mask else s.link.flags } }) ∧
   (∀ (b : Byte) (bytes : List Byte) (s : State), s.takes →
     exec (.shortFrame (b :: bytes)) s = .next { s with link := { s.link with
       frame := none, shift := b :: bytes
       held := { echo := 0, result := .short, payload := List.replicate 16 0 } } }) ∧
   (∀ s : State, exec (.shortFrame []) s = .next { s with link := { s.link with frame := none } })) ∧
  (∀ (c : Instr) (s : State), s.frameDiscarded = true → (Frame.encode c).isSome ∨ c = .frameWhileNotReady →
     exec c s = .next { s with link := { s.link with frame := none } }) ∧
  (∀ (f : FrameOpen) (s : State), s.link.frame = some f → f.notReady = true →
     s.frameDiscarded = true ∧
     (∃ t, exec .powerOnReset s = .next t ∧ t.link.frame = some f) ∧
     (∃ t, exec .resetnRelease s = .next t ∧ t.link.frame = some f) ∧
     ∀ tflow tout tcyl : Int, ∃ t, exec (.readySet tflow tout tcyl) s = .next t ∧ t.link.frame = some f)

/-- FRAME_BEGIN fixes the status byte from the state that stands and clocks out the held response, its twenty bytes with
the check byte last and zero bytes after them; while READY is low it clocks out zero bytes. READ NOTICES returns the
flags set and the enables and clears the flags; WRITE NOTICE ENABLES stores bits 0..10 and changes no flag; ATTN is
low exactly while a flag is set with its enable. (What it says beyond the rules is the model's choice:
notes/assumptions/12.md, notes/assumptions/34.md.) -/
def Obligations.StatusAndNotices : Prop :=
  ((∀ s : State, s.time.ready = false → exec .frameBegin s = .next { s with link := { s.link with
     shift := [], frame := some { notReady := true, status := 0, out := none } } }) ∧
   (∀ s : State, s.time.ready = true → ∃ b : Byte, exec .frameBegin s = .next { s with link := { s.link with
     shift := [], frame := some { notReady := false, status := b, out := some s.link.held } } } ∧
     b.getLsbD 7 = true ∧ b.getLsbD 6 = s.attnLow ∧ b.getLsbD 5 = decide (s.bus.line = .running) ∧
     b.getLsbD 4 = decide (s.boiler.burner = .firing) ∧ b.getLsbD 3 = decide (s.cylinder.state = .charging) ∧
     b.getLsbD 2 = decide (s.house.mode ≠ .occupied) ∧ b.getLsbD 1 = s.link.lastBad ∧ b.getLsbD 0 = false)) ∧
  ((∀ s : State, s.takes → exec .readNotices s = .next (({ s.received .readNotices with
     link := { (s.received .readNotices).link with flags := 0 } }).holding .readNotices .ok
       ([(s.link.flags.setWidth 16).extractLsb' 8 8, (s.link.flags.setWidth 16).extractLsb' 0 8,
         (s.link.enables.setWidth 16).extractLsb' 8 8, (s.link.enables.setWidth 16).extractLsb' 0 8] ++
         List.replicate 12 0))) ∧
   (∀ (mask : Word) (s : State), s.takes → exec (.writeNoticeEnables mask) s =
     .next (({ s.received (.writeNoticeEnables mask) with
       link := { (s.received (.writeNoticeEnables mask)).link with enables := mask.setWidth 11 } }).bare
         (.writeNoticeEnables mask) .ok)) ∧
   (∀ s : State, s.attnLow = true ↔ ∃ k < 11, s.link.flags.getLsbD k = true ∧ s.link.enables.getLsbD k = true)) ∧
  (∀ (f : FrameOpen) (k : Nat), (f.out = none → f.sdo k = 0) ∧
    ∀ r : Response, f.out = some r → r.payload.length = 16 →
      f.sdo k = if k < 20 then (withCrc ([f.status, r.echo, r.result.code] ++ r.payload)).getD k 0 else 0)

/-- READ: a key that names nothing is NOT_FOUND, a view the kind has not and a first field of 0 or above the view's
length are BAD_VALUE; otherwise the answer carries the number of fields, the first field and up to seven values, and
of the state only the bad-telegram count of a device record returned changes, to 0. The record is read as the taken
frame leaves it. What each key and view name, field by field in the order of its table or rule: zones and ZW,
points, holds, house, clock, boiler, line and link, devices and the admission view, join entries, motor summary and
queue. (What it says beyond the rules is the model's choice: notes/assumptions/8.md, notes/assumptions/12.md,
notes/assumptions/15.md, notes/assumptions/16.md, notes/assumptions/31.md, notes/assumptions/34.md.) -/
def Obligations.ReadReturnsFields : Prop :=
  (∀ (kind : RecordKind) (key : Word) (view first zone : Byte) (s : State), s.takes →
     let i := Instr.read kind key view first zone
     let r := s.received i
     (r.find kind key view.toNat zone = .notFound → exec i s = .next (r.bare i .notFound)) ∧
     (r.find kind key view.toNat zone = .noView → exec i s = .next (r.bare i .badValue)) ∧
     (∀ l : List Word, r.find kind key view.toNat zone = .fields l →
       (first.toNat = 0 ∨ l.length < first.toNat → exec i s = .next (r.bare i .badValue)) ∧
       (1 ≤ first.toNat → first.toNat ≤ l.length → ∃ (t : State) (p : List Byte), exec i s = .next (t.holding i .ok p) ∧
         p.length = 16 ∧ p[0]? = some (BitVec.ofNat 8 l.length) ∧ p[1]? = some first ∧
         (∀ k < 7, Word.ofBytes (p.getD (2 + 2 * k) 0) (p.getD (3 + 2 * k) 0) = l.getD (first.toNat - 1 + k) 0x8000) ∧
         t = { r with registry := t.registry } ∧ t.registry = { s.registry with devices := t.registry.devices } ∧
         ∀ j : Fin 48, t.device j =
           if kind = .device ∧ key.toNat = j.val then (s.device j).map (fun d => { d with bad := 0 })
           else s.device j))) ∧
  (∀ (s : State) (key : Word) (zone : Byte),
     (∀ z : Fin 16, key.toNat = z.val →
       let r := s.zone z
       let c := r.config
       let control := fun (c : Control) =>
         [placeIn [.radiator, .floor] c.emitter, int c.weight, int c.kp, int c.ki]
       s.find .zone key 0 zone = .fields (control c.control ++ [int c.minLift, int c.hysteresis, int c.headOffset,
         int c.frostFloor, int c.comfortCeiling, int c.defaultSetpoint, int c.requestOn, int c.requestOff,
         int c.blindDemand, int c.deviceHoldMinutes, flag c.vacantKeep]) ∧
       s.find .zone key 1 zone = .fields [placeIn [.disabled, .satisfied, .calling] r.state, int r.setpoint,
         placeIn [.hold, .vacant, .setback, .program, .default] r.source, intOr r.temp,
         placeIn [.room, .heads, .none] r.tempSource, int r.demand, int r.previous, int r.integral, nat r.valves,
         nat r.sensors, nat r.units] ∧
       s.find .zone key 2 zone =
         .fields (r.pending.elim [0, absent, absent, absent, absent] (fun p => 1 :: control p))) ∧
     (∀ z : Fin 17, key.toNat = z.val → s.find .zone key 3 zone = .fields [nat (s.pointsOf z).length, nat s.pointCount]) ∧
     (key.toNat = 16 →
       let c := s.cylinder
       let state := placeIn [.disabled, .idle, .charging, .gap, .fault] c.state
       s.find .zone key 0 zone = .fields [state, level c.defaultTarget, level c.target,
         placeIn [.hold, .vacant, .program, .default] c.source, int c.dhwHyst, int c.chargeMargin, int c.tPrio,
         int c.tGap, level c.defaultTarget] ∧
       (∃ run left : Nat, s.find .zone key 1 zone = .fields [state, intOr s.boiler.tc.value,
           statusCode s.boiler.tc.status, level c.target, if c.state = .charging then intOr s.cylinderFlowTarget else absent,
           if c.state = .charging ∧ c.prio.isSome then nat run else absent,
           if c.state = .gap ∧ c.gap.isSome then nat left else absent,
           if c.state = .fault then flag c.recovery.isSome else absent] ∧
         (∀ a ∈ c.prio, run * 60000 < (s.time.now - a) + 60000 ∧ s.time.now - a < run * 60000 + 60000) ∧
         ∀ a ∈ c.gap, let rest := a + c.tGap.toNat * 60000 - s.time.now
           left * 60000 < rest + 60000 ∧ rest < left * 60000 + 60000) ∧
       s.find .zone key 2 zone = .noView) ∧
     (16 < key.toNat → ∀ view, s.find .zone key view zone = .notFound) ∧
     (key.toNat ≤ 16 → ∀ view, 4 ≤ view → s.find .zone key view zone = .noView) ∧
     (∀ (kind : RecordKind) (l : List Word) (view : Nat), kind ≠ .zone → s.find kind key 0 zone = .fields l →
       view ≠ 0 → (kind = .boiler → 2 ≤ view) → s.find kind key view zone = .noView) ∧
     (∀ (z : Fin 17) (p : Point), zone.toNat = z.val → (s.pointsOf z).Pairwise (fun a b => a.time < b.time) →
       p ∈ s.pointsOf z → p.time = key.toNat →
       s.find .point key 0 zone = .fields [nat z.val, nat p.time, level p.level]) ∧
     ((∀ z : Fin 17, zone.toNat = z.val → ∀ p ∈ s.pointsOf z, p.time ≠ key.toNat) →
       s.find .point key 0 zone = .notFound) ∧
     (∀ (z : Fin 17) (h : Hold) (above below : List Hold), s.HoldInv → s.stackOf z = above ++ h :: below →
       h.handle = key.toNat →
       s.find .hold key 0 zone = .fields ([nat h.handle, nat z.val, int h.setpoint,
         (match h.ending with | .nextPoint => 0 | .countdown _ => 1 | .indefinite => 2),
         (match h.ending with | .countdown m => nat m | _ => 0),
         (match h.origin with | .link => 0 | .device a => nat a), flag h.retain] ++ halves (BitVec.ofNat 32 h.pushed) ++
         [nat above.length, nat (s.stackOf z).length])) ∧
     (key ≠ 0 → key.toNat ∉ s.handlesInUse → s.find .hold key 0 zone = .notFound) ∧
     (key = 0 → s.find .hold key 0 zone = .fields (nat s.poolCount ::
       (List.finRange 17).map (fun z => nat (s.stackOf z).length) ++ [nat s.holds.handles])) ∧
     (key = 0 → s.find .house key 0 zone = .fields [placeIn [.occupied, .setback, .vacant] s.house.mode,
       nat (s.house.countdown.getD 0), flag s.house.wakeReturn, flag s.house.wakePresence, flag s.house.wakeInput,
       flag s.house.disarmOnWake,
       (match s.house.lastCause with
         | none => absent | some .link => 0 | some .return => 1 | some (.presence _) => 2 | some .input => 3),
       (match s.house.lastCause with | some (.presence a) => nat a | _ => absent),
       int s.house.setbackOffset, int s.house.vacantSetpoint]) ∧
     (key = 0 → ∃ seconds ≤ 59, s.find .clock key 0 zone = .fields [natOr s.clock.timeOfWeek,
       natOr (s.clock.timeOfWeek.map (fun w => w % 1440 / 60)), nat seconds] ∧
       ∀ due, s.clock.minuteAt = some due → s.time.now < due → due ≤ s.time.now + 59999 →
         seconds = (due - s.time.now) / 1000) ∧
     (key = 0 →
       let b := s.boiler
       let c := b.config
       s.find .boiler key 0 zone = .fields [int c.curveSlope, int c.boostMax, int c.shift, int c.flowMin, int c.flowMax,
         int c.floorMax, int c.kmod, int c.modMin, int c.onDiff, int c.offDiff, int c.tBon, int c.tBoff, int c.tOvr,
         int c.startsLimit, int c.frostOut, int c.outdoorFallback, natOr (c.bypassZone.map Fin.val), int c.minflowPct] ∧
       s.find .boiler key 1 zone = .fields ([
         (match b.burner with
           | .off => 0 | .ready => 1 | .wait _ => 2 | .firing => 3 | .lockedOut => 4 | .sensorFault => 5),
         (match b.burner with | .wait .starts => 0 | .wait .flow => 1 | _ => absent), flag b.pulse.isSome, nat b.attempts,
         (match b.pump with | .stopped => 0 | .running => 1 | .overrun _ => 2),
         int s.flowTarget, int s.roomLoad, int s.modulation, intOr s.leadSetpoint,
         intOr b.tf.value, statusCode b.tf.status, intOr b.tout.value, statusCode b.tout.status,
         intOr b.tc.value, statusCode b.tc.status, int s.outdoor.1,
         (match s.outdoor.2 with | .sensor => 0 | .held => 1 | .fallback => 2), nat b.startList.length] ++
         b.startList.map nat ++ [flag s.outdoorFrost, flag s.anyZoneFrost, flag s.burnerDemand,
         flag (b.reported.getD true), flag s.commandedPass, flag b.forcing])) ∧
     (key.toNat = 0 → ∃ left : Nat, s.find .line key 0 zone = .fields ([
         placeIn [.stopped, .starting, .running, .lineFault] s.bus.line, nat s.bus.cycle,
         if s.bus.line = .starting then nat s.bus.starting else absent,
         if s.bus.line = .lineFault ∧ s.bus.recovery.isSome then nat left else absent, nat s.bus.announce.length] ++
         s.bus.announce.map (fun z => nat z.val)) ∧
       ∀ a ∈ s.bus.recovery, let rest := a + 10000 - s.time.now
         left * 1000 < rest + 1000 ∧ rest < left * 1000 + 1000) ∧
     (key.toNat = 1 → s.find .line key 0 zone = .fields [nat s.link.badCount,
       s.link.cursor.elim absent (fun c => (kindCode c.kind).setWidth 16), s.link.flags.setWidth 16,
       s.link.enables.setWidth 16]) ∧
     (2 ≤ key.toNat → s.find .line key 0 zone = .notFound) ∧
     (∀ kind ∈ [RecordKind.house, .clock, .boiler], key ≠ 0 → ∀ view, s.find kind key view zone = .notFound) ∧
     (∀ (i : Fin 48) (d : Device), key.toNat = i.val → s.device i = some d →
       let v := fun w : Word => if d.kind = .valveHead then w else absent
       s.find .device key 0 zone = .fields ([nat i.val, nat (i.val + 1)] ++ halves d.serial ++ [
         placeIn [.valveHead, .roomSensor, .roomUnit] d.kind, natOr (d.zone.map Fin.val),
         placeIn [.admitted, .active, .stale, .lost, .faulted, .retiring] d.state, intOr d.lastTemp, nat d.misses,
         nat d.bad, if d.kind = .roomUnit then nat d.lastSeq else absent, v (intOr d.commanded), v (int d.target),
         v (intOr d.reported), v (placeIn [.idle, .running, .stalled] d.motor),
         v (match d.grant with
           | some g => if g.running then 3 else 2
           | none => if (s.entryOf i).isSome then 1 else 0),
         v (intOr (d.next.map NextTarget.target)), v (nat d.failureRun),
         if d.kind = .valveHead then nat d.exerciseAge else 0, v (placeIn [.none, .opening] d.exercisePhase)])) ∧
     (key.toNat ≠ 65535 → (∀ i : Fin 48, key.toNat = i.val → s.device i = none) →
       s.find .device key 0 zone = .notFound) ∧
     (key.toNat = 65535 → s.find .device key 0 zone = .fields (nat s.registry.order.length ::
       s.registry.order.map (fun i => nat i.val) ++ [natOr (s.registry.lastAssign.map Fin.val),
         nat ((List.finRange 48).filter (fun i => (s.device i).isNone)).length])) ∧
     (∀ e ∈ s.bus.joins, s.SerialInv → e.number = key.toNat → s.find .join key 0 zone = .fields (halves e.serial ++
       [placeIn [.valveHead, .roomSensor, .roomUnit] e.kind, nat e.sightings, nat e.age])) ∧
     ((∀ e ∈ s.bus.joins, e.number ≠ key.toNat) → s.find .join key 0 zone = .notFound) ∧
     (key = 0 → s.find .motor key 0 zone = .fields [int s.motor.tokenLimit, int s.motor.exerciseHour,
       nat s.motor.outstanding, flag s.motor.grantFlag, nat s.motor.queue.length,
       nat (s.motor.queue.filter (fun e => e.cls == .urgent)).length]) ∧
     (∀ (before after : List Entry) (e : Entry), s.motor.queue = before ++ e :: after → key.toNat = before.length + 1 →
       s.find .motor key 0 zone = .fields [nat e.slot.val, placeIn [.position, .exercise] e.kind, int e.target,
         placeIn [.urgent, .normal] e.cls]) ∧
     (s.motor.queue.length < key.toNat → s.find .motor key 0 zone = .notFound))

/-- SEEK of a walked kind starts its walk; NEXT without a cursor answers STATE, with no record after the cursor END, and
for a view or first field that the kind does not take BAD_VALUE, leaving the cursor. NEXT returns the next record
and moves the cursor to it: zones by index to ZW, then END; points by zone, then time; holds of the cursor's zone by
falling push number, then the top hold of the next zone that has one; devices by slot, their bad-telegram count
restarted; join entries by number. END comes after ZW, and where no later point, no older hold of the zone and no hold
of a later one, no later record, no later entry is left. (What it says beyond the rules is the model's choice: notes/assumptions/12.md,
notes/assumptions/15.md, notes/assumptions/16.md.) -/
def Obligations.SeekAndNextWalk : Prop :=
  ((∀ (kind : RecordKind) (s : State), s.takes → walks kind = true → exec (.seek kind) s =
     .next (((s.received (.seek kind)).bare (.seek kind) .ok).setCursor (some { kind, last := none }))) ∧
   (∀ (view first : Byte) (s : State), s.takes → s.link.cursor = none → exec (.next view first) s =
     .next ((s.received (.next view first)).bare (.next view first) .state)) ∧
   (∀ (view first : Byte) (s : State) (c : Cursor), s.takes → s.link.cursor = some c → s.following c = none →
     exec (.next view first) s = .next ((s.received (.next view first)).bare (.next view first) .finished)) ∧
   (∀ (view first : Byte) (s : State) (c : Cursor) (w : Walked), s.takes → s.link.cursor = some c →
     s.following c = some w → (∀ l, s.find c.kind w.key view.toNat w.place.zoneByte = .fields l →
       first.toNat = 0 ∨ l.length < first.toNat) →
     exec (.next view first) s = .next ((s.received (.next view first)).bare (.next view first) .badValue))) ∧
  (∀ (view first : Byte) (s : State) (last : Option (Fin 48)) (i : Fin 48) (d : Device), s.takes →
     s.link.cursor = some { kind := .device, last := last.map (fun j => .device j.val) } →
     (∀ j ∈ last, j < i) → s.device i = some d →
     (∀ k : Fin 48, k < i → (∀ j ∈ last, j < k) → s.device k = none) →
     view = 0 → 1 ≤ first.toNat → first.toNat ≤ (s.deviceView i d).length →
     exec (.next view first) s = .next ((((s.received (.next view first)).setDevice i (some { d with bad := 0 })).setCursor
       (some { kind := .device, last := some (.device i.val) })).holding (.next view first) .ok
         (keyedPayload (nat i.val) (s.deviceView i d) first.toNat))) ∧
  (∀ (view first : Byte) (s : State), s.takes →
     let i := Instr.next view first
     let r := s.received i
     let gives := fun (kind : RecordKind) (place : CursorKey) (key : Word) (l : List Word) =>
       1 ≤ first.toNat → first.toNat ≤ l.length → exec i s =
         .next ((r.setCursor (some { kind, last := some place })).holding i .ok (keyedPayload key l first.toNat))
     (∀ (last : Option (Fin 17)) (z : Fin 17) (l : List Word),
       s.link.cursor = some { kind := .zone, last := last.map (fun y => .zone y.val) } →
       z.val = last.elim 0 (fun y => y.val + 1) → s.zoneView z view.toNat = some l →
       gives .zone (.zone z.val) (nat z.val) l) ∧
     (s.link.cursor = some { kind := .zone, last := some (.zone 16) } → exec i s = .next (r.bare i .finished)) ∧
     (∀ last : Option (Nat × Nat), s.link.cursor = some { kind := .point, last := last.map (fun k => .point k.1 k.2) } →
       (∀ (y : Fin 17), ∀ q ∈ s.pointsOf y, ∃ k ∈ last, y.val < k.1 ∨ (y.val = k.1 ∧ q.time ≤ k.2)) →
       exec i s = .next (r.bare i .finished)) ∧
     (∀ last : Option (Fin 17 × Nat), s.link.cursor = some { kind := .hold, last := last.map (fun k => .hold k.1.val k.2) } →
       (∀ k ∈ last, ∀ g ∈ s.stackOf k.1, k.2 ≤ g.pushed) →
       (∀ y : Fin 17, (∀ k ∈ last, k.1 < y) → s.stackOf y = []) → exec i s = .next (r.bare i .finished)) ∧
     (∀ last : Option (Fin 48), s.link.cursor = some { kind := .device, last := last.map (fun j => .device j.val) } →
       (∀ k : Fin 48, (∀ j ∈ last, j < k) → s.device k = none) → exec i s = .next (r.bare i .finished)) ∧
     (∀ last : Option Nat, s.link.cursor = some { kind := .join, last := last.map CursorKey.join } →
       (∀ e ∈ s.bus.joins, ∃ n ∈ last, e.number ≤ n) → exec i s = .next (r.bare i .finished)) ∧
     (∀ (last : Option (Nat × Nat)) (z : Fin 17) (p : Point), s.ProgramInv → view = 0 →
       s.link.cursor = some { kind := .point, last := last.map (fun k => .point k.1 k.2) } →
       let later := fun (y : Fin 17) (q : Point) => ∀ k ∈ last, k.1 < y.val ∨ (k.1 = y.val ∧ k.2 < q.time)
       p ∈ s.pointsOf z → later z p →
       (∀ (y : Fin 17), ∀ q ∈ s.pointsOf y, later y q → z < y ∨ (z = y ∧ p.time ≤ q.time)) →
       gives .point (.point z.val p.time) (nat p.time) [nat z.val, nat p.time, level p.level]) ∧
     (∀ (last : Option (Fin 17 × Nat)) (z : Fin 17) (h : Hold), s.HoldInv → view = 0 →
       s.link.cursor = some { kind := .hold, last := last.map (fun k => .hold k.1.val k.2) } →
       ((∃ n, last = some (z, n) ∧ h ∈ s.stackOf z ∧ h.pushed < n ∧
           ∀ g ∈ s.stackOf z, g.pushed < n → g ≠ h → g.pushed < h.pushed) ∨
         ((∀ k ∈ last, k.1 < z ∧ ∀ g ∈ s.stackOf k.1, k.2 ≤ g.pushed) ∧ (s.stackOf z).head? = some h ∧
           ∀ y : Fin 17, y < z → (∀ k ∈ last, k.1 < y) → s.stackOf y = [])) →
       gives .hold (.hold z.val h.pushed) (nat h.handle) (s.holdView z h)) ∧
     (∀ (last : Option Nat), ∀ e ∈ s.bus.joins, s.SerialInv → view = 0 →
       s.link.cursor = some { kind := .join, last := last.map CursorKey.join } → (∀ n ∈ last, n < e.number) →
       (∀ f ∈ s.bus.joins, (∀ n ∈ last, n < f.number) → e.number ≤ f.number) →
       gives .join (.join e.number) (nat e.number) (joinView e)))

/-! ### Zone records -/

/-- An accepted WRITE of a room zone: DISABLE is taken first; each carried numeric field is stored clamped, the request
limits last, the enumerated fields as carried, and, of a CALLING zone, the control fields into a pending
configuration formed from the active ones; ENABLE of a DISABLED zone is taken last. A carried setpoint input, an
enable and a disable resolve the zone. An accepted WRITE of ZW stores its fields clamped; a new default target
resolves it; a tPRIO or tGAP no longer than the time run ends the interval; then the channel is evaluated. Nothing
else changes but what the attached evaluations settle. A WRITE is refused whole: NOT_FOUND for a key above 16,
BAD_VALUE for an item that is no field of the record, an enumerated code outside its values, and values as written,
each against its partner as written or stored, that put the frost floor above the comfort ceiling or request_off at
or above request_on. (What it says beyond the rules is the model's choice: notes/assumptions/11.md,
notes/assumptions/12.md, notes/assumptions/15.md, notes/assumptions/16.md, notes/assumptions/33.md.) -/
def Obligations.WriteZone : Prop :=
  (∀ (key : Word) (z : Fin 16) (items : List Item) (s : State), s.takes → key.toNat = z.val →
     roomCheck (s.zone z).config items = true →
     let i := Instr.writeZone key items
     let off := itemNat items 16 == some 0 && (s.zone z).state != .disabled
     let on := itemNat items 16 == some 1 && (s.zone z).state == .disabled
     let cleared := fun (r : Zone) (state : ZoneState) => { r with
       state := state, pending := none, demand := 0, previous := 0, integral := 0, temp := none, tempSource := .none
       ownTarget := 0 }
     let r := if off then cleared (s.zone z) .disabled else s.zone z
     let c := r.config
     let written : Control := {
       emitter := (itemNat items 1).elim c.control.emitter (fun v => if v = 0 then .radiator else .floor)
       weight := (item items 2).elim c.control.weight (fun v => clamp v 1 100)
       kp := (item items 3).elim c.control.kp (fun v => clamp v 1 100)
       ki := (item items 4).elim c.control.ki (fun v => clamp v 0 20) }
     let control := carries items 1 || carries items 2 || carries items 3 || carries items 4
     let pends := control && r.state == .calling
     let high := (item items 11).elim c.requestOn (fun v => clamp v 50 500)
     let c' : ZoneConfig := {
       control := if pends then c.control else written
       minLift := (item items 5).elim c.minLift (fun v => clamp v 0 30)
       hysteresis := (item items 6).elim c.hysteresis (fun v => clamp v 1 10)
       headOffset := (item items 7).elim c.headOffset (fun v => clamp v 0 50)
       frostFloor := (item items 8).elim c.frostFloor (fun v => clamp v 50 100)
       comfortCeiling := (item items 9).elim c.comfortCeiling (fun v => clamp v 150 300)
       defaultSetpoint := (item items 10).elim c.defaultSetpoint (fun v => clamp v 50 300)
       requestOn := high
       requestOff := (item items 12).elim (if carries items 11 then min c.requestOff (high - 10) else c.requestOff)
         (fun v => clamp v 0 (high - 10))
       blindDemand := (item items 13).elim c.blindDemand (fun v => clamp v 0 1000)
       deviceHoldMinutes := (item items 14).elim c.deviceHoldMinutes (fun v => clamp v 15 480)
       vacantKeep := (itemNat items 15).elim c.vacantKeep (fun v => v == 1) }
     let stored : Zone := { r with config := c', pending := if pends then some written else r.pending }
     let u := (s.received i).setZone z (if on then cleared stored .satisfied else stored)
     let v := if off || on then u.announce z else u
     ∃ t, exec i s = .next (t.holding i (if pends then .pending else if roomClamped c items then .clamped else .ok)
         (keyedPayload key ({ r with config := c' } : Zone).configView 1)) ∧
       (if off || on || carries items 8 || carries items 9 || carries items 10 || carries items 15 then v.resolveRoom z
         else v).SettlesTo t) ∧
  (∀ (key : Word) (items : List Item) (s : State), s.takes → key.toNat = 16 → codesOk cylinderCodes items = true →
     (∀ v, itemNat items 16 = some v → v < 2) →
     let i := Instr.writeZone key items
     let stopped := fun (c : Cylinder) (state : CylinderState) =>
       { c with state := state, prio := none, gap := none, recovery := none }
     let off := itemNat items 16 == some 0 && s.cylinder.state != .disabled
     let on := itemNat items 16 == some 1 && s.cylinder.state == .disabled
     let old := if off then stopped s.cylinder .disabled else s.cylinder
     let stored : Cylinder := { old with
       dhwHyst := (item items 17).elim old.dhwHyst (fun v => clamp v 20 150)
       chargeMargin := (item items 18).elim old.chargeMargin (fun v => clamp v 50 250)
       tPrio := (item items 19).elim old.tPrio (fun v => clamp v 10 120)
       tGap := (item items 20).elim old.tGap (fun v => clamp v 5 60)
       defaultTarget := (item items 21).elim old.defaultTarget
         (fun v => if v < 300 then .off else .deg (min v 650)) }
     let u : State := { s.received i with cylinder := stored }
     let c := if off || on || carries items 21 then
         { stored with target := u.cylinderResolved.1, source := u.cylinderResolved.2 } else stored
     let now := s.time.now
     let charge := { stopped c .charging with prio := some now }
     let below := fun (k : Int) => s.boiler.tc.status = some .ok ∧
       ∃ (v τ : Int), s.boiler.tc.value = some v ∧ c.target = .deg τ ∧ v ≤ τ - k
     let reached := c.target = .off ∨ ∃ (v τ : Int), s.boiler.tc.value = some v ∧ c.target = .deg τ ∧ τ ≤ v
     let prioEnds := carries items 19 = true ∧ c.state = .charging ∧
       ∃ a, c.prio = some a ∧ c.tPrio.toNat * 60000 ≤ now - a
     let gapEnds := carries items 20 = true ∧ c.state = .gap ∧ ∃ a, c.gap = some a ∧ c.tGap.toNat * 60000 ≤ now - a
     let clamped := (∃ v, item items 17 = some v ∧ (v < 20 ∨ 150 < v)) ∨
       (∃ v, item items 18 = some v ∧ (v < 50 ∨ 250 < v)) ∨ (∃ v, item items 19 = some v ∧ (v < 10 ∨ 120 < v)) ∨
       (∃ v, item items 20 = some v ∧ (v < 5 ∨ 60 < v)) ∨
       (∃ v, item items 21 = some v ∧ ((v < 300 ∧ v ≠ 0 ∧ v ≠ -32768) ∨ 650 < v))
     ∃ (t : State) (r : Result), exec i s = .next (t.holding i r (keyedPayload 16 t.cylinderView 1)) ∧
       (clamped → r = .clamped) ∧ (¬ clamped → r = .ok) ∧
       ((if on ∧ s.boiler.tc.status ≠ some .ok then
           State.raise { s.received i with cylinder := c } .cylinder else { s.received i with cylinder := c }).SettlesTo t) ∧
       (s.CylinderInv → s.time.ready = true → (∃ k ∈ [17, 18, 19, 20, 21], carries items k = true) →
         (on = true → s.boiler.tc.status ≠ some .ok → t.cylinder = stopped c .fault) ∧
         (on = true → below c.dhwHyst → t.cylinder = charge) ∧
         (on = true → s.boiler.tc.status = some .ok → ¬ below c.dhwHyst → t.cylinder = stopped c .idle) ∧
         (on = false →
           (prioEnds → s.anyCalling = true → t.cylinder = { stopped c .gap with gap := some now }) ∧
           (prioEnds → s.anyCalling = false → ¬ reached → t.cylinder = { c with prio := some now }) ∧
           (gapEnds → below 1 → t.cylinder = charge) ∧ (gapEnds → ¬ below 1 → t.cylinder = stopped c .idle) ∧
           (c.state = .charging → reached → ¬(prioEnds ∧ s.anyCalling = true) → t.cylinder = stopped c .idle) ∧
           (c.state = .charging → ¬ reached → ¬ prioEnds → t.cylinder = c) ∧
           (c.state = .idle → below c.dhwHyst → t.cylinder = charge) ∧
           (c.state = .idle → ¬ below c.dhwHyst → t.cylinder = c) ∧ (c.state = .gap → ¬ gapEnds → t.cylinder = c) ∧
           (c.state = .disabled ∨ c.state = .fault → t.cylinder = c)))) ∧
  ((∀ (key : Word) (items : List Item) (s : State), s.takes → 16 < key.toNat →
     exec (.writeZone key items) s =
       .next ((s.received (.writeZone key items)).bare (.writeZone key items) .notFound)) ∧
   (∀ (key : Word) (z : Fin 16) (items : List Item) (s : State), s.takes → key.toNat = z.val →
     let c := (s.zone z).config
     ((∃ x ∈ items, 16 < x.code.toNat) ∨
       (∃ k ∈ [1, 15, 16], ∃ v, itemNat items k = some v ∧ 2 ≤ v) ∨
       ((carries items 8 = true ∨ carries items 9 = true) ∧
         (item items 9).getD c.comfortCeiling < (item items 8).getD c.frostFloor) ∨
       ((carries items 11 = true ∨ carries items 12 = true) ∧
         (item items 11).getD c.requestOn ≤ (item items 12).getD c.requestOff)) →
     exec (.writeZone key items) s =
       .next ((s.received (.writeZone key items)).bare (.writeZone key items) .badValue)) ∧
   (∀ (key : Word) (items : List Item) (s : State), s.takes → key.toNat = 16 →
     (∃ x ∈ items, x.code ≠ 0 ∧ (x.code.toNat < 16 ∨ 21 < x.code.toNat)) ∨ (∃ v, itemNat items 16 = some v ∧ 2 ≤ v) →
     exec (.writeZone key items) s =
       .next ((s.received (.writeZone key items)).bare (.writeZone key items) .badValue)))

/-- ENABLE of a DISABLED room zone makes it SATISFIED with its demand values 0 and its temperature UNKNOWN, and DISABLE
of an enabled one makes it DISABLED with the same values and its pending configuration discarded; either queues the
zone and resolves it. ENABLE of an enabled zone and DISABLE of a DISABLED one change nothing. All answer OK. ENABLE
of ZW while DISABLED moves it to IDLE with its evaluation, or to FAULT with CYLINDER when TC's status is not OK; in
an enabled state it changes nothing. DISABLE from any enabled state moves it to DISABLED with its timers stopped.
Either resolves ZW. (What it says beyond the rules is the model's choice: notes/assumptions/11.md,
notes/assumptions/12.md, notes/assumptions/16.md.) -/
def Obligations.EnableAndDisable : Prop :=
  (∀ (z : Fin 16) (s : State), s.takes →
     (let i := Instr.enable z
      ((s.zone z).state ≠ .disabled →
        exec i s = .next ((s.received i).holding i .ok (keyedPayload (nat z.val) (s.zone z).configView 1))) ∧
      ((s.zone z).state = .disabled → ∃ t,
        exec i s = .next (t.holding i .ok (keyedPayload (nat z.val) (s.zone z).configView 1)) ∧
        (((s.received i).setZone z { s.zone z with
          state := .satisfied, pending := none, demand := 0, previous := 0, integral := 0, temp := none
          tempSource := .none, ownTarget := 0, setpoint := s.roomSetpoint z
          source := (s.roomCandidate z).2 }).announce z).SettlesTo t)) ∧
     (let i := Instr.disable z
      ((s.zone z).state = .disabled →
        exec i s = .next ((s.received i).holding i .ok (keyedPayload (nat z.val) (s.zone z).configView 1))) ∧
      ((s.zone z).state ≠ .disabled → ∃ t,
        exec i s = .next (t.holding i .ok (keyedPayload (nat z.val) (s.zone z).configView 1)) ∧
        (((s.received i).setZone z { s.zone z with
          state := .disabled, pending := none, demand := 0, previous := 0, integral := 0, temp := none
          tempSource := .none, ownTarget := 0, setpoint := s.roomSetpoint z
          source := (s.roomCandidate z).2 }).announce z).SettlesTo t))) ∧
  (∀ s : State, s.takes →
     (let i := Instr.zwEnable
      (s.cylinder.state ≠ .disabled → ∃ t p, exec i s = .next (t.holding i .ok p) ∧ t = s.received i) ∧
      (s.cylinder.state = .disabled → s.boiler.tc.status = some .ok → ∃ t p,
        exec i s = .next (State.holding t i .ok p) ∧
        (State.SettlesTo { s.received i with cylinder := { s.cylinder with
          state := .idle, prio := none, gap := none, recovery := none
          target := s.cylinderResolved.1, source := s.cylinderResolved.2 } } t) ∧
        (t.cylinder.state = .charging ↔ s.time.ready = true ∧ ∃ (v τ : Int), s.boiler.tc.value = some v ∧
          s.cylinderResolved.1 = .deg τ ∧ v ≤ τ - s.cylinder.dhwHyst) ∧
        (t.cylinder.state ≠ .charging → t.cylinder.state = .idle)) ∧
      (s.cylinder.state = .disabled → s.boiler.tc.status ≠ some .ok → ∃ t p,
        exec i s = .next (State.holding t i .ok p) ∧
        (State.SettlesTo { (s.received i).raise .cylinder with cylinder := { s.cylinder with
          state := .fault, prio := none, gap := none, recovery := none
          target := s.cylinderResolved.1, source := s.cylinderResolved.2 } } t) ∧
        t.cylinder.state = .fault)) ∧
     (let i := Instr.zwDisable
      (s.cylinder.state = .disabled → ∃ t p, exec i s = .next (t.holding i .ok p) ∧ t = s.received i) ∧
      (s.cylinder.state ≠ .disabled → ∃ t p,
        exec i s = .next (State.holding t i .ok p) ∧
        (State.SettlesTo { s.received i with cylinder := { s.cylinder with
          state := .disabled, prio := none, gap := none, recovery := none
          target := s.cylinderResolved.1, source := s.cylinderResolved.2 } } t) ∧
        t.cylinder.state = .disabled ∧ t.cylinder.prio = none ∧ t.cylinder.gap = none)))

/-! ### Program points and resolution -/

/-- The point in force is the last point at or before the time of week, else the last point of the list; with an empty
list or an UNSET clock there is none. -/
def Obligations.PointInForce : Prop :=
  ∀ (s : State) (z : Fin 17), (s.pointsOf z).Pairwise (fun p q => p.time < q.time) →
    (s.clock.timeOfWeek = none → s.pointInForce z = none) ∧
    (s.pointsOf z = [] → s.pointInForce z = none) ∧
    ∀ time, s.clock.timeOfWeek = some time → s.pointsOf z ≠ [] →
      ∃ p ∈ s.pointsOf z, s.pointInForce z = some p ∧
        ((∃ q ∈ s.pointsOf z, q.time ≤ time) →
          p.time ≤ time ∧ ∀ q ∈ s.pointsOf z, q.time ≤ time → q.time ≤ p.time) ∧
        ((∀ q ∈ s.pointsOf z, time < q.time) → ∀ q ∈ s.pointsOf z, q.time ≤ p.time)

/-- An accepted CREATE of a point takes its place in time order, the level taken into the zone's level range, and
resolves the zone; CLAMPED says that the level stored differs from the level written. CREATE of a point is refused
in this order, with nothing changed: BAD_VALUE for a zone above 16 or a time above 10079, DUPLICATE for a time the
zone's list holds, FULL for a list of 32 points or a pool of 256. (What it says beyond the rules is the model's
choice: notes/assumptions/12.md, notes/assumptions/15.md,
notes/assumptions/16.md.) -/
def Obligations.CreatePoint : Prop :=
  (∀ (key : Word) (items : List Item) (z : Fin 17) (v : Int) (s : State), s.takes →
     codesOk [1, 2, 3] items = true → itemNat items 1 = some z.val → item items 3 = some v → key.toNat ≤ 10079 →
     (∀ q ∈ s.pointsOf z, q.time ≠ key.toNat) → (s.pointsOf z).length < 32 → s.pointCount < 256 →
     let i := Instr.createPoint key items
     let p : Point := {
       time := key.toNat
       level := if z = zw then (if v < 300 then .off else .deg (min v 650)) else .deg (clamp v 50 300) }
     let r : Result := if (z = zw ∧ ((v < 300 ∧ v ≠ 0 ∧ v ≠ -32768) ∨ 650 < v)) ∨ (z ≠ zw ∧ (v < 50 ∨ 300 < v))
       then .clamped else .ok
     ∃ t, exec i s = .next (t.holding i r (keyedPayload key [nat z.val, key, level p.level] 1)) ∧
       (((s.received i).setPoints z ((s.pointsOf z).takeWhile (fun q => decide (q.time ≤ p.time)) ++
         p :: (s.pointsOf z).dropWhile (fun q => decide (q.time ≤ p.time)))).resolve z).SettlesTo t) ∧
  (∀ (key : Word) (items : List Item) (n : Nat) (v : Int) (s : State), s.takes →
     codesOk [1, 2, 3] items = true → itemNat items 1 = some n → item items 3 = some v →
     let i := Instr.createPoint key items
     (16 < n ∨ 10079 < key.toNat → exec i s = .next ((s.received i).bare i .badValue)) ∧
     (∀ z : Fin 17, n = z.val → key.toNat ≤ 10079 →
       ((∃ q ∈ s.pointsOf z, q.time = key.toNat) → exec i s = .next ((s.received i).bare i .duplicate)) ∧
       ((∀ q ∈ s.pointsOf z, q.time ≠ key.toNat) → 32 ≤ (s.pointsOf z).length ∨ 256 ≤ s.pointCount →
         exec i s = .next ((s.received i).bare i .full))))

/-- WRITE of a point that its key names is checked whole: BAD_VALUE for a new time above 10079, DUPLICATE for one that
another point of the zone holds; else the point takes its new level, taken into the zone's level range, and its place
in time order, with CLAMPED exactly when the level stored differs from the level written, and the answer's key is the
new time. RETIRE removes it. Both answer NOT_FOUND where the key names no point, and resolve the zone where they change it. (What it says beyond
the rules is the model's choice: notes/assumptions/12.md, notes/assumptions/15.md.) -/
def Obligations.WriteAndRetirePoint : Prop :=
  (∀ (key : Word) (items : List Item) (z : Fin 17) (p : Point) (s : State), s.takes →
    codesOk [1, 2, 3] items = true → itemNat items 1 = some z.val →
    (s.pointsOf z).Pairwise (fun a b => a.time < b.time) → p ∈ s.pointsOf z → p.time = key.toNat →
    let i := Instr.writePoint key items
    let time := (item items 2).getD p.time
    ((time < 0 ∨ 10079 < time) → carries items 2 = true → exec i s = .next ((s.received i).bare i .badValue)) ∧
    (0 ≤ time → time ≤ 10079 →
      ((∃ q ∈ s.pointsOf z, q ≠ p ∧ (q.time : Int) = time) →
        exec i s = .next ((s.received i).bare i .duplicate)) ∧
      ((∀ q ∈ s.pointsOf z, q ≠ p → (q.time : Int) ≠ time) → ∃ t : State,
        let q : Point := { time := time.toNat, level := (item items 3).elim p.level (fun v =>
          if z = zw then (if v < 300 then .off else .deg (min v 650)) else .deg (clamp v 50 300)) }
        let clamped := ∃ v, item items 3 = some v ∧
          ((z = zw ∧ ((v < 300 ∧ v ≠ 0 ∧ v ≠ -32768) ∨ 650 < v)) ∨ (z ≠ zw ∧ (v < 50 ∨ 300 < v)))
        (∃ r : Result, (clamped → r = .clamped) ∧ (¬ clamped → r = .ok) ∧
          exec i s = .next (t.holding i r (keyedPayload (nat q.time) [nat z.val, nat q.time, level q.level] 1))) ∧
        let rest := (s.pointsOf z).filter (fun x => x.time != p.time)
        (((s.received i).setPoints z (rest.takeWhile (fun x => decide (x.time ≤ q.time)) ++
          q :: rest.dropWhile (fun x => decide (x.time ≤ q.time)))).resolve z).SettlesTo t))) ∧
  (∀ (key : Word) (items : List Item) (s : State), s.takes →
    (∀ z : Fin 17, itemNat items 1 = some z.val → ∀ p ∈ s.pointsOf z, p.time ≠ key.toNat) →
    exec (.writePoint key items) s =
      .next ((s.received (.writePoint key items)).bare (.writePoint key items) .notFound)) ∧
  (∀ (key : Word) (zone : Byte) (s : State), s.takes →
    let i := Instr.retirePoint key zone
    ((∀ z : Fin 17, zone.toNat = z.val → ∀ p ∈ s.pointsOf z, p.time ≠ key.toNat) →
      exec i s = .next ((s.received i).bare i .notFound)) ∧
    (∀ (z : Fin 17) (p : Point), zone.toNat = z.val → p ∈ s.pointsOf z → p.time = key.toNat →
      ∃ t, exec i s = .next (t.bare i .ok) ∧
        (((s.received i).setPoints z ((s.pointsOf z).filter (fun x => x.time != key.toNat))).resolve z).SettlesTo t))

/-- Resolving all zones stores in each room zone the candidate of its mode and stack, clamped to floor and ceiling, with
its source, gives ZW its target, and enters the room zones whose setpoint changed into the announcement queue, in
index order and at most once. Nothing else changes. (What it says beyond the rules is the model's choice:
notes/assumptions/14.md.) -/
def Obligations.ResolutionOfAllZones : Prop :=
  ∀ s : State, ∃ zs : Vector Zone 16,
    s.resolveAll = { s with
      zones := zs
      cylinder := { s.cylinder with target := s.resolveAll.cylinder.target, source := s.resolveAll.cylinder.source }
      bus := { s.bus with announce := s.bus.announce ++ rooms.filter (fun z =>
        decide (zs[z].setpoint ≠ (s.zone z).setpoint) && decide (z ∉ s.bus.announce)) } } ∧
    (∀ z : Fin 16, zs[z] = { s.zone z with setpoint := zs[z].setpoint, source := zs[z].source }) ∧
    (∀ z : Fin 16, let r := s.zone z
      let c := r.config
      (s.house.mode = .vacant → zs[z].source = .vacant ∧ zs[z].setpoint =
        clamp (if c.vacantKeep then s.house.vacantSetpoint else c.frostFloor) c.frostFloor c.comfortCeiling) ∧
      (∀ (h : Hold) (l : List Hold), s.stackOf (roomIndex z) = h :: l → s.house.mode ≠ .vacant →
        zs[z].source = .hold ∧ zs[z].setpoint = clamp h.setpoint c.frostFloor c.comfortCeiling) ∧
      (s.stackOf (roomIndex z) = [] → s.house.mode ≠ .vacant →
        zs[z].source = (if s.house.mode = .setback then .setback
          else if (s.pointInForce (roomIndex z)).isSome then .program else .default) ∧
        ∀ v : Int, (∀ p : Point, s.pointInForce (roomIndex z) = some p → p.level = .deg v) →
          (s.pointInForce (roomIndex z) = none → v = c.defaultSetpoint) →
          zs[z].setpoint = clamp (if s.house.mode = .setback then v - s.house.setbackOffset else v)
            c.frostFloor c.comfortCeiling)) ∧
    (s.house.mode = .vacant → s.resolveAll.cylinder.target = .off ∧ s.resolveAll.cylinder.source = .vacant) ∧
    (∀ (h : Hold) (l : List Hold), s.stackOf zw = h :: l → s.house.mode ≠ .vacant →
      s.resolveAll.cylinder.target = .deg h.setpoint ∧ s.resolveAll.cylinder.source = .hold) ∧
    (s.stackOf zw = [] → s.house.mode ≠ .vacant →
      (∀ p : Point, s.pointInForce zw = some p →
        s.resolveAll.cylinder.target = p.level ∧ s.resolveAll.cylinder.source = .program) ∧
      (s.pointInForce zw = none →
        s.resolveAll.cylinder.target = s.cylinder.defaultTarget ∧ s.resolveAll.cylinder.source = .default))

/-! ### Holds -/

/-- A push takes the handle counter's value when no hold has it, and otherwise the next value, 65535 being followed by
1, that no hold has; a handle so taken is in use by no hold and lies in 1..65535. -/
def Obligations.NewHandleIsFree : Prop :=
  ∀ s : State, s.HoldInv →
    (s.holds.handles ∉ s.handlesInUse → s.newHandle = s.holds.handles) ∧
    s.newHandle ∉ s.handlesInUse ∧ 1 ≤ s.newHandle ∧ s.newHandle ≤ 65535 ∧
    ∃ n ≤ 24, s.newHandle = (s.holds.handles - 1 + n) % 65535 + 1 ∧
      ∀ m < n, (s.holds.handles - 1 + m) % 65535 + 1 ∈ s.handlesInUse

/-- An accepted CREATE of a hold puts it on top of its zone's stack with a new handle and push number, its setpoint
taken into range; a stack that held 4 loses its bottom hold, and HOLD_DISPLACED is raised. FULL is answered only
where the stack is not full and the pool holds 24, and nothing changes. CREATE of a hold whose zone is above 16,
whose end kind or retain code lies outside its values, or that lacks one of its items is refused with BAD_VALUE, and
nothing changes. (What it says beyond the rules is the model's choice: notes/assumptions/12.md,
notes/assumptions/15.md.) -/
def Obligations.CreateHold : Prop :=
  (∀ (items : List Item) (z : Fin 17) (v : Int) (code k : Nat) (s : State), s.takes → s.HoldInv →
     codesOk [1, 2, 3, 4, 5, 6, 7, 8] items = true → itemNat items 2 = some z.val → item items 3 = some v →
     itemNat items 4 = some code → code < 3 → itemNat items 7 = some k → k < 2 →
     (code = 1 → carries items 5 = true) →
     let i := Instr.createHold items
     let m := (itemNat items 5).getD 0
     let h : Hold := {
       handle := s.newHandle
       setpoint := s.holdRange z v
       ending := match code with
         | 0 => .nextPoint
         | 1 => .countdown (max m 1)
         | _ => .indefinite
       origin := .link
       retain := decide (k = 1)
       pushed := s.holds.pushes }
     ((s.stackOf z).length < 4 → 24 ≤ s.poolCount → exec i s = .next ((s.received i).bare i .full)) ∧
     ((s.stackOf z).length = 4 ∨ s.poolCount < 24 → ∃ (t : State) (p : List Byte),
       exec i s = .next (t.holding i (if s.holdRange z v ≠ v ∨ (code = 1 ∧ m = 0) then .clamped else .ok) p) ∧
       p.take 4 = [11, 1, (nat h.handle).hi, (nat h.handle).lo] ∧
       ((if (s.stackOf z).length = 4 then (s.received i).raise .holdDisplaced else s.received i) |> fun r =>
         State.resolve { r with holds := {
           stack := s.holds.stack.set z (h :: (s.stackOf z).take 3)
           handles := if h.handle = 65535 then 1 else h.handle + 1
           pushes := (s.holds.pushes + 1) % 4294967296 } } z).SettlesTo t)) ∧
  (∀ (items : List Item) (s : State), s.takes →
     (∃ n, itemNat items 2 = some n ∧ 16 < n) ∨ (∃ n, itemNat items 4 = some n ∧ 2 < n) ∨
       (∃ n, itemNat items 7 = some n ∧ 1 < n) ∨ (∃ c ∈ [2, 3, 4, 7], itemNat items c = none) ∨
       (itemNat items 4 = some 1 ∧ itemNat items 5 = none) →
     exec (.createHold items) s = .next ((s.received (.createHold items)).bare (.createHold items) .badValue))

/-- An accepted WRITE of a hold stores its setpoint, taken into range, and its end kind and minutes, in its place; the
zone is resolved. (What it says beyond the rules is the model's choice: notes/assumptions/12.md, notes/assumptions/15.md.)
-/
def Obligations.WriteHoldStores : Prop :=
  (∀ (key : Word) (items : List Item) (z : Fin 17) (h : Hold) (s : State), s.takes →
    s.findHold key.toNat = some (z, h) →
    let i := Instr.writeHold key items
    let code := (itemNat items 4).getD (match h.ending with | .nextPoint => 0 | .countdown _ => 1 | .indefinite => 2)
    let was := match h.ending with | .countdown _ => true | _ => false
    (codesOk [3, 4, 5] items = false ∨ 2 < code ∨ (was = false ∧ code = 1 ∧ carries items 5 = false) ∨
        (carries items 5 = true ∧ code ≠ 1) →
      exec i s = .next ((s.received i).bare i .badValue)) ∧
    (codesOk [3, 4, 5] items = true → code ≤ 2 → (was = true ∨ code ≠ 1 ∨ carries items 5 = true) →
        (carries items 5 = true → code = 1) → ∃ (t : State) (r : Result) (p : List Byte), exec i s = .next (t.holding i r p) ∧
        (r = .clamped ↔ (∃ v, item items 3 = some v ∧ s.holdRange z v ≠ v) ∨ itemNat items 5 = some 0) ∧
        (r = .ok ∨ r = .clamped) ∧
        let g : Hold := { h with
          setpoint := (item items 3).elim h.setpoint (s.holdRange z)
          ending := if code = 0 then .nextPoint else if code = 2 then .indefinite
            else (itemNat items 5).elim h.ending (fun m => .countdown (max m 1)) }
        (((s.received i).setStack z ((s.stackOf z).map (fun x => if x.handle = h.handle then g else x))).resolve
          z).SettlesTo t)) ∧
  (∀ (key : Word) (items : List Item) (s : State), s.takes → s.findHold key.toNat = none →
    exec (.writeHold key items) s =
      .next ((s.received (.writeHold key items)).bare (.writeHold key items) .notFound))

/-- RETIRE of a hold removes it from its stack, whatever it is; those that remain keep their order, the pool count drops
by one and the zone is resolved. A handle that names no hold is NOT_FOUND, and key 0 BAD_COMMAND. (What it says
beyond the rules is the model's choice: notes/assumptions/12.md.) -/
def Obligations.RetireHoldRemoves : Prop :=
  (∀ (key : Word) (z : Fin 17) (h : Hold) (above below : List Hold) (s : State), s.takes → s.HoldInv →
    s.stackOf z = above ++ h :: below → h.handle = key.toNat →
    ∃ t, exec (.retireHold key) s = .next (t.bare (.retireHold key) .ok) ∧ t.stackOf z = above ++ below ∧
      t.poolCount + 1 = s.poolCount ∧
      (((s.received (.retireHold key)).setStack z (above ++ below)).resolve z).SettlesTo t) ∧
  (∀ (key : Word) (s : State), s.takes → key ≠ 0 → key.toNat ∉ s.handlesInUse →
    exec (.retireHold key) s = .next ((s.received (.retireHold key)).bare (.retireHold key) .notFound)) ∧
  (∀ s : State, s.takes →
    exec (.retireHold 0) s = .next ((s.received (.retireHold 0)).bare (.retireHold 0) .badCommand))

/-- The expiry of a hold, a start-list entry or a join entry in its last minute is its block taking the minute tick that
is due, whole and at that moment, which MINUTE_TICK does not repeat: every countdown loses a minute, those without
one left are retired and all zones resolved; every start ages, those that reach 60 are removed and a start is
evaluated, so a burner that waited for STARTS alone fires and its entry is 0 minutes old; every join entry ages, and
those that reach 10 are removed. With minutes left, while READY is low, or where the block has taken the tick,
nothing changes. (The rows of their own and the order within a tick are the model's choice, notes/assumptions/4.md,
notes/assumptions/2.md, notes/assumptions/9.md, notes/assumptions/14.md,
notes/assumptions/19.md.) -/
def Obligations.LastMinuteExpiries : Prop :=
  (∀ (handle : Nat) (z : Fin 17) (h : Hold) (m : Nat) (s : State), s.findHold handle = some (z, h) →
     h.ending = .countdown m →
     (s.time.ready = true → s.clock.taken.holds = false → m ≤ 1 → ∃ (t : State) (stk : Vector (List Hold) 17),
       exec (.holdCountdownExpiry handle) s = .next t ∧
       (∀ y : Fin 17, stk[y] = (s.stackOf y).filterMap (fun h => match h.ending with
         | .countdown m => if m ≤ 1 then none else some { h with ending := .countdown (m - 1) }
         | _ => some h)) ∧
       (State.resolveAll { s with
         time := { s.time with now := max s.time.now (s.clock.minuteAt.getD s.time.now) }
         clock := { s.clock with taken := { s.clock.taken with holds := true } }
         holds := { s.holds with stack := stk } }).SettlesTo t) ∧
     (s.time.ready = false ∨ s.clock.taken.holds = true ∨ 1 < m → exec (.holdCountdownExpiry handle) s = .next s)) ∧
  ((∀ (s : State) (a : Nat) (l : List Nat), s.boiler.startList = a :: l →
     (s.time.ready = false ∨ s.clock.taken.starts = true ∨ a < 59 → exec .startListEntryExpiry s = .next s) ∧
     (s.time.ready = true → s.clock.taken.starts = false → 59 ≤ a → ∃ t, exec .startListEntryExpiry s = .next t ∧
       let aged := (l.map (· + 1)).filter (fun b => decide (b < 60))
       (State.SettlesTo { s with
         time := { s.time with now := max s.time.now (s.clock.minuteAt.getD s.time.now) }
         clock := { s.clock with taken := { s.clock.taken with starts := true } }
         boiler := { s.boiler with startList := aged } } t) ∧
       (t.boiler.startList = aged ∨ t.boiler.startList = aged ++ [0]) ∧
       (s.boiler.burner = .wait .starts → s.evalCylinder = s → s.startConditions = true → s.reportedPass = true →
         (aged.length : Int) < s.boiler.config.startsLimit →
         t.boiler.burner = .firing ∧ t.boiler.startList = aged ++ [0]))) ∧
   (∀ s : State, s.boiler.startList = [] → exec .startListEntryExpiry s = .next s)) ∧
  (∀ (n : Nat) (s : State),
     (s.time.ready = false ∨ s.clock.taken.joins = true ∨ (∀ e ∈ s.bus.joins, e.number = n → e.age < 9) →
       exec (.joinEntryExpiry n) s = .next s) ∧
     (∀ e ∈ s.bus.joins, s.SerialInv → s.time.ready = true → s.clock.taken.joins = false → e.number = n → 9 ≤ e.age →
       let aged := s.bus.joins.filterMap (fun x => if x.age + 1 < 10 then some { x with age := x.age + 1 } else none)
       exec (.joinEntryExpiry n) s = .next { s with
         time := { s.time with now := max s.time.now (s.clock.minuteAt.getD s.time.now) }
         clock := { s.clock with taken := { s.clock.taken with joins := true } }
         bus := { s.bus with
           joins := aged
           lastEntry := if aged = [] ∧ s.bus.lastEntry = 65535 then 0 else s.bus.lastEntry } }))

/-! ### House modes -/

/-- A change of the house mode enters every room zone not already queued into the announcement queue in index order,
raises MODE_CHANGED and resolves all zones. SET MODE of SETBACK or VACANT makes it where the mode differs and stores
the countdown carried, 0 being none; of the mode in force it replaces the countdown alone. A rising edge of WAKE
while READY is set, with the INPUT enable set, returns a house in SETBACK or VACANT to OCCUPIED, records INPUT, and
with disarm_on_wake yes clears the PRESENCE and INPUT enables; otherwise it does nothing. A return countdown in its
last minute that runs out becomes none and, with RETURN set, is a wake of cause RETURN that clears no enable; the
House Mode Unit has then taken the minute tick that is due. (What it says beyond the rules is the model's choice:
notes/assumptions/2.md, notes/assumptions/4.md, notes/assumptions/12.md, notes/assumptions/14.md.) -/
def Obligations.HouseModeChanges : Prop :=
  (∀ (mode : Byte) (m : Mode) (countdown : Word) (s : State), s.takes →
     (mode = 1 ∧ m = .setback) ∨ (mode = 2 ∧ m = .vacant) →
     let i := Instr.setMode mode countdown
     let c : Option Nat := if countdown = 0 then none else some countdown.toNat
     (s.house.mode = m → ∃ p, exec i s =
       .next (State.holding { s.received i with house := { s.house with countdown := c } } i .ok p)) ∧
     (s.house.mode ≠ m → ∃ (t : State) (p : List Byte), exec i s = .next (t.holding i .ok p) ∧
       (State.resolveAll { (s.received i).raise .modeChanged with
         house := { s.house with mode := m, countdown := c }
         bus := { s.bus with announce :=
           s.bus.announce ++ rooms.filter (fun z => decide (z ∉ s.bus.announce)) } }).SettlesTo t)) ∧
  ((∀ s : State, s.time.ready = false ∨ s.house.wakeInput = false ∨ s.house.mode = .occupied →
     exec .wakeInputEdge s = .next s) ∧
   (∀ s : State, s.time.ready = true → s.house.wakeInput = true → s.house.mode ≠ .occupied →
     ∃ t, exec .wakeInputEdge s = .next t ∧
       (State.resolveAll { s.raise .modeChanged with
         house := { s.house with
           mode := .occupied, countdown := none, lastCause := some .input
           wakePresence := s.house.wakePresence && !s.house.disarmOnWake, wakeInput := !s.house.disarmOnWake }
         bus := { s.bus with announce :=
           s.bus.announce ++ rooms.filter (fun z => decide (z ∉ s.bus.announce)) } }).SettlesTo t) ∧
   (∀ s : State, s.time.ready = false ∨ s.clock.taken.house = true ∨ s.house.countdown ≠ some 1 →
     exec .returnCountdownExpiry s = .next s) ∧
   (∀ s : State, s.time.ready = true → s.clock.taken.house = false → s.house.countdown = some 1 →
     s.house.mode ≠ .occupied →
     let u := { s with
       time := { s.time with now := max s.time.now (s.clock.minuteAt.getD s.time.now) }
       clock := { s.clock with taken := { s.clock.taken with house := true } } }
     (s.house.wakeReturn = false → exec .returnCountdownExpiry s =
       .next { u with house := { s.house with countdown := none } }) ∧
     (s.house.wakeReturn = true → ∃ t, exec .returnCountdownExpiry s = .next t ∧
       (State.resolveAll { u.raise .modeChanged with
         house := { s.house with mode := .occupied, countdown := none, lastCause := some .return }
         bus := { s.bus with announce :=
           s.bus.announce ++ rooms.filter (fun z => decide (z ∉ s.bus.announce)) } }).SettlesTo t)))

/-- SET MODE carrying OCCUPIED with countdown 0 is a LINK wake: in SETBACK or VACANT it returns the house to OCCUPIED,
clears the countdown, records LINK and leaves every wake enable; in OCCUPIED it has no effect. Both answer OK. With
a countdown it is refused with BAD_VALUE. A code above 2 is refused likewise. (What it says beyond the rules is the
model's choice: notes/assumptions/12.md, notes/assumptions/14.md.) -/
def Obligations.SetModeOccupied : Prop :=
  ∀ (countdown : Word) (s : State), s.takes →
    let i := Instr.setMode 0 countdown
    (countdown = 0 → s.house.mode = .occupied → ∃ p, exec i s = .next ((s.received i).holding i .ok p)) ∧
    (countdown = 0 → s.house.mode ≠ .occupied → ∃ (t : State) (p : List Byte),
      exec i s = .next (t.holding i .ok p) ∧
      (State.resolveAll { (s.received i).raise .modeChanged with
        house := { s.house with mode := .occupied, countdown := none, lastCause := some .link }
        bus := { s.bus with announce :=
          s.bus.announce ++ rooms.filter (fun z => decide (z ∉ s.bus.announce)) } }).SettlesTo t) ∧
    (countdown ≠ 0 → exec i s = .next ((s.received i).bare i .badValue)) ∧
    (∀ mode : Byte, 2 < mode.toNat → exec (.setMode mode countdown) s =
      .next ((s.received (.setMode mode countdown)).bare (.setMode mode countdown) .badValue))

/-- WRITE of the house record stores each carried field, the two numeric ones clamped, and resolves the room zones where
it carries one of those; other keys are NOT_FOUND, and the mode, the countdown, the last cause, or a code above 1 of
an enable are refused with BAD_VALUE. WRITE of the motor record: NOT_FOUND for a key other than 0, BAD_VALUE for any
other item, STATE for token_limit while the line is not STOPPED; else each field is stored clamped, and CLAMPED says
that one was changed by it. (What it says beyond the rules is the model's choice: notes/assumptions/12.md,
notes/assumptions/14.md, notes/assumptions/15.md, notes/assumptions/16.md.) -/
def Obligations.WriteHouseAndMotor : Prop :=
  ((∀ (key : Word) (items : List Item) (s : State), s.takes → key ≠ 0 →
     exec (.writeHouse key items) s =
       .next ((s.received (.writeHouse key items)).bare (.writeHouse key items) .notFound)) ∧
   (∀ (items : List Item) (s : State), s.takes →
     (∃ c ∈ [1, 2, 7], carries items c = true) ∨ (∃ c ∈ [3, 4, 5, 6], ∃ v, itemNat items c = some v ∧ 1 < v) →
     exec (.writeHouse 0 items) s =
       .next ((s.received (.writeHouse 0 items)).bare (.writeHouse 0 items) .badValue)) ∧
   (∀ (items : List Item) (s : State), s.takes → codesOk [3, 4, 5, 6, 8, 9] items = true →
     (∀ c ∈ [3, 4, 5, 6], ∀ v, itemNat items c = some v → v < 2) →
     let i := Instr.writeHouse 0 items
     let u := { s.received i with house := { s.house with
       wakeReturn := (itemNat items 3).elim s.house.wakeReturn (fun v => v == 1)
       wakePresence := (itemNat items 4).elim s.house.wakePresence (fun v => v == 1)
       wakeInput := (itemNat items 5).elim s.house.wakeInput (fun v => v == 1)
       disarmOnWake := (itemNat items 6).elim s.house.disarmOnWake (fun v => v == 1)
       setbackOffset := (item items 8).elim s.house.setbackOffset (fun v => clamp v 0 100)
       vacantSetpoint := (item items 9).elim s.house.vacantSetpoint (fun v => clamp v 50 150) } }
     ∃ (t : State), exec i s = .next (t.holding i
         (if (∃ v, item items 8 = some v ∧ (v < 0 ∨ 100 < v)) ∨ (∃ v, item items 9 = some v ∧ (v < 50 ∨ 150 < v))
           then .clamped else .ok) (keyedPayload 0 t.houseView 1)) ∧
       (if carries items 8 || carries items 9 then u.resolveRooms else u).SettlesTo t)) ∧
  (∀ (key : Word) (items : List Item) (s : State), s.takes →
     let i := Instr.writeMotor key items
     (key ≠ 0 → exec i s = .next ((s.received i).bare i .notFound)) ∧
     (key = 0 → codesOk [1, 2] items = false → exec i s = .next ((s.received i).bare i .badValue)) ∧
     (key = 0 → codesOk [1, 2] items = true → carries items 1 = true → s.bus.line ≠ .stopped →
       exec i s = .next ((s.received i).bare i .state)) ∧
     (key = 0 → codesOk [1, 2] items = true → carries items 1 = false ∨ s.bus.line = .stopped → ∃ p, exec i s =
       .next (State.holding { s.received i with motor := { s.motor with
           tokenLimit := (item items 1).elim s.motor.tokenLimit (fun v => clamp v 1 6)
           exerciseHour := (item items 2).elim s.motor.exerciseHour (fun v => clamp v 0 23) } } i
         (if (∃ v, item items 1 = some v ∧ (v < 1 ∨ 6 < v)) ∨ (∃ v, item items 2 = some v ∧ (v < 0 ∨ 23 < v))
           then .clamped else .ok) p)))

/-! ### Boiler and cylinder -/

/-- An accepted WRITE of the boiler record stores each carried field, every numeric one clamped. A tBON, tBOFF or tOVR no
longer than the time already run ends its interval. With a field carried and READY set everything is evaluated again
with the values stored: a burner in READY or WAIT, or whose tBOFF ended, is READY without the start conditions, waits
for STARTS at starts_limit, else for FLOW while the reported check fails, else fires; one firing past its tBON stops
without burner demand or at F + off_diff; the reported check is that of the new bypass_zone and minflow_pct, but under
a burner that goes on firing its result stays, passing where it was out of force, as it is not evaluated; the pump
follows its reasons; forcing is in force exactly while the pump is not STOPPED and the commanded check fails, and the
valves it takes get 100, those it gives back their own target, the old zone's where bypass_zone changed. Other keys
are NOT_FOUND, and a bypass_zone code out of range, or values as written that put floor_max or flow_max below
flow_min, are BAD_VALUE. (What it says beyond the rules is the model's choice: notes/assumptions/9.md,
notes/assumptions/11.md, notes/assumptions/12.md, notes/assumptions/15.md, notes/assumptions/16.md, notes/assumptions/22.md,
notes/assumptions/31.md.) -/
def Obligations.WriteBoilerStores : Prop :=
  (∀ (key : Word) (items : List Item) (s : State), s.takes → key ≠ 0 →
    exec (.writeBoiler key items) s =
      .next ((s.received (.writeBoiler key items)).bare (.writeBoiler key items) .notFound)) ∧
  (∀ (items : List Item) (s : State), s.takes →
    (∃ x ∈ items, 18 < x.code.toNat) ∨ (∃ w, itemWord items 17 = some w ∧ 16 ≤ w.toNat ∧ w ≠ 0x8000) ∨
    ((carries items 4 = true ∨ carries items 6 = true) ∧
      (item items 6).getD s.boiler.config.floorMax < (item items 4).getD s.boiler.config.flowMin) ∨
    ((carries items 4 = true ∨ carries items 5 = true) ∧
      (item items 5).getD s.boiler.config.flowMax < (item items 4).getD s.boiler.config.flowMin) →
    exec (.writeBoiler 0 items) s =
      .next ((s.received (.writeBoiler 0 items)).bare (.writeBoiler 0 items) .badValue)) ∧
  (∀ (items : List Item) (s : State), s.takes → boilerCheck s.boiler.config items = true →
    let i := Instr.writeBoiler 0 items
    let c := s.boiler.config
    let c' : BoilerConfig := {
      curveSlope := (item items 1).elim c.curveSlope (fun v => clamp v 2 40)
      boostMax := (item items 2).elim c.boostMax (fun v => clamp v 0 150)
      shift := (item items 3).elim c.shift (fun v => clamp v (-100) 100)
      flowMin := (item items 4).elim c.flowMin (fun v => clamp v 200 500)
      flowMax := (item items 5).elim c.flowMax (fun v => clamp v 400 850)
      floorMax := (item items 6).elim c.floorMax (fun v => clamp v 250 550)
      kmod := (item items 7).elim c.kmod (fun v => clamp v 1 50)
      modMin := (item items 8).elim c.modMin (fun v => clamp v 10 50)
      onDiff := (item items 9).elim c.onDiff (fun v => clamp v 20 150)
      offDiff := (item items 10).elim c.offDiff (fun v => clamp v 20 100)
      tBon := (item items 11).elim c.tBon (fun v => clamp v 1 15)
      tBoff := (item items 12).elim c.tBoff (fun v => clamp v 1 30)
      tOvr := (item items 13).elim c.tOvr (fun v => clamp v 1 15)
      startsLimit := (item items 14).elim c.startsLimit (fun v => clamp v 1 12)
      frostOut := (item items 15).elim c.frostOut (fun v => clamp v (-100) 100)
      outdoorFallback := (item items 16).elim c.outdoorFallback (fun v => clamp v (-300) 300)
      bypassZone := (itemWord items 17).elim c.bypassZone (fun w =>
        if h : w.toNat < 16 then some ⟨w.toNat, h⟩ else none)
      minflowPct := (item items 18).elim c.minflowPct (fun v => clamp v 0 50) }
    ∃ t, exec i s = .next (t.holding i (if boilerClamped items then .clamped else .ok) (keyedPayload 0 t.boilerView 1)) ∧
      (State.SettlesTo { s.received i with boiler := { s.boiler with config := c' } } t) ∧
      (carries items 11 = true → s.boiler.burner = .firing →
        (∀ a, s.boiler.minOn = some a → c'.tBon.toNat * 60000 ≤ s.time.now - a) → t.boiler.minOn = none) ∧
      (carries items 12 = true → s.boiler.burner = .off →
        c'.tBoff.toNat * 60000 ≤ s.time.now - s.boiler.lastStop → t.boiler.burner ≠ .off) ∧
      ((∃ x ∈ items, x.code ≠ 0) → s.time.ready = true →
        let b := s.boiler
        let b' := t.boiler
        let now := s.time.now
        let ran := fun (code start : Nat) (length : Int) =>
          carries items code && decide (length.toNat * 60000 ≤ now - start)
        let minOn := b.minOn.filter (fun a => !ran 11 a c'.tBon)
        let burner := if b.burner = .off ∧ ran 12 b.lastStop c'.tBoff = true then .ready else b.burner
        let pump := match b.pump with
          | .overrun a => if ran 13 a c'.tOvr then .stopped else .overrun a
          | p => p
        let wanted := t.burnerDemand = true ∧ b.tf.status = some .ok ∧
          ∃ v, b.tf.value = some v ∧ v ≤ t.flowTarget - c'.onDiff
        let full := c'.startsLimit ≤ (b.startList.length : Int)
        let stops := minOn = none ∧ (t.burnerDemand = false ∨
          ∃ v, b.tf.value = some v ∧ t.flowTarget + c'.offDiff ≤ v)
        let held := b.forcing = true ∧ c'.bypassZone = b.config.bypassZone
        t.cylinder = s.evalCylinder.cylinder ∧
        (burner = .ready ∨ burner = .wait .starts ∨ burner = .wait .flow →
          (¬ wanted → b'.burner = .ready ∧ b'.startList = b.startList) ∧
          (wanted → full → b'.burner = .wait .starts ∧ b'.startList = b.startList) ∧
          (wanted → ¬ full → t.reportedPass = false → b'.burner = .wait .flow ∧ b'.startList = b.startList ∧
            b'.waitFlow = if b.burner = .wait .flow then b.waitFlow else some now) ∧
          (wanted → ¬ full → t.reportedPass = true →
            b'.burner = .firing ∧ b'.minOn = some now ∧ b'.startList = b.startList ++ [0])) ∧
        (burner = .firing → b'.startList = b.startList ∧
          (stops → b'.burner = .off ∧ b'.lastStop = now) ∧
          (¬ stops → b'.burner = .firing ∧ b'.minOn = minOn ∧ b'.lastStop = b.lastStop)) ∧
        (burner = .off ∨ burner = .lockedOut ∨ burner = .sensorFault →
          b'.burner = burner ∧ b'.startList = b.startList) ∧
        b'.reported = (if c'.bypassZone ≠ none ∧ c'.minflowPct ≠ 0 ∧ t.cylinder.state ≠ .charging then
          some (if b.burner = .firing ∧ b'.burner = .firing then
            b.reported.getD (decide (s.cylinder.state ≠ .charging) || t.reportedPass) else t.reportedPass)
          else none) ∧
        b'.pump = (if t.pumpReason then .running else if pump = .running then .overrun now else pump) ∧
        (b'.forcing = true ↔ b'.pump ≠ .stopped ∧ t.commandedPass = false) ∧
        (∀ (z : Fin 16) (i : Fin 48) (d : Device), s.device i = some d → d.servesZone z = true →
          (c'.bypassZone = some z → b'.forcing = true → ¬ held → (t.device i).map Device.target = some 100) ∧
          (b.config.bypassZone = some z → b.forcing = true → ¬ (held ∧ b'.forcing = true) →
            (t.device i).map Device.target = some (s.zone z).ownTarget)) ∧
        (b'.forcing = b.forcing → held ∨ b.forcing = false → t.registry = s.registry ∧ t.motor = s.motor)))

/-- BOILER RESET starts the pulse in LOCKED_OUT with no pulse running and fewer than 3 attempts, is ignored while a
pulse runs, and is refused with STATE otherwise. The pulse ends tRST after its start; until then the burner stays
LOCKED_OUT and the pulse runs on whatever comes but a reset; a warm reset abandons the pulse without an attempt.
(What it says beyond the rules is the model's choice: notes/assumptions/2.md, notes/assumptions/12.md.) -/
def Obligations.BoilerResetStartsPulse : Prop :=
  (∀ s : State, s.takes →
    (s.boiler.burner = .lockedOut → s.boiler.pulse = none → s.boiler.attempts ≤ 2 → exec .boilerReset s =
      .next (State.bare { s.received .boilerReset with boiler := { s.boiler with pulse := some s.time.now } }
        .boilerReset .ok)) ∧
    (s.boiler.burner = .lockedOut → s.boiler.pulse.isSome → exec .boilerReset s =
      .next ((s.received .boilerReset).bare .boilerReset .ok)) ∧
    (s.boiler.burner = .lockedOut → s.boiler.pulse = none → 3 ≤ s.boiler.attempts → exec .boilerReset s =
      .next ((s.received .boilerReset).bare .boilerReset .state)) ∧
    (s.boiler.burner ≠ .lockedOut → exec .boilerReset s =
      .next ((s.received .boilerReset).bare .boilerReset .state))) ∧
  (∀ s : State, s.boiler.burner = .lockedOut → s.boiler.pulse.isSome →
    exec .lockoutAssert s = .next { s with boiler := { s.boiler with lockoutPin := true } } ∧
    exec .lockoutRelease s = .next { s with boiler := { s.boiler with lockoutPin := false } }) ∧
  (∀ s t : State, s.takes → exec .warmReset s = .next t →
    t.bresetPin = false ∧ t.boiler.attempts = s.boiler.attempts) ∧
  (∀ (s : State) (a : Nat), s.boiler.pulse = some a → ∃ t : State, exec .lockoutResetPulseEnd s = .next t ∧
    t.time.now = max s.time.now (a + 5000) ∧ t.boiler.pulse = none ∧ t.bresetPin = false) ∧
  (∀ (c : Instr) (s t : State), s.boiler.burner = .lockedOut → s.boiler.pulse.isSome → exec c s = .next t →
    c ≠ .lockoutResetPulseEnd → c ≠ .warmReset → c ≠ .powerOnReset →
    t.boiler.burner = .lockedOut ∧ t.boiler.pulse = s.boiler.pulse) ∧
  (∀ s : State, s.bresetPin = true ↔ s.boiler.pulse.isSome)

/-- LOCKOUT asserted while READY is set stops the burner at once in LOCKED_OUT with BOILER raised; its release with no
pulse running ends the lockout; at the end of a pulse LOCKOUT is read, and while it is asserted the attempt count
rises by 1 to at most 3. A lockout that ends sets the count to 0 and leaves SENSOR_FAULT when TF is FAULT, else OFF
with tBOFF restarted. (What it says beyond the rules is the model's choice: notes/assumptions/2.md.) -/
def Obligations.LockoutAndPulseEnd : Prop :=
  (∀ s : State, s.time.ready = true → s.boiler.burner ≠ .lockedOut → ∃ t, exec .lockoutAssert s = .next t ∧
    (State.SettlesTo { s.raise .boiler with boiler := { s.boiler with lockoutPin := true } } t) ∧
    t.boiler.burner = .lockedOut ∧ t.boiler.waitFlow = none ∧ t.boiler.recovery = none ∧
    t.boiler.lastStop = if s.boiler.burner = .firing then s.time.now else s.boiler.lastStop) ∧
  (∀ s : State, s.time.ready = true → s.boiler.burner = .lockedOut → s.boiler.pulse = none →
    ∃ t, exec .lockoutRelease s = .next t ∧ t.boiler.lockoutPin = false ∧ t.boiler.attempts = 0 ∧
      (s.boiler.tf.status = some .fault →
        t.boiler.burner = .sensorFault ∧ t.raised .boiler = true) ∧
      (s.boiler.tf.status ≠ some .fault → t.boiler.burner = .off ∧ t.boiler.lastStop = s.time.now)) ∧
  (∀ (s : State) (a : Nat), s.boiler.pulse = some a → s.boiler.burner = .lockedOut →
    (s.boiler.lockoutPin = true → exec .lockoutResetPulseEnd s = .next { s.raise .boiler with
      time := { s.time with now := max s.time.now (a + 5000) }
      boiler := { s.boiler with pulse := none, attempts := min 3 (s.boiler.attempts + 1) } }) ∧
    (s.boiler.lockoutPin = false → ∃ t, exec .lockoutResetPulseEnd s = .next t ∧
      t.time.now = max s.time.now (a + 5000) ∧ t.boiler.pulse = none ∧ t.boiler.attempts = 0 ∧
      (s.boiler.tf.status = some .fault →
        t.boiler.burner = .sensorFault ∧ t.raised .boiler = true) ∧
      (s.boiler.tf.status ≠ some .fault → t.boiler.burner = .off ∧ t.boiler.lastStop = t.time.now)))

/-- A sample while READY is set stores of each input the value with status OK within −400..1100, and otherwise FAULT
with the value kept; the next sample is 10 s later. A fault of TO after OK raises BOILER and starts the outdoor hold
where a value is held. One that falls due while READY is low is kept until READY sets. A TF sample out of range
stops any burner but a LOCKED_OUT or SENSOR_FAULT one in SENSOR_FAULT, raises BOILER and records the stop of a
firing one; a TC sample out of range moves an IDLE, CHARGING or GAP channel to FAULT and raises CYLINDER. In
SENSOR_FAULT and FAULT an OK sample starts the recovery timer where it does not run, and a FAULT sample stops it. An
OK TC sample at or below target − dhw_hyst starts a charge in IDLE, and one at or above the target ends it. (What it
says beyond the rules is the model's choice: notes/assumptions/2.md, notes/assumptions/23.md.) -/
def Obligations.SensorSamples : Prop :=
  (∀ (tflow tout tcyl : Int) (s : State) (due : Nat), s.time.sampleAt = some due →
     let now := max s.time.now due
     let take := fun (x : Sensor) (v : Int) =>
       if -400 ≤ v ∧ v ≤ 1100 then ({ value := some v, status := some .ok } : Sensor)
       else { value := x.value, status := some .fault }
     (s.time.ready = false → exec (.sensorSample tflow tout tcyl) s = .next { s with
       time := { s.time with now := now, sampleAt := some (due + 10000), sampleDue := true } }) ∧
     (s.time.ready = true → ∃ (t : State) (flags : BitVec 11), exec (.sensorSample tflow tout tcyl) s = .next t ∧
       (State.SettlesTo { s with
         time := { s.time with now := now, sampleAt := some (due + 10000) }
         boiler := { s.boiler with
           tf := take s.boiler.tf tflow, tout := take s.boiler.tout tout, tc := take s.boiler.tc tcyl
           outdoorHold := if (take s.boiler.tout tout).status = some .ok then none
             else if s.boiler.tout.status = some .fault then s.boiler.outdoorHold
             else if s.boiler.tout.value.isSome then some now else none }
         link := { s.link with flags := flags } } t) ∧
       (s.boiler.tout.status = some .ok → (tout < -400 ∨ 1100 < tout) → t.raised .boiler = true) ∧
       (∀ n : Notice, n ≠ .boiler → n ≠ .cylinder → t.raised n = s.raised n))) ∧
  (∀ (tflow tout tcyl : Int) (s t : State) (due : Nat), s.time.sampleAt = some due → s.time.ready = true →
     exec (.sensorSample tflow tout tcyl) s = .next t →
     let now := max s.time.now due
     let bad := fun v : Int => v < -400 ∨ 1100 < v
     (bad tflow → s.boiler.burner ≠ .lockedOut → s.boiler.burner ≠ .sensorFault →
       t.boiler.burner = .sensorFault ∧ t.raised .boiler = true ∧ t.boiler.recovery = none ∧
       t.boiler.lastStop = if s.boiler.burner = .firing then now else s.boiler.lastStop) ∧
     (s.boiler.burner = .sensorFault → t.boiler.burner = .sensorFault ∧
       (bad tflow → t.boiler.recovery = none) ∧
       (¬ bad tflow → t.boiler.recovery = some (s.boiler.recovery.getD now))) ∧
     (s.boiler.burner = .lockedOut → t.boiler.burner = .lockedOut) ∧
     (bad tcyl → s.cylinder.state = .idle ∨ s.cylinder.state = .charging ∨ s.cylinder.state = .gap →
       t.cylinder.state = .fault ∧ t.raised .cylinder = true ∧ t.cylinder.prio = none ∧ t.cylinder.gap = none ∧
       t.cylinder.recovery = none) ∧
     (¬ bad tcyl → s.cylinder.state = .idle →
       let cold := ∃ τ : Int, s.cylinder.target = .deg τ ∧ tcyl ≤ τ - s.cylinder.dhwHyst
       (cold → t.cylinder = { s.cylinder with
         state := .charging, prio := some now, gap := none, recovery := none } ∧ t.divertPin = true) ∧
       (¬ cold → t.cylinder = s.cylinder)) ∧
     (¬ bad tcyl → s.cylinder.state = .charging → 0 < s.cylinder.dhwHyst →
       let reached := s.cylinder.target = .off ∨ ∃ τ : Int, s.cylinder.target = .deg τ ∧ τ ≤ tcyl
       (reached → t.cylinder = { s.cylinder with state := .idle, prio := none, gap := none, recovery := none } ∧
         t.divertPin = false) ∧
       (¬ reached → t.cylinder = s.cylinder)) ∧
     (s.cylinder.state = .fault → t.cylinder.state = .fault ∧
       (bad tcyl → t.cylinder.recovery = none) ∧
       (¬ bad tcyl → t.cylinder.recovery = some (s.cylinder.recovery.getD now))) ∧
     (s.cylinder.state = .disabled → t.cylinder = s.cylinder ∧ (t.raised .cylinder = s.raised .cylinder)))

/-- A TF sample at or above flow_max + 50 stops a firing burner at once, whatever time has run since its start, with the
stop recorded and no notice raised for it; in READY and WAIT such a flow temperature fails the start conditions.
(What it says beyond the rules is the model's choice: notes/assumptions/2.md, notes/assumptions/23.md.) -/
def Obligations.HighFlowLimit : Prop :=
  ∀ (tflow tout tcyl : Int) (s t : State) (due : Nat), s.time.sampleAt = some due → s.time.ready = true →
    boilerConfigOk s.boiler.config →
    exec (.sensorSample tflow tout tcyl) s = .next t →
    tflow ≤ 1100 → s.boiler.config.flowMax + 50 ≤ tflow →
    (s.boiler.burner = .firing → t.boiler.burner = .off ∧ t.boiler.lastStop = max s.time.now due ∧
      (s.boiler.tout.status ≠ some .ok ∨ (-400 ≤ tout ∧ tout ≤ 1100) → -400 ≤ tcyl → tcyl ≤ 1100 →
        t.link.flags = s.link.flags)) ∧
    (s.boiler.burner = .ready ∨ s.boiler.burner = .wait .starts ∨ s.boiler.burner = .wait .flow →
      t.boiler.burner = .ready)

/-- When tBOFF has run since the last stop, the burner becomes READY and a start is evaluated with what the channel's
evaluation leaves: without the start conditions it stays READY; with them it waits for STARTS while the list holds
starts_limit entries or more, else for FLOW while the reported check fails, else it fires and the start is appended
to the list. The other timers of the burner. tBON: a stop is evaluated, and made without burner demand or at F +
off_diff. The WAIT FLOW delay: BOILER is raised once. The recovery of TF: OFF with tBOFF restarted. The outdoor
hold: the source passes to FALLBACK. tOVR: with no reason present the pump stops and forcing ends, its valves back
at their own targets. (What it says beyond the rules is the model's choice: notes/assumptions/2.md,
notes/assumptions/9.md, notes/assumptions/11.md.) -/
def Obligations.BurnerTimers : Prop :=
  (∀ s : State, s.time.ready = true → s.boiler.burner = .off → ∃ t, exec .tboffExpiry s = .next t ∧
     let now := max s.time.now (s.boiler.lastStop + s.boiler.config.tBoff.toNat * 60000)
     let u := State.evalCylinder { s with
       time := { s.time with now := now }
       boiler := { s.boiler with burner := .ready, minOn := none, waitFlow := none, recovery := none } }
     let wanted := u.burnerDemand = true ∧ s.boiler.tf.status = some .ok ∧
       ∃ v, s.boiler.tf.value = some v ∧ v ≤ u.flowTarget - s.boiler.config.onDiff
     let full := s.boiler.config.startsLimit ≤ (s.boiler.startList.length : Int)
     t.time = { s.time with now := now } ∧ t.cylinder = u.cylinder ∧ t.zones = s.zones ∧
     (¬ wanted → t.boiler.burner = .ready ∧ t.boiler.startList = s.boiler.startList) ∧
     (wanted → full → t.boiler.burner = .wait .starts ∧ t.boiler.startList = s.boiler.startList) ∧
     (wanted → ¬ full → u.reportedPass = false →
       t.boiler.burner = .wait .flow ∧ t.boiler.waitFlow = some now ∧ t.boiler.startList = s.boiler.startList) ∧
     (wanted → ¬ full → u.reportedPass = true →
       t.boiler.burner = .firing ∧ t.boiler.minOn = some now ∧ t.boiler.startList = s.boiler.startList ++ [0] ∧
       t.burnerPin = true ∧ t.boiler.pump = .running)) ∧
  ((∀ (s : State) (a : Nat), s.time.ready = true → s.boiler.burner = .firing → s.boiler.minOn = some a →
     ∃ t, exec .tbonExpiry s = .next t ∧
       let now := max s.time.now (a + s.boiler.config.tBon.toNat * 60000)
       let u := State.evalCylinder { s with
         time := { s.time with now := now }, boiler := { s.boiler with minOn := none } }
       let stops := u.burnerDemand = false ∨
         ∃ v, s.boiler.tf.value = some v ∧ u.flowTarget + s.boiler.config.offDiff ≤ v
       t.time = { s.time with now := now } ∧
       (stops → t.boiler.burner = .off ∧ t.boiler.lastStop = now) ∧
       (¬ stops → t.boiler.burner = .firing ∧ t.boiler.minOn = none)) ∧
   (∀ (s : State) (a : Nat), s.boiler.burner = .wait .flow → s.boiler.waitFlow = some a →
     ∃ t, exec .waitFlowExpiry s = .next t ∧ t.raised .boiler = true ∧
       (State.SettlesTo { s.raise .boiler with
         time := { s.time with now := max s.time.now (a + 300000) } } t) ∧
       (t.boiler.burner = .wait .flow → t.boiler.waitFlow = none)) ∧
   (∀ (s : State) (a : Nat), s.boiler.burner = .sensorFault → s.boiler.recovery = some a →
     ∃ t, exec .sensorRecoveryExpiry s = .next t ∧
       t.time.now = max s.time.now (a + 60000) ∧ t.boiler.burner = .off ∧ t.boiler.lastStop = t.time.now ∧
       (State.SettlesTo { s with time := { s.time with now := max s.time.now (a + 60000) } } t)) ∧
   (∀ (s : State) (a : Nat), s.boiler.outdoorHold = some a →
     ∃ t, exec .outdoorHoldExpiry s = .next t ∧
       (State.SettlesTo { s with
         time := { s.time with now := max s.time.now (a + 3600000) }
         boiler := { s.boiler with outdoorHold := none } } t) ∧
       (s.boiler.tout.status ≠ some .ok → t.outdoor = (s.boiler.config.outdoorFallback, .fallback))) ∧
   (∀ (s : State) (a : Nat), s.boiler.pump = .overrun a → s.pumpReason = false →
     (s.cylinder.state = .idle → s.chargeWanted = false) →
     ∃ t, exec .pumpOverrunExpiry s = .next t ∧
       t.time.now = max s.time.now (a + s.boiler.config.tOvr.toNat * 60000) ∧ t.boiler.pump = .stopped ∧
       t.pumpPin = false ∧ (s.time.ready = true → t.boiler.forcing = false) ∧
       (s.time.ready = true → s.boiler.forcing = true → ∀ (z : Fin 16) (i : Fin 48) (d : Device),
         s.boiler.config.bypassZone = some z → s.device i = some d → d.servesZone z = true →
         (t.device i).map Device.target = some (s.zone z).ownTarget) ∧
       (State.SettlesTo { s with
         time := { s.time with now := max s.time.now (a + s.boiler.config.tOvr.toNat * 60000) } } t)))

/-- The flow target: of a CHARGING channel the lesser of target + charge_margin and flow_max, not below flow_min; else
with a lead setpoint the curve with its boost and shift, clamped, and bounded by floor_max while a leading zone is
FLOOR; else flow_min. It lies within flow_min..flow_max, and M follows F − T_flow while FIRING and is 0 otherwise.
The room load from the demands of the CALLING zones over the weights of the enabled ones; the leading zones, the
outdoor temperature in use, both frost conditions, burner demand and the reasons of the pump. The flow check on
reported and on commanded positions, of the bypass zone its own target: the sum of weights times open shares over the
counted zones against minflow_pct. (What it says beyond the rules is the model's choice: notes/assumptions/11.md,
notes/assumptions/32.md.) -/
def Obligations.FlowTargetAndModulation : Prop :=
  ∀ s : State, boilerConfigOk s.boiler.config →
    let b := s.boiler.config
    (b.flowMin ≤ s.flowTarget ∧ s.flowTarget ≤ b.flowMax) ∧
    (∀ τ : Int, s.cylinder.state = .charging → s.cylinder.target = .deg τ →
      s.flowTarget = max b.flowMin (min (τ + s.cylinder.chargeMargin) b.flowMax)) ∧
    (s.cylinder.state ≠ .charging → (∀ z : Fin 16, (s.zone z).leads = false) → s.flowTarget = b.flowMin) ∧
    (∀ z : Fin 16, s.cylinder.state ≠ .charging → (s.zone z).leads = true →
      (∀ y : Fin 16, (s.zone y).leads = true → (s.zone y).setpoint ≤ (s.zone z).setpoint) →
      let lead := (s.zone z).setpoint
      let out := clamp s.outdoor.1 (-300) 300
      let f := clamp (lead + nearestAway (b.curveSlope * (lead - out)) 10 + s.roomLoad * b.boostMax / 1000 + b.shift)
        b.flowMin b.flowMax
      s.flowTarget = if (∃ y : Fin 16, (s.zone y).leads = true ∧ (s.zone y).config.control.emitter = .floor)
        then min f b.floorMax else f) ∧
    (s.boiler.burner ≠ .firing → s.modulation = 0) ∧
    (∀ v : Int, s.boiler.burner = .firing → s.boiler.tf.value = some v →
      s.modulation = if v < s.flowTarget then
        clamp (b.modMin + (s.flowTarget - v) * b.kmod / 10) b.modMin 100 else b.modMin) ∧
    (let calls := fun z : Fin 16 => (s.zone z).state = .calling
     let frost := fun z : Fin 16 => (s.zone z).state ≠ .disabled ∧
       ∃ v, (s.zone z).temp = some v ∧ v < (s.zone z).config.frostFloor
     let sum := fun f : Fin 16 → Int => ((List.finRange 16).map f).sum
     let n := sum (fun z => if (s.zone z).state = .calling then (s.zone z).demand * (s.zone z).config.control.weight else 0)
     let d := sum (fun z => if (s.zone z).state ≠ .disabled then (s.zone z).config.control.weight else 0)
     ((∃ z : Fin 16, (s.zone z).state ≠ .disabled) → s.roomLoad = n / d) ∧
     ((∀ z : Fin 16, (s.zone z).state = .disabled) → s.roomLoad = 0) ∧
     (s.ZoneInv → 0 ≤ s.roomLoad ∧ s.roomLoad ≤ 1000) ∧
     (∀ z : Fin 16, (s.zone z).leads = true ↔ calls z ∨ frost z) ∧
     (∀ v : Int, s.leadSetpoint = some v ↔ (∃ z : Fin 16, (s.zone z).leads = true ∧ (s.zone z).setpoint = v) ∧
       ∀ z : Fin 16, (s.zone z).leads = true → (s.zone z).setpoint ≤ v) ∧
     (s.boiler.tout.status = some .ok → ∀ v, s.boiler.tout.value = some v → s.outdoor = (v, .sensor)) ∧
     (s.boiler.tout.status = some .fault → s.boiler.outdoorHold.isSome → ∀ v, s.boiler.tout.value = some v →
       s.outdoor = (v, .held)) ∧
     (s.outdoorFrost = true ↔ s.outdoor.1 < b.frostOut) ∧ (s.anyZoneFrost = true ↔ ∃ z, frost z) ∧
     (s.burnerDemand = true ↔ (∃ z, calls z) ∨ s.cylinder.state = .charging ∨ ∃ z, frost z) ∧
     (s.pumpReason = true ↔ s.boiler.burner = .firing ∨ (∃ z, calls z) ∨ s.cylinder.state = .charging ∨
       s.outdoor.1 < b.frostOut ∨ ∃ z, frost z) ∧
     let valves := fun (z : Fin 16) (p : Device → Bool) => (((List.finRange 48).filter (fun i => (s.device i).any (fun d =>
       d.kind == .valveHead && d.zone == some z && d.state != .faulted && d.state != .retiring && p d))).length : Int)
     let counted := fun z : Fin 16 =>
       decide ((s.zone z).state ≠ .disabled ∨ b.bypassZone = some z) && decide (0 < valves z (fun _ => true))
     let w := sum (fun z => if counted z then (s.zone z).config.control.weight else 0)
     let passes := fun isOpen : Fin 16 → Device → Bool =>
       b.bypassZone = none ∨ b.minflowPct = 0 ∨ s.cylinder.state = .charging ∨
         b.minflowPct * 10 * w ≤ sum (fun z => if counted z then
           (s.zone z).config.control.weight * (1000 * valves z (isOpen z) / valves z (fun _ => true)) else 0)
     (s.reportedPass = true ↔ passes (fun _ d => d.reported.any (fun v => decide (20 ≤ v)))) ∧
     (s.commandedPass = true ↔ passes (fun z d => if b.bypassZone = some z then decide (20 ≤ (s.zone z).ownTarget)
       else d.commanded.any (fun v => decide (20 ≤ v)))))

/-- The timers of the channel, and a target that changes. tPRIO: GAP when a room zone is CALLING, else tPRIO restarts.
tGAP: CHARGING again below the target itself, else IDLE and its evaluation. The recovery of TC, while
READY is set: IDLE and its evaluation. DIVERT follows the state. SET MODE VACANT, which sets the target OFF, ends a charge; the LINK wake out
of VACANT starts one where the default target is the target again and the cylinder stands at or below it less
dhw_hyst. (What it says beyond the rules is the model's choice: notes/assumptions/2.md, notes/assumptions/12.md.) -/
def Obligations.CylinderTimers : Prop :=
  (∀ s : State, s.divertPin = true ↔ s.cylinder.state = .charging) ∧
  (∀ (s : State) (a : Nat), s.cylinder.state = .charging → s.cylinder.prio = some a →
    let now := max s.time.now (a + s.cylinder.tPrio.toNat * 60000)
    let u := { s with time := { s.time with now := now } }
    (s.anyCalling = true → ∃ t, exec .tprioExpiry s = .next t ∧ u.SettlesTo t ∧ t.cylinder = { s.cylinder with
      state := .gap, prio := none, gap := some now, recovery := none }) ∧
    (s.anyCalling = false → s.chargeDone = false → ∃ t, exec .tprioExpiry s = .next t ∧ u.SettlesTo t ∧
      t.cylinder = { s.cylinder with prio := some now })) ∧
  (∀ (s : State) (a : Nat), s.CylinderInv → s.cylinder.state = .gap → s.cylinder.gap = some a →
    let now := max s.time.now (a + s.cylinder.tGap.toNat * 60000)
    let u := { s with time := { s.time with now := now } }
    let below := s.boiler.tc.status = some .ok ∧
      ∃ (v τ : Int), s.boiler.tc.value = some v ∧ s.cylinder.target = .deg τ ∧ v < τ
    ∃ t, exec .tgapExpiry s = .next t ∧ u.SettlesTo t ∧
      (below → t.cylinder = { s.cylinder with state := .charging, prio := some now, gap := none, recovery := none }) ∧
      (¬ below → t.cylinder = { s.cylinder with state := .idle, prio := none, gap := none, recovery := none })) ∧
  (∀ (s : State) (a : Nat), s.time.ready = true → s.CylinderInv → s.cylinder.state = .fault →
    s.cylinder.recovery = some a →
    let now := max s.time.now (a + 60000)
    let u := { s with time := { s.time with now := now } }
    let cold := s.boiler.tc.status = some .ok ∧
      ∃ (v τ : Int), s.boiler.tc.value = some v ∧ s.cylinder.target = .deg τ ∧ v ≤ τ - s.cylinder.dhwHyst
    ∃ t, exec .cylinderRecoveryExpiry s = .next t ∧ u.SettlesTo t ∧
      (cold → t.cylinder = { s.cylinder with state := .charging, prio := some now, gap := none, recovery := none }) ∧
      (¬ cold → t.cylinder = { s.cylinder with state := .idle, prio := none, gap := none, recovery := none })) ∧
  (∀ (countdown : Word) (s : State), s.takes → s.time.ready = true → s.house.mode ≠ .vacant →
    s.cylinder.state = .charging → s.cylinder.target ≠ .off → ∃ (t : State) (p : List Byte),
    exec (.setMode 2 countdown) s = .next (t.holding (.setMode 2 countdown) .ok p) ∧ t.divertPin = false ∧
    t.cylinder = { s.cylinder with
      state := .idle, target := .off, source := .vacant, prio := none, gap := none, recovery := none }) ∧
  (∀ (s : State) (v τ : Int), s.takes → s.time.ready = true → s.house.mode = .vacant → s.cylinder.state = .idle →
    s.cylinder.target = .off → s.stackOf zw = [] → s.pointsOf zw = [] → s.cylinder.defaultTarget = .deg τ →
    s.boiler.tc = { value := some v, status := some .ok } → v ≤ τ - s.cylinder.dhwHyst → ∃ (t : State) (p : List Byte),
    exec (.setMode 0 0) s = .next (t.holding (.setMode 0 0) .ok p) ∧ t.divertPin = true ∧
    t.cylinder = { s.cylinder with
      state := .charging, target := .deg τ, source := .default, prio := some s.time.now, gap := none
      recovery := none })

/-! ### Clock and minute tick -/

/-- An accepted SET CLOCK stores the time of week, puts the next minute tick 60 s away for every block, leaves the hour
counter, retires the NEXT_POINT holds of every zone whose point in force changed, and resolves all zones. A value
above 10079 is refused with BAD_VALUE. (What it says beyond the rules is the model's choice: notes/assumptions/4.md,
notes/assumptions/12.md, notes/assumptions/14.md, notes/assumptions/15.md, notes/assumptions/16.md.) -/
def Obligations.SetClockStores : Prop :=
  (∀ (time : Word) (s : State), s.takes → 10079 < time.toNat → exec (.setClock time) s =
    .next ((s.received (.setClock time)).bare (.setClock time) .badValue)) ∧
  (∀ (time : Word) (s : State), s.takes → time.toNat ≤ 10079 → ∃ (t : State) (stk : Vector (List Hold) 17),
    exec (.setClock time) s = .next (t.holding (.setClock time) .ok (keyedPayload 0 t.clockView 1)) ∧
    (∀ z : Fin 17, stk[z] =
      if inForce (s.pointsOf z) s.clock.timeOfWeek = inForce (s.pointsOf z) (some time.toNat) then s.stackOf z
      else (s.stackOf z).filter (fun h => h.ending != .nextPoint)) ∧
    (State.resolveAll { s.received (.setClock time) with
      clock := { s.clock with
        timeOfWeek := some time.toNat, minuteAt := some (s.time.now + 60000)
        taken := { holds := false, house := false, starts := false, joins := false } }
      holds := { s.holds with stack := stk } }).SettlesTo t)

/-- A minute tick while READY is set advances a set time of week, 10079 being followed by 0, and the hour counter, which
returns to 0 at 60 and leaves the hour count advance due; at a point crossing the zone's NEXT_POINT holds end; every
countdown loses a minute and those without one left end; the return countdown likewise; every join entry ages, and
those that reach 10 are removed; every zone is resolved, so that its setpoint and source are those its inputs give
after the tick, and a room zone whose setpoint changed is queued; the next tick is 60 s later. A block that has
taken this tick already is not reached again. One that falls due while READY is low waits for READY. The minute tick
ages the start list: with the burner in a state that no evaluation leaves, every entry is a minute older, and those
that reach 60 are gone. (The advance left due to a row of its own, and a block's own tick before it, are the model's
choice, notes/assumptions/5.md, notes/assumptions/4.md; so is the rest that it says beyond the rules,
notes/assumptions/2.md, notes/assumptions/14.md.) -/
def Obligations.MinuteTick : Prop :=
  (∀ (s : State) (due : Nat), s.clock.minuteAt = some due →
     (s.time.ready = false → exec .minuteTick s = .next { s with
       time := { s.time with now := max s.time.now due, minuteDue := true }
       clock := { s.clock with minuteAt := some (due + 60000) } }) ∧
     (s.time.ready = true → ∃ t, exec .minuteTick s = .next t ∧
       t.time = { s.time with now := max s.time.now due } ∧
       (let time := s.clock.timeOfWeek.map (fun w => if w = 10079 then 0 else w + 1)
        t.clock = {
          timeOfWeek := time
          minuteAt := some (due + 60000)
          hourCounter := if 59 ≤ s.clock.hourCounter then 0 else s.clock.hourCounter + 1
          hourDue := s.clock.hourDue || decide (59 ≤ s.clock.hourCounter)
          taken := { holds := false, house := false, starts := false, joins := false } } ∧
        ∀ z : Fin 17, t.stackOf z = ((s.stackOf z).filter (fun h =>
          !(h.ending == .nextPoint && (s.pointsOf z).any (fun p => time == some p.time)))).filterMap (fun h =>
            match h.ending with
            | .countdown m => if s.clock.taken.holds then some h
                else if m ≤ 1 then none else some { h with ending := .countdown (m - 1) }
            | _ => some h)) ∧
       (∀ z : Fin 16, (t.zone z).setpoint = t.roomSetpoint z ∧ (t.zone z).source = (t.roomCandidate z).2) ∧
       t.cylinder.target = t.cylinderResolved.1 ∧ t.cylinder.source = t.cylinderResolved.2 ∧
       s.bus.announce <+: t.bus.announce ∧
       (∀ z : Fin 16, (t.zone z).setpoint ≠ (s.zone z).setpoint → z ∈ t.bus.announce) ∧
       (s.clock.taken.house = true → t.house = s.house) ∧
       (∀ m, s.house.countdown = some m → 1 < m → s.clock.taken.house = false →
         t.house = { s.house with countdown := some (m - 1) }) ∧
       (s.house.countdown = none → t.house = s.house) ∧
       (∀ m, s.house.countdown = some m → m ≤ 1 → s.clock.taken.house = false → s.house.mode ≠ .occupied →
         t.house = (if s.house.wakeReturn then
           { s.house with mode := .occupied, countdown := none, lastCause := some .return }
           else { s.house with countdown := none }) ∧
         (s.house.wakeReturn = true → t.raised .modeChanged = true)) ∧
       t.bus.joins = (if s.clock.taken.joins then s.bus.joins else
         s.bus.joins.filterMap (fun e => if e.age + 1 < 10 then some { e with age := e.age + 1 } else none)) ∧
       t.bus.line = s.bus.line ∧ t.bus.cycle = s.bus.cycle ∧
       (∀ z : Fin 16, (t.zone z).config = (s.zone z).config ∧ (t.zone z).state = (s.zone z).state ∧
         (t.zone z).demand = (s.zone z).demand ∧ (t.zone z).integral = (s.zone z).integral) ∧
       t.boiler.config = s.boiler.config ∧ t.points = s.points ∧ t.pending = s.pending ∧
       t.link.held = s.link.held ∧ t.link.enables = s.link.enables ∧
       (∀ i : Fin 48, (t.device i).map Device.kept = (s.device i).map Device.kept) ∧
       t.registry.order = s.registry.order ∧ t.motor.outstanding = s.motor.outstanding)) ∧
  (∀ (s t : State) (due : Nat), s.clock.minuteAt = some due → s.time.ready = true →
     s.boiler.burner = .off ∨ s.boiler.burner = .lockedOut ∨ s.boiler.burner = .sensorFault →
     exec .minuteTick s = .next t →
     t.boiler.startList = (if s.clock.taken.starts then s.boiler.startList else
       (s.boiler.startList.map (· + 1)).filter (fun a => decide (a < 60))) ∧
     t.boiler.burner = s.boiler.burner)

/-- The hour count advance that a wrap of the hour counter left due: every valve's exercise age rises by 1 to at most
65535; a valve neither FAULTED nor RETIRING and without a grant gets an EXERCISE entry of 100 at the NORMAL tail
where it has no entry and is due or forced, and its POSITION entry becomes EXERCISE in its place where it is forced;
its exercise phase becomes OPENING. Without an advance due nothing happens. (What it says beyond the rules is the
model's choice: notes/assumptions/5.md, notes/assumptions/14.md.) -/
def Obligations.HourCountAdvances : Prop :=
  (∀ s : State, s.time.ready = false ∨ s.clock.hourDue = false → exec .hourCountAdvance s = .next s) ∧
  (∀ s : State, s.time.ready = true → s.clock.hourDue = true →
    let age := fun d : Device => min 65535 (d.exerciseAge + 1)
    let open' := fun d : Device => d.kind == .valveHead && d.state != .faulted && d.state != .retiring && d.grant.isNone
    let due := fun d : Device => decide (168 ≤ age d) &&
      s.clock.timeOfWeek.any (fun w => decide (((w % 1440 / 60 : Nat) : Int) = s.motor.exerciseHour)) &&
      !(d.zone.any (fun z => (s.zone z).state == .calling))
    let forced := fun d : Device => decide (240 ≤ age d)
    let made := fun (i : Fin 48) => (s.device i).any (fun d =>
      open' d && (s.entryOf i).isNone && (due d || forced d))
    let turned := fun (i : Fin 48) => (s.device i).any (fun d =>
      open' d && (s.entryOf i).any (fun e => e.kind == .position) && forced d)
    ∃ t, exec .hourCountAdvance s = .next t ∧
      t = { s with
        clock := { s.clock with hourDue := false }
        registry := { s.registry with devices := t.registry.devices }
        motor := { s.motor with
          queue :=
            s.motor.queue.map (fun e => if turned e.slot then { e with kind := .exercise, target := 100 } else e) ++
            (slots.filter made).map (fun i => { slot := i, kind := .exercise, target := 100, cls := .normal }) } } ∧
      ∀ i : Fin 48, t.device i = (s.device i).map (fun d =>
        if d.kind = .valveHead then { d with
          exerciseAge := age d
          exercisePhase := if made i || turned i then .opening else d.exercisePhase } else d))

/-! ### Control ticks -/

/-- A control tick while READY is set starts one computation for each room zone, and the next is 30 s later; one that
falls due while READY is low waits for READY. A zone's computation that no tick has started changes nothing. The
computation of an enabled zone: temperature and source from the ACTIVE devices bound, room devices before valve
heads; demand, or blind demand without a temperature; the state by request hysteresis on it; a pending configuration
applied, with CONFIG_APPLIED, where the zone leaves CALLING. A change of state queues the zone. The computation of a
DISABLED zone keeps its record. Nothing else changes but valve targets and what the evaluations settle. (What it
says beyond the rules is the model's choice: notes/assumptions/2.md, notes/assumptions/7.md,
notes/assumptions/11.md, notes/assumptions/14.md.) -/
def Obligations.ControlTicks : Prop :=
  ((∀ (s : State) (due : Nat), s.time.controlAt = some due →
     (s.time.ready = true → exec .controlTick s = .next { s with time := { s.time with
       now := max s.time.now due, controlAt := some (due + 30000), ticking := List.finRange 16 } }) ∧
     (s.time.ready = false → exec .controlTick s = .next { s with time := { s.time with
       now := max s.time.now due, controlAt := some (due + 30000), controlDue := true } })) ∧
   (∀ (z : Fin 16) (s : State), s.time.ready = false ∨ z ∉ s.time.ticking →
     exec (.zoneControlTick z) s = .next s)) ∧
  (∀ (z : Fin 16) (s : State), s.time.ready = true → z ∈ s.time.ticking →
     let r := s.zone z
     let time := { s.time with ticking := s.time.ticking.filter (fun y => y != z) }
     let bound := fun (d : Device) => d.zone = some z ∧ d.state = .active ∧ d.lastTemp.isSome
     let room := slots.filterMap (fun i => (s.device i).bind (fun d =>
       if bound d ∧ d.kind ≠ .valveHead then d.lastTemp else none))
     let heads := slots.filterMap (fun i => (s.device i).bind (fun d =>
       if bound d ∧ d.kind = .valveHead then d.lastTemp else none))
     let mean := fun (l : List Int) => (2 * l.sum + l.length) / (2 * l.length)
     let temp : Option Int × TempSource :=
       if room ≠ [] then (some (mean room), .room)
       else if heads ≠ [] then (some (mean heads - r.config.headOffset), .heads) else (none, .none)
     let q := match temp.1 with
       | some v => r.computed v
       | none => { r with demand := if r.config.frostFloor < r.setpoint then r.config.blindDemand else 0 }
     let state : ZoneState := match r.state with
       | .satisfied => if r.config.requestOn ≤ q.demand then .calling else .satisfied
       | .calling => if q.demand < r.config.requestOff then .satisfied else .calling
       | .disabled => .disabled
     let p := if 0 < -(-q.demand / 10) ∧ -(-q.demand / 10) < r.config.minLift then r.config.minLift
       else -(-q.demand / 10)
     let applies := r.state == .calling && state == .satisfied && r.pending.isSome
     (r.state ≠ .disabled → ∃ t, exec (.zoneControlTick z) s = .next t ∧
       (let v := { s with time }
        let w := v.setZone z { q with
          temp := temp.1, tempSource := temp.2, state := state, ownTarget := p
          config := { r.config with control := if applies then r.pending.getD r.config.control else r.config.control }
          pending := if applies then none else r.pending }
        let x := if applies then w.raise .configApplied else w
        (if state = r.state then x else x.announce z).SettlesTo t)) ∧
     (r.state = .disabled → ∃ t, exec (.zoneControlTick z) s = .next t ∧
       (State.setZone { s with time } z { r with ownTarget := 0 }).SettlesTo t))

/-- The demand of a zone with a temperature: the error clamped to ±100, the exact proportional term, the integral by
conditional integration, and the demand, slew-limited for FLOOR. -/
def Obligations.DemandFromTemperature : Prop :=
  ∀ (r : Zone) (temp : Int), controlOk r.config.control → perMille r.integral → perMille r.previous →
    let c := r.config.control
    let q := r.computed temp
    let e := max (-100) (min 100 (r.setpoint - temp))
    let p := c.kp * e
    let u0 := p + r.integral
    (-10000 ≤ p ∧ p ≤ 10000) ∧
    (1000 ≤ u0 ∧ 0 < e → q.integral = r.integral) ∧
    (u0 ≤ 0 ∧ e < 0 → q.integral = r.integral) ∧
    (¬(1000 ≤ u0 ∧ 0 < e) → ¬(u0 ≤ 0 ∧ e < 0) → q.integral = max 0 (min 1000 (r.integral + c.ki * e))) ∧
    (e = 0 → q.integral = r.integral) ∧ (c.ki = 0 → q.integral = r.integral) ∧
    (0 < e → 0 < p ∧ 0 < u0) ∧ (e < 0 → u0 < 1000) ∧
    (c.emitter = .radiator → q.demand = max 0 (min 1000 (p + q.integral))) ∧
    (c.emitter = .floor → q.demand =
      max (r.previous - 50) (min (r.previous + 50) (max 0 (min 1000 (p + q.integral))))) ∧
    q.previous = q.demand ∧ perMille q.demand ∧ perMille q.integral ∧
    q = { r with integral := q.integral, demand := q.demand, previous := q.demand }

/-- Stage 4 and the tick of a DISABLED zone: every valve head bound to the zone that is neither FAULTED nor RETIRING
takes the own target as its target field, or 100 while forcing governs the zone; every other record and its queue
entry stay as they are. The target is handed NORMAL: without entry and grant where it lies outside the deadband;
with a POSITION entry or a POSITION grant where it differs from the target held; never with an EXERCISE one. Under
forcing 100 is handed URGENT where the target field is not 100, or the commanded position is not and there is
neither entry nor grant. ZONE_CONTROL_TICK does this with the own target it stores, which forcing of another zone
leaves. Forcing begins when the commanded check fails with the pump not STOPPED: every valve of the bypass zone that
is neither FAULTED nor RETIRING takes 100, handed URGENT. It ends when the pump is STOPPED or the check passes: each
takes its own target, handed NORMAL. So does every event that begins it, or ends it other than by a reset. (What it
says beyond the rules is the model's choice: notes/assumptions/7.md, notes/assumptions/11.md.) -/
def Obligations.ZoneValvesTakeTargets : Prop :=
  (∀ (z : Fin 16) (s : State) (i : Fin 48), (s.motor.queue.map Entry.slot).Nodup →
    let p := (s.zone z).ownTarget
    let served := fun d : Device =>
      d.kind == .valveHead && d.zone == some z && d.state != .faulted && d.state != .retiring
    let forced := s.boiler.forcing = true ∧ s.boiler.config.bypassZone = some z
    let t := s.targetValves z
    (t.device i).map Device.target = (s.device i).map (fun d => if served d then (if forced then 100 else p) else d.target) ∧
    (t.device i).map Device.kept = (s.device i).map Device.kept ∧
    (∀ d : Device, s.device i = some d → served d = false → t.entryOf i = s.entryOf i ∧ t.device i = some d) ∧
    (∀ d : Device, s.device i = some d → served d = true → d.grant = none → s.entryOf i = none → ¬ forced →
      t.entryOf i =
        if (d.commanded = none ∨ ∃ c, d.commanded = some c ∧
          ((s.zone z).config.hysteresis ≤ |p - c| ∨ ((p = 0 ∨ p = 100) ∧ p ≠ c))) ∧ d.commanded ≠ some p
        then some { slot := i, kind := .position, target := p, cls := .normal } else none) ∧
    (∀ (d : Device) (e : Entry), s.device i = some d → served d = true → d.grant = none → s.entryOf i = some e →
      ¬ forced → t.entryOf i =
        if e.kind = .exercise ∨ p = e.target then some e
        else if d.commanded = some p then none else some { e with target := p, cls := .normal }) ∧
    (∀ (d : Device) (g : Grant), s.device i = some d → served d = true → d.grant = some g → ¬ forced →
      (t.device i).map Device.next = some (
        if g.kind = .exercise ∨ p = d.next.elim g.target NextTarget.target then d.next
        else if p = g.target then none else some { target := p, cls := .normal })) ∧
    (∀ d : Device, s.device i = some d → served d = true → forced →
      let hands := d.target ≠ 100 ∨ (d.commanded ≠ some 100 ∧ s.entryOf i = none ∧ d.grant = none)
      let u := if hands then s.hand i 100 .urgent else s
      t.entryOf i = u.entryOf i ∧ (t.device i).map Device.next = (u.device i).map Device.next)) ∧
  (∀ (z : Fin 16) (s t : State) (i : Fin 48) (d : Device), (s.motor.queue.map Entry.slot).Nodup → s.time.ready = true →
    z ∈ s.time.ticking → s.boiler.config.bypassZone ≠ some z → exec (.zoneControlTick z) s = .next t →
    s.device i = some d → d.zone = some z →
    let u := (s.setZone z (t.zone z)).targetValves z
    t.device i = u.device i ∧ t.entryOf i = u.entryOf i) ∧
  (∀ (s : State) (z : Fin 16) (i : Fin 48) (d : Device), (s.motor.queue.map Entry.slot).Nodup →
    s.boiler.config.bypassZone = some z → s.device i = some d → d.kind = .valveHead → d.zone = some z →
    d.state ≠ .faulted → d.state ≠ .retiring →
    let t := s.evalForcing
    let given := fun (p : Int) (c : Machine.Class) =>
      (t.device i).map Device.target = some p ∧ t.entryOf i = (s.hand i p c).entryOf i ∧
        (t.device i).map Device.next = ((s.hand i p c).device i).map Device.next
    (s.boiler.forcing = false → s.boiler.pump ≠ .stopped → s.commandedPass = false →
      t.boiler.forcing = true ∧ given 100 .urgent) ∧
    (s.boiler.forcing = true → s.boiler.pump = .stopped ∨ s.commandedPass = true →
      t.boiler.forcing = false ∧ given (s.zone z).ownTarget .normal)) ∧
  (∀ (c : Instr) (s t : State) (z : Fin 16) (i : Fin 48) (d : Device), s.MotorInv → exec c s = .next t →
    t.device i = some d → d.kind = .valveHead → d.zone = some z → d.state ≠ .faulted → d.state ≠ .retiring →
    (s.boiler.forcing = false → t.boiler.forcing = true → t.boiler.config.bypassZone = some z →
      d.target = 100 ∧ (d.grant = none → d.commanded ≠ some 100 →
        ∃ e ∈ t.motor.queue, e.slot = i ∧ e.cls = .urgent ∧ (e.kind = .position → e.target = 100))) ∧
    (s.boiler.forcing = true → t.boiler.forcing = false → s.boiler.config.bypassZone = some z → c ≠ .warmReset →
      c ≠ .powerOnReset → d.target = (t.zone z).ownTarget))

/-- The hand of a POSITION target, row by row of the table: dropped at a FAULTED or RETIRING valve; a next target at a
grant in flight; removed, replaced in place or moved to the tail of the other class at a POSITION entry; an EXERCISE
entry keeps kind and target and can only become URGENT; and with nothing, an entry at the tail of its class where
the target differs from the commanded position. An unknown commanded position equals no target. -/
def Obligations.HandOfATarget : Prop :=
  ∀ (s : State) (i : Fin 48) (d : Device) (t : Int) (c : Machine.Class), s.device i = some d → d.kind = .valveHead →
    (s.motor.queue.map Entry.slot).Nodup →
    s.motor.queue.Pairwise (fun e f => f.cls = .urgent → e.cls = .urgent) →
    let q := s.motor.queue
    let rest := q.filter (fun e => e.slot != i)
    let atTail := fun (e : Entry) => rest.filter (fun f => f.cls == .urgent || f.cls == e.cls) ++
      e :: rest.filter (fun f => f.cls != .urgent && f.cls != e.cls)
    (d.state = .faulted ∨ d.state = .retiring → s.hand i t c = s) ∧
    (d.state ≠ .faulted → d.state ≠ .retiring →
      (∀ g, d.grant = some g → s.hand i t c = s.setDevice i (some { d with
        next := if g.kind = .position ∧ t = g.target then none else some { target := t, cls := c } })) ∧
      (d.grant = none → s.hand i t c = { s with motor := { s.motor with queue := (s.hand i t c).motor.queue } } ∧
        let q' := (s.hand i t c).motor.queue
        (∀ e ∈ q, e.slot = i → e.kind = .position → d.commanded = some t → q' = rest) ∧
        (∀ e ∈ q, e.slot = i → e.kind = .position → d.commanded ≠ some t → e.cls = c →
          q' = q.map (fun f => if f.slot = i then { f with target := t } else f)) ∧
        (∀ e ∈ q, e.slot = i → e.kind = .position → d.commanded ≠ some t → e.cls ≠ c →
          q' = atTail { e with target := t, cls := c }) ∧
        (∀ e ∈ q, e.slot = i → e.kind = .exercise →
          q' = if c = .urgent ∧ e.cls = .normal then atTail { e with cls := .urgent } else q) ∧
        ((∀ e ∈ q, e.slot ≠ i) → q' = if d.commanded = some t then q
          else atTail { slot := i, kind := .position, target := t, cls := c })))

/-! ### Field bus -/

/-- RUN in STOPPED moves the line to STARTING, its count at 0, and begins a new cycle at once, which adds 1 to the count
and to the cycle counter and sends its BEACON; in STARTING and RUNNING it changes nothing and answers OK; in
LINE_FAULT it is refused with STATE, and the recovery timer's expiry moves the line to STARTING in the same way.
(What it says beyond the rules is the model's choice: notes/assumptions/2.md, notes/assumptions/12.md,
notes/assumptions/13.md.) -/
def Obligations.RunStartsLine : Prop :=
  let started := fun (s : State) (now : Nat) => { s.bus with
    line := .starting, starting := 1, recovery := none, cycle := (s.bus.cycle + 1) % 256, cycleStart := now
    part := .beacon, window := 0, answer := none, invited := false
    sent := some (Telegram.beacon ((s.bus.cycle + 1) % 256)) }
  (∀ s : State, s.takes → s.bus.line = .stopped → ∃ t : State, exec .run s = .next (t.bare .run .ok) ∧
    t = { s.received .run with
      bus := started s s.time.now, registry := { s.registry with devices := t.registry.devices } } ∧
    ∀ i : Fin 48, t.device i = (s.device i).map (fun d => { d with fresh := false })) ∧
  (∀ s : State, s.takes → s.bus.line = .starting ∨ s.bus.line = .running →
    exec .run s = .next ((s.received .run).bare .run .ok)) ∧
  (∀ s : State, s.takes → s.bus.line = .lineFault → exec .run s = .next ((s.received .run).bare .run .state)) ∧
  (∀ (s : State) (a : Nat), s.bus.line = .lineFault → s.bus.recovery = some a →
    ∃ t : State, exec .lineFaultRecoveryExpiry s = .next t ∧
      t = { s with
        time := { s.time with now := max s.time.now (a + 10000) }
        bus := started s (max s.time.now (a + 10000))
        registry := { s.registry with devices := t.registry.devices } } ∧
      ∀ i : Fin 48, t.device i = (s.device i).map (fun d => { d with fresh := false }))

/-- STOP in any state but STOPPED switches the drive off, abandons the cycle and stops the recovery timer; an
overcurrent while the drive is on does so in LINE_FAULT with its notice raised and tLFR started. From RUNNING either
revokes every grant: each token returns, the valve of a RUNNING grant has its commanded position unknown, and the
grant flag is cleared. (What it says beyond the rules is the model's choice: notes/assumptions/12.md,
notes/assumptions/18.md.) -/
def Obligations.StopAndOvercurrent : Prop :=
  let revoked := fun (s : State) (d : Device) => match s.bus.line, d.grant with
    | .running, some g => { d with
        grant := none, next := none, exercisePhase := .none, commanded := if g.running then none else d.commanded }
    | _, _ => d
  let off := fun (s t : State) (bus : Bus) => ∃ devices : Vector (Option Device) 48,
    (∀ i : Fin 48, devices[i] = (s.device i).map (revoked s)) ∧
    (State.SettlesTo { s with
      bus := bus, registry := { s.registry with devices := devices }
      motor := if s.bus.line = .running ∧ s.motor.outstanding ≠ 0 then
        { s.motor with outstanding := 0, grantFlag := false } else s.motor } t)
  (∀ s : State, s.takes → s.bus.line = .stopped → exec .stop s = .next ((s.received .stop).bare .stop .ok)) ∧
  (∀ s : State, s.takes → s.MotorInv → s.bus.line ≠ .stopped → ∃ t : State, exec .stop s = .next (t.bare .stop .ok) ∧
    t.driveOn = false ∧ off (s.received .stop) t { s.bus with
      line := .stopped, recovery := none, starting := 0, answer := none, invited := false, sent := none }) ∧
  (∀ s : State, s.driveOn = false → exec .overcurrent s = .next s) ∧
  (∀ s : State, s.MotorInv → s.driveOn = true → ∃ t : State, exec .overcurrent s = .next t ∧ t.driveOn = false ∧
    off (s.raise .lineFault) t { s.bus with
      line := .lineFault, recovery := some s.time.now, starting := 0, answer := none, invited := false, sent := none })

/-- A cycle begins while the drive is on, tCYC after the one before: the cycle counter advances, 255 being followed by
0, and the BEACON carries it; in STARTING the count rises, and the cycle that would be the fourth is the first
RUNNING one. The group slot announces the zone at the head of the queue, with the values its record and the house
record hold then, and removes it; with the queue empty it is silent. The join slot carries ASSIGN to the record that
entered the admission order first after the one last sent an ASSIGN, else to the head, and INVITE when none is
pending. Either comes once in a RUNNING cycle, after the slots. (What it says beyond the rules is the model's
choice: notes/assumptions/2.md, notes/assumptions/13.md.) -/
def Obligations.CycleParts : Prop :=
  ((∀ s : State, s.driveOn = false → exec .cycleBegin s = .next s) ∧
   (∀ s : State, s.driveOn = true →
     let now := max s.time.now (s.bus.cycleStart + 2000)
     let cycle := if s.bus.cycle = 255 then 0 else (s.bus.cycle + 1) % 256
     let fourth := s.bus.line = .starting ∧ 3 ≤ s.bus.starting
     ∃ t : State, exec .cycleBegin s = .next t ∧
       t = { s with
         time := { s.time with now := now }
         bus := { s.bus with
           line := if fourth then .running else s.bus.line
           starting := if fourth then 0 else if s.bus.line = .starting then s.bus.starting + 1 else s.bus.starting
           cycle := cycle, cycleStart := now, part := .beacon, window := 0, answer := none, invited := false
           sent := some (.beacon cycle) }
         registry := { s.registry with devices := t.registry.devices } } ∧
       ∀ i : Fin 48, t.device i = (s.device i).map (fun d => { d with fresh := false }))) ∧
  ((∀ s : State, s.bus.line = .running → s.bus.part = .beacon ∨ (∃ j : Fin 48, s.bus.part = .slot j) →
     let begun := fun (sent : Option Telegram) => { s with
       time := { s.time with now := max s.time.now (s.bus.cycleStart + 1864) }
       bus := { s.bus with
         part := .group, sent := sent, answer := none, invited := false, announce := s.bus.announce.tail } }
     (s.bus.announce = [] → exec .groupSlot s = .next (begun none)) ∧
     (∀ (z : Fin 16) (l : List (Fin 16)), s.bus.announce = z :: l → exec .groupSlot s = .next (begun (some (.announce
       (128 + z.val) (s.zone z).setpoint (s.zone z).temp ((s.zone z).state == .calling) s.house.mode))))) ∧
   (∀ s : State, s.bus.line = .running → s.bus.part ≠ .join →
     let begun := fun (sent : Telegram) (invited : Bool) => { s with
       time := { s.time with now := max s.time.now (s.bus.cycleStart + 1902) }
       bus := { s.bus with part := .join, sent := some sent, answer := none, invited := invited } }
     let assigned := fun (i : Fin 48) (d : Device) => { begun (.assign d.serial (i.val + 1)) false with
       registry := { s.registry with lastAssign := some i } }
     (s.registry.order = [] → exec .joinSlot s = .next (begun .invite true)) ∧
     (∀ (i : Fin 48) (l : List (Fin 48)) (d : Device), s.registry.order = i :: l → s.device i = some d →
       s.registry.lastAssign = none → exec .joinSlot s = .next (assigned i d)) ∧
     (∀ (last i : Fin 48) (before l : List (Fin 48)) (d : Device), s.registry.order.Nodup →
       s.registry.lastAssign = some last → s.device i = some d →
       s.registry.order = before ++ last :: i :: l ∨
         (s.registry.order = i :: l ∧ s.registry.order.getLast? = some last) →
       exec .joinSlot s = .next (assigned i d))) ∧
   (∀ s : State, s.bus.line ≠ .running ∨ s.bus.part = .join →
     exec .groupSlot s = .next s ∧ exec .joinSlot s = .next s) ∧
   (∀ s : State, s.bus.part = .group → exec .groupSlot s = .next s))

/-- At a window boundary that is still to come in a RUNNING cycle the grant flag is cleared, and while a token is free
the first entry from the head whose valve is ADMITTED or ACTIVE becomes a SCHEDULED grant with the entry's target,
kind and class. Otherwise nothing is issued. (What it says beyond the rules is the model's choice:
notes/assumptions/2.md, notes/assumptions/13.md.) -/
def Obligations.WindowBoundaryGrants : Prop :=
  ∀ (k : Fin 8) (s : State), s.MotorInv → s.bus.line = .running → s.bus.window ≤ k.val →
    s.bus.part = .beacon ∨ (∃ i : Fin 48, s.bus.part = .slot i ∧ i.val ≤ 6 * k.val) →
    let u := { s with
      time := { s.time with now := max s.time.now (s.bus.cycleStart + 40 + 228 * k.val) }
      bus := { s.bus with window := k.val + 1 }, motor := { s.motor with grantFlag := false } }
    let may := fun e : Entry => ∃ d, s.device e.slot = some d ∧ (d.state = .admitted ∨ d.state = .active)
    (∀ (before after : List Entry) (e : Entry) (d : Device), s.motor.queue = before ++ e :: after →
      (∀ f ∈ before, ¬ may f) → s.device e.slot = some d → (d.state = .admitted ∨ d.state = .active) →
      (s.motor.outstanding : Int) < s.motor.tokenLimit →
      exec (.windowBoundary k) s = .next (State.setDevice { u with motor := { u.motor with
          queue := before ++ after, outstanding := s.motor.outstanding + 1, grantFlag := true } } e.slot
        (some { d with grant := some {
          running := false, target := e.target, kind := e.kind, cls := e.cls, issued := u.time.now
          mark := false } }))) ∧
    ((s.motor.outstanding : Int) = s.motor.tokenLimit ∨ (∀ e ∈ s.motor.queue, ¬ may e) →
      exec (.windowBoundary k) s = .next u)

/-- The beginning of a slot that is still to come in a RUNNING cycle, by the record at it: none, or one admitted in this
cycle, and the slot is silent; RETIRING, and RELEASE is sent and the record freed with its member count; a SCHEDULED
grant, and its MOVE is sent, the grant runs and the commanded position takes its target; any other, and POLL is sent
with its echo and group address. (What it says beyond the rules is the model's choice: notes/assumptions/2.md,
notes/assumptions/13.md.) -/
def Obligations.DeviceSlotBegins : Prop :=
  ∀ (i : Fin 48) (s : State), s.bus.line = .running →
    s.bus.part = .beacon ∨ (∃ j : Fin 48, s.bus.part = .slot j ∧ j < i) →
    let begun := fun (sent : Option Telegram) (answer : Option (Fin 48)) => { s with
      time := { s.time with now := max s.time.now (s.bus.cycleStart + (40 + 38 * i.val)) }
      bus := { s.bus with part := .slot i, sent := sent, answer := answer, invited := false } }
    (s.device i = none → exec (.deviceSlotBegin i) s = .next (begun none none)) ∧
    (∀ d : Device, s.device i = some d →
      (d.fresh = true → exec (.deviceSlotBegin i) s = .next (begun none none)) ∧
      (d.fresh = false → d.state = .retiring → ∃ t : State, exec (.deviceSlotBegin i) s = .next t ∧
        (State.SettlesTo (((begun (some (.release (i.val + 1))) none).setDevice i none).dropMember d.zone d.kind) t)) ∧
      (d.fresh = false → d.state ≠ .retiring →
        (∀ g, d.grant = some g → g.running = false → ∃ t : State, exec (.deviceSlotBegin i) s = .next t ∧
          (State.SettlesTo ((begun (some (.move (i.val + 1) g.target (g.kind == .exercise))) (some i)).setDevice i
            (some { d with commanded := some g.target, grant := some { g with running := true } })) t)) ∧
        ((∀ g, d.grant = some g → g.running = true) → exec (.deviceSlotBegin i) s =
          .next (begun (some (.poll (i.val + 1) (if d.kind = .roomUnit then d.lastSeq else 0)
            (d.zone.elim 0 (fun z => 128 + z.val)))) (some i)))))

/-- The end of an awaited slot without a good report: nothing received, or a good REPORT out of its temperature range,
is a miss; a bad check byte, or another address, kind or field, is a bad telegram. Either adds 1 to the misses, the
latter to the bad-telegram count too, both saturating at 255; the fifth miss moves ACTIVE to STALE and the 150th
STALE to LOST, with DEVICE_STATE. The end of an awaited slot with a good report of a room sensor or of a valve
without a RUNNING grant: misses 0, the temperature stored, of a valve also position and motor state; ADMITTED, STALE
and LOST become ACTIVE with DEVICE_STATE, and an admission so completed leaves the admission order. FAULTED stays.
Of a valve with a RUNNING grant the same is stored, and the report gives the grant its outcome. At a record that has
become RETIRING a slot's end takes nothing, and a slot that awaits nothing takes nothing. (What it says beyond the
rules is the model's choice: notes/assumptions/2.md, notes/assumptions/12.md, notes/assumptions/24.md.) -/
def Obligations.SlotEnds : Prop :=
  (∀ (i : Fin 48) (received : Option (List Byte)) (s : State) (d : Device), s.bus.line = .running →
     s.bus.answer = some i → s.device i = some d → d.state ≠ .retiring →
     let bytes := received.getD []
     let miss := bytes = [] ∨
       (crcGood bytes = true ∧ ∃ r, readReport d.kind (i.val + 1) bytes.dropLast = some r ∧
         ((d.kind = .valveHead ∧ (r.temp < -100 ∨ 1100 < r.temp)) ∨
          (d.kind ≠ .valveHead ∧ (r.temp < 0 ∨ 500 < r.temp))))
     let bad : Bool := bytes ≠ [] && (!crcGood bytes || (readReport d.kind (i.val + 1) bytes.dropLast).isNone)
     let misses := min 255 (d.misses + 1)
     let state : DeviceState := if d.state = .active ∧ 5 ≤ misses then .stale
       else if d.state = .stale ∧ 150 ≤ misses then .lost else d.state
     let u := if state = d.state then s else s.raise .deviceState
     miss ∨ bad = true → ∃ t : State, exec (.deviceSlotEnd i received) s = .next t ∧
       (State.setDevice { u with
         time := { s.time with now := max s.time.now (s.bus.cycleStart + (78 + 38 * i.val)) }
         bus := { s.bus with answer := none, invited := false, sent := none } } i
         (some { d with
           misses := misses, bad := if bad then min 255 (d.bad + 1) else d.bad, state := state })).SettlesTo t) ∧
  ((∀ (i : Fin 48) (bytes : List Byte) (r : Report) (s : State) (d : Device), s.bus.line = .running →
     s.bus.answer = some i → s.device i = some d → d.state ≠ .retiring → d.kind ≠ .roomUnit →
     (∀ g, d.grant = some g → g.running = false) →
     bytes ≠ [] → crcGood bytes = true → readReport d.kind (i.val + 1) bytes.dropLast = some r →
     (d.kind = .valveHead → -100 ≤ r.temp ∧ r.temp ≤ 1100) → (d.kind = .roomSensor → 0 ≤ r.temp ∧ r.temp ≤ 500) →
     let state : DeviceState := if d.state = .faulted then .faulted else .active
     let e : Device := { d with misses := 0, lastTemp := some r.temp, state := state }
     let e' : Device := match r with
       | .valve _ p m => { e with reported := some p, motor := m }
       | _ => e
     let u := if state = d.state then s else s.raise .deviceState
     let v := State.setDevice { u with
       time := { s.time with now := max s.time.now (s.bus.cycleStart + (78 + 38 * i.val)) }
       bus := { s.bus with answer := none, invited := false, sent := none } } i (some e')
     ∃ t : State, exec (.deviceSlotEnd i (some bytes)) s = .next t ∧
       (if d.state = .admitted then v.leaveOrder i else v).SettlesTo t) ∧
   (∀ (i : Fin 48) (bytes : List Byte) (temp position : Int) (m : MotorState) (s : State) (d : Device) (g : Grant),
     s.bus.line = .running → s.bus.answer = some i → s.device i = some d → d.kind = .valveHead → d.state ≠ .retiring →
     d.grant = some g → g.running = true → bytes ≠ [] → crcGood bytes = true →
     readReport .valveHead (i.val + 1) bytes.dropLast = some (.valve temp position m) → -100 ≤ temp → temp ≤ 1100 →
     let state : DeviceState := if d.state = .faulted then .faulted else .active
     let e : Device := { d with misses := 0, lastTemp := some temp, state := state, reported := some position, motor := m }
     let u := if state = d.state then s else s.raise .deviceState
     let v := State.setDevice { u with
       time := { s.time with now := max s.time.now (s.bus.cycleStart + (78 + 38 * i.val)) }
       bus := { s.bus with answer := none, invited := false, sent := none } } i (some e)
     ∃ t : State, exec (.deviceSlotEnd i (some bytes)) s = .next t ∧
       ((if d.state = .admitted then v.leaveOrder i else v).takeOutcome i e g position m).SettlesTo t) ∧
   (∀ (i : Fin 48) (received : Option (List Byte)) (s : State) (d : Device), s.bus.line = .running →
     s.bus.answer = some i → s.device i = some d → d.state = .retiring → exec (.deviceSlotEnd i received) s = .next { s with
       time := { s.time with now := max s.time.now (s.bus.cycleStart + (78 + 38 * i.val)) }
       bus := { s.bus with answer := none, invited := false, sent := none } }) ∧
   (∀ (i : Fin 48) (received : Option (List Byte)) (s : State), s.bus.line ≠ .running ∨ s.bus.answer ≠ some i →
     exec (.deviceSlotEnd i received) s = .next s))

/-- What ends a grant at its valve. A report gives a RUNNING grant its outcome: RUNNING sets the mark; IDLE with the
mark or within 2 of the target is DONE, which returns the token, sets the failure run to 0 and, of an exercise, the
exercise age; STALLED fails. A failure returns the token, makes the commanded position unknown and raises the
failure run, and the third in a row makes the valve FAULTED with DEVICE_STATE and without an entry, and takes an
ADMITTED one out of the admission order; the first two hand the next target, else the run's own target again, of an
exercise the target field. tGRANT after its issue a grant fails, whether SCHEDULED or RUNNING, as a STALLED report
fails a RUNNING one; a slot without a grant has no timeout. (What it says beyond the rules is the model's choice:
notes/assumptions/2.md, notes/assumptions/21.md.) -/
def Obligations.GrantEnds : Prop :=
  (∀ (s : State) (i : Fin 48) (d : Device) (g : Grant) (position : Int) (m : MotorState),
     s.device i = some d → d.grant = some g →
     (m = .running → s.takeOutcome i d g position m =
       s.setDevice i (some { d with grant := some { g with mark := true } })) ∧
     (m = .idle → g.mark = false → 2 < |position - g.target| → s.takeOutcome i d g position m = s) ∧
     (m = .idle → g.mark = true ∨ |position - g.target| ≤ 2 →
       let u := State.setDevice { s with motor := { s.motor with outstanding := s.motor.outstanding - 1 } } i
         (some { d with
           grant := none, next := none, failureRun := 0
           exerciseAge := if g.kind = .exercise then 0 else d.exerciseAge
           exercisePhase := if g.kind = .exercise then .none else d.exercisePhase })
       s.takeOutcome i d g position m = match d.next, g.kind with
         | some n, _ => u.hand i n.target n.cls
         | none, .exercise => u.hand i d.target .normal
         | none, .position => u) ∧
     (m = .stalled →
       let u := State.setDevice { s with motor := { s.motor with outstanding := s.motor.outstanding - 1 } } i
         (some { d with
           grant := none, next := none, failureRun := d.failureRun + 1, commanded := none, exercisePhase := .none
           state := if d.failureRun + 1 < 3 then d.state else .faulted })
       (d.failureRun + 1 < 3 → s.takeOutcome i d g position m = match d.next, g.kind with
         | some n, _ => u.hand i n.target n.cls
         | none, .exercise => u.hand i d.target .normal
         | none, .position => u.hand i g.target g.cls) ∧
       (3 ≤ d.failureRun + 1 → s.takeOutcome i d g position m =
         if d.state = .admitted then (u.raise .deviceState).leaveOrder i else u.raise .deviceState))) ∧
  ((∀ (i : Fin 48) (s : State) (d : Device) (g : Grant), s.device i = some d → d.grant = some g →
     ∃ t : State, exec (.grantTimeout i) s = .next t ∧
       (State.SettlesTo (State.takeOutcome { s with time := { s.time with
         now := max s.time.now (g.issued + 60000) } } i d g 0 .stalled) t) ∧
       t.motor.outstanding = s.motor.outstanding - 1 ∧
       ∃ e, t.device i = some e ∧ e.grant = none ∧ e.commanded = none ∧ e.failureRun = d.failureRun + 1 ∧
         e.exerciseAge = d.exerciseAge ∧ (3 ≤ d.failureRun + 1 → e.state = .faulted ∧ t.raised .deviceState = true)) ∧
   (∀ (i : Fin 48) (s : State), (∀ d, s.device i = some d → d.grant = none) →
     exec (.grantTimeout i) s = .next s))

/-- A JOIN_REQ taken at the end of a join slot that carried INVITE: of a new serial it makes an entry at the tail with
JOIN_PENDING, or is dropped with JOIN_DROPPED where the list holds 8 or the numbering is exhausted; of a serial in
the list it is a new sighting; of a registered serial of its kind, not RETIRING, a re-find; otherwise it is
discarded. (What it says beyond the rules is the model's choice: notes/assumptions/2.md, notes/assumptions/12.md,
notes/assumptions/19.md, notes/assumptions/20.md.) -/
def Obligations.JoinRequests : Prop :=
  ∀ (received : List Byte) (s : State), s.bus.line = .running → s.bus.invited = true →
    let u := { s with
      time := { s.time with now := max s.time.now (s.bus.cycleStart + 2000) }
      bus := { s.bus with answer := none, invited := false, sent := none } }
    (readJoin received = none → exec (.joinReq received) s = .next u) ∧
    (∀ (serial : BitVec 32) (kind : DeviceKind), readJoin received = some (serial, kind) →
      ((∀ (i : Fin 48) (d : Device), s.device i = some d → d.serial ≠ serial) →
        ((∀ e ∈ s.bus.joins, e.serial ≠ serial) →
          (s.bus.joins.length < 8 → s.bus.lastEntry < 65535 → exec (.joinReq received) s =
            .next { u.raise .joinPending with bus := { u.bus with
              joins := s.bus.joins ++ [{ number := s.bus.lastEntry + 1, serial, kind, sightings := 1, age := 0 }]
              lastEntry := s.bus.lastEntry + 1 } }) ∧
          (8 ≤ s.bus.joins.length ∨ 65535 ≤ s.bus.lastEntry →
            exec (.joinReq received) s = .next (u.raise .joinDropped))) ∧
        (∀ e ∈ s.bus.joins, e.serial = serial → s.SerialInv → exec (.joinReq received) s =
          .next { u with bus := { u.bus with joins := s.bus.joins.map (fun x =>
            if x = e then { e with sightings := min 255 (e.sightings + 1), age := 0, kind := kind } else x) } })) ∧
      (∀ (i : Fin 48) (d : Device), s.SerialInv → s.device i = some d → d.serial = serial →
        (d.state = .retiring ∨ d.kind ≠ kind → exec (.joinReq received) s = .next u) ∧
        (d.state ≠ .retiring → d.kind = kind → ∃ t : State, exec (.joinReq received) s = .next t ∧
          (∃ e, t.device i = some e ∧ e.state = .admitted ∧ e.misses = 0 ∧ e.lastSeq = 0 ∧ e.grant = none ∧
            e.zone = d.zone ∧ e.lastTemp = d.lastTemp ∧ e.bad = d.bad ∧ e.serial = d.serial ∧
            e.reported = d.reported ∧ e.exerciseAge = d.exerciseAge ∧
            (d.kind = .valveHead → e.commanded = none ∧ e.failureRun = 0)) ∧
          (∀ j : Fin 48, j ≠ i → (t.device j).map Device.kept = (s.device j).map Device.kept) ∧
          t.registry.order = (if i ∈ s.registry.order then s.registry.order else s.registry.order ++ [i]) ∧
          t.motor.outstanding = s.motor.outstanding - (if d.grant.isSome then 1 else 0) ∧
          t.link = s.link ∧ t.zones = s.zones ∧ t.bus = u.bus)))

/-! ### Registry, join list, motor record -/

/-- ADMIT is refused in this order with nothing changed: BAD_VALUE for a zone code that is neither 0..15 nor none,
NOT_FOUND for a serial with no join entry, FULL with no free slot, ZONE_FULL for a zone at its limit for the kind.
Accepted, it takes the lowest free slot for an ADMITTED record with the values at admission, counts the member,
removes the entry, enters the admission order at its tail and answers with slot and address. (What it says beyond
the rules is the model's choice: notes/assumptions/12.md, notes/assumptions/13.md,
notes/assumptions/19.md.) -/
def Obligations.AdmitCreatesRecord : Prop :=
  ∀ (serial : BitVec 32) (zone : Byte) (s : State), s.takes → s.AdmissionInv → s.SerialInv →
    let i := Instr.admitDevice serial zone
    let full := fun (z : Fin 16) (kind : DeviceKind) =>
      (kind = .valveHead ∧ 6 ≤ (s.zone z).valves) ∨ (kind ≠ .valveHead ∧ 2 ≤ (s.zone z).sensors + (s.zone z).units)
    (16 ≤ zone.toNat → zone ≠ 255 → exec i s = .next ((s.received i).bare i .badValue)) ∧
    (zone.toNat < 16 ∨ zone = 255 →
      ((∀ e ∈ s.bus.joins, e.serial ≠ serial) → exec i s = .next ((s.received i).bare i .notFound)) ∧
      (∀ e ∈ s.bus.joins, e.serial = serial →
        ((∀ j : Fin 48, s.device j ≠ none) → exec i s = .next ((s.received i).bare i .full)) ∧
        (∀ (j : Fin 48) (z : Option (Fin 16)), s.device j = none → (∀ k : Fin 48, k < j → s.device k ≠ none) →
          zone.toNat = z.elim 255 Fin.val →
          ((∃ y, z = some y ∧ full y e.kind) → exec i s = .next ((s.received i).bare i .zoneFull)) ∧
          ((∀ y, z = some y → ¬ full y e.kind) → ∃ (t : State) (p : List Byte),
            exec i s = .next (t.holding i .ok p) ∧
            (p.drop 1).take 7 = [1, 0, byte1 j.val, 0, byte1 j.val, 0, byte1 (j.val + 1)] ∧
            let joins := s.bus.joins.filter (fun x => x.number != e.number)
            ((State.setDevice { s.received i with
              registry := { s.registry with order := s.registry.order ++ [j] }
              bus := { s.bus with
                joins := joins
                lastEntry := if joins = [] ∧ s.bus.lastEntry = 65535 then 0 else s.bus.lastEntry } } j (some {
              serial := serial, kind := e.kind, zone := z, state := .admitted, lastTemp := none, misses := 0, bad := 0
              lastSeq := 0, commanded := none, target := 0, reported := none, motor := .idle, grant := none
              next := none, failureRun := 0, exerciseAge := 0, exercisePhase := .none
              fresh := true })).addMember z e.kind).SettlesTo t))))

/-- WRITE of a device record: NOT_FOUND for a key that names no record; BAD_VALUE for any item but the bound zone or a
code out of range; STATE of a RETIRING record; ZONE_FULL for another zone at its limit; the zone already bound
changes nothing; else the binding and the member counts move. RETIRE of a device record makes it RETIRING, takes it
out of the admission order, removes a queue entry and returns the token of a grant; binding, counts and slot stay.
Of a RETIRING record it changes nothing, of a free slot it is NOT_FOUND. RETIRE of a join entry removes it. (What it
says beyond the rules is the model's choice: notes/assumptions/12.md, notes/assumptions/15.md,
notes/assumptions/19.md.) -/
def Obligations.DeviceAndJoinRecords : Prop :=
  ((∀ (key : Word) (items : List Item) (s : State), s.takes → (∀ i : Fin 48, key.toNat = i.val → s.device i = none) →
     exec (.writeDevice key items) s =
       .next ((s.received (.writeDevice key items)).bare (.writeDevice key items) .notFound)) ∧
   (∀ (key w : Word) (i : Fin 48) (d : Device) (s : State), s.takes → key.toNat = i.val → s.device i = some d →
     let c := Instr.writeDevice key [⟨4, w⟩]
     let full := fun (z : Fin 16) =>
       (d.kind = .valveHead ∧ 6 ≤ (s.zone z).valves) ∨ (d.kind ≠ .valveHead ∧ 2 ≤ (s.zone z).sensors + (s.zone z).units)
     (∀ items : List Item, (∃ x ∈ items, x.code ≠ 0 ∧ x.code ≠ 4) → exec (.writeDevice key items) s =
       .next ((s.received (.writeDevice key items)).bare (.writeDevice key items) .badValue)) ∧
     (16 ≤ w.toNat → w ≠ 0x8000 → exec c s = .next ((s.received c).bare c .badValue)) ∧
     (∀ z : Option (Fin 16), w.toNat = z.elim 0x8000 Fin.val →
       (d.state = .retiring → exec c s = .next ((s.received c).bare c .state)) ∧
       (d.state ≠ .retiring → z = d.zone → ∃ p, exec c s = .next ((s.received c).holding c .ok p)) ∧
       (d.state ≠ .retiring → z ≠ d.zone → (∃ y, z = some y ∧ full y) →
         exec c s = .next ((s.received c).bare c .zoneFull)) ∧
       (d.state ≠ .retiring → z ≠ d.zone → (∀ y, z = some y → ¬ full y) → ∃ (t : State) (p : List Byte),
         exec c s = .next (t.holding c .ok p) ∧
         ((((s.received c).setDevice i (some { d with zone := z })).dropMember d.zone d.kind).addMember z
           d.kind).SettlesTo t)))) ∧
  ((∀ (key : Word) (s : State), s.takes → (∀ i : Fin 48, key.toNat = i.val → s.device i = none) →
     exec (.retireDevice key) s =
       .next ((s.received (.retireDevice key)).bare (.retireDevice key) .notFound)) ∧
   (∀ (key : Word) (i : Fin 48) (d : Device) (s : State), s.takes → key.toNat = i.val → s.device i = some d →
     let c := Instr.retireDevice key
     (d.state = .retiring → exec c s = .next ((s.received c).bare c .ok)) ∧
     (d.state ≠ .retiring → ∃ t : State, exec c s = .next (t.bare c .ok) ∧
       let u := State.setDevice { s.received c with motor := { s.motor with
           queue := s.motor.queue.filter (fun e => e.slot != i)
           outstanding := s.motor.outstanding - (if d.grant.isSome then 1 else 0) } } i
         (some { d with state := .retiring, grant := none, next := none, exercisePhase := .none })
       (if d.state = .admitted then u.leaveOrder i else u).SettlesTo t)) ∧
   (∀ (key : Word) (s : State), s.takes →
     let c := Instr.retireJoin key
     ((∀ e ∈ s.bus.joins, e.number ≠ key.toNat) → exec c s = .next ((s.received c).bare c .notFound)) ∧
     (∀ e ∈ s.bus.joins, e.number = key.toNat →
       let joins := s.bus.joins.filter (fun x => x.number != key.toNat)
       exec c s = .next (State.bare { s.received c with bus := { s.bus with
         joins := joins
         lastEntry := if joins = [] ∧ s.bus.lastEntry = 65535 then 0 else s.bus.lastEntry } } c .ok))))

/-! ### Room unit buttons -/

/-- A good REPORT of a room unit is stored, and its button event handled. NONE and the last sequence taken change
nothing; a new event is taken. PRESENCE, and any button in VACANT with that enable set, is a PRESENCE wake. Else UP
and DOWN of a bound unit step its own countdown on top by 5 and restart it, or push a countdown hold from the
effective setpoint, lost where the pool is full; CANCEL retires the top hold. Each change raises HOLD_BY_DEVICE and
resolves the zone; an unbound unit's event is only taken. (What it says beyond the rules is the model's choice:
notes/assumptions/2.md, notes/assumptions/14.md.) -/
def Obligations.ButtonEvents : Prop :=
  ∀ (i : Fin 48) (bytes : List Byte) (temp : Int) (b : Button) (seq : Nat) (s : State) (d : Device), s.HoldInv →
    s.bus.line = .running → s.bus.answer = some i → s.device i = some d → d.kind = .roomUnit → d.state ≠ .retiring →
    d.state ≠ .faulted → bytes ≠ [] → crcGood bytes = true →
    readReport .roomUnit (i.val + 1) bytes.dropLast = some (.unit temp b seq) → 0 ≤ temp → temp ≤ 500 →
    let base := fun (q : Nat) =>
      let u := State.setDevice { (if d.state = .active then s else s.raise .deviceState) with
        time := { s.time with now := max s.time.now (s.bus.cycleStart + (78 + 38 * i.val)) }
        bus := { s.bus with answer := none, invited := false, sent := none } } i
        (some { d with misses := 0, lastTemp := some temp, state := .active, lastSeq := q })
      if d.state = .admitted then u.leaveOrder i else u
    let gives := fun (u : State) => ∃ t : State, exec (.deviceSlotEnd i (some bytes)) s = .next t ∧ u.SettlesTo t
    let wakes := b = .presence ∨ (s.house.mode = .vacant ∧ s.house.wakePresence = true)
    (b = .none ∨ seq = d.lastSeq → gives (base d.lastSeq)) ∧
    (b ≠ .none → seq ≠ d.lastSeq →
      (wakes → s.house.mode = .occupied ∨ s.house.wakePresence = false → gives (base seq)) ∧
      (wakes → s.house.mode ≠ .occupied → s.house.wakePresence = true →
        gives (State.resolveAll { (base seq).raise .modeChanged with
          house := { s.house with
            mode := .occupied, countdown := none, lastCause := some (.presence (i.val + 1))
            wakePresence := !s.house.disarmOnWake, wakeInput := s.house.wakeInput && !s.house.disarmOnWake }
          bus := { (base seq).bus with announce :=
            s.bus.announce ++ rooms.filter (fun z => decide (z ∉ s.bus.announce)) } })) ∧
      (¬ wakes → d.zone = none → gives (base seq)) ∧
      (¬ wakes → ∀ z : Fin 16, d.zone = some z →
        let v := (base seq).raise .holdByDevice
        let stack := s.stackOf (roomIndex z)
        let step := if b = .up then (5 : Int) else -5
        let ending := EndKind.countdown (s.zone z).config.deviceHoldMinutes.toNat
        let own := fun (h : Hold) => h.origin = .device (i.val + 1) ∧ ∃ m, h.ending = .countdown m
        (b = .cancel → stack = [] → gives (base seq)) ∧
        (b = .cancel → ∀ (h : Hold) (l : List Hold), stack = h :: l →
          gives ((v.setStack (roomIndex z) l).resolve (roomIndex z))) ∧
        (b = .up ∨ b = .down →
          (∀ (h : Hold) (l : List Hold), stack = h :: l → own h →
            gives ((v.setStack (roomIndex z) ({ h with
              setpoint := s.holdRange (roomIndex z) (h.setpoint + step), ending := ending } :: l)).resolve
                (roomIndex z))) ∧
          ((∀ h ∈ stack.head?, ¬ own h) → stack.length < 4 → 24 ≤ s.poolCount → gives (base seq)) ∧
          ((∀ h ∈ stack.head?, ¬ own h) → stack.length = 4 ∨ s.poolCount < 24 →
            gives (State.resolve { (if stack.length = 4 then v.raise .holdDisplaced else v) with holds := {
              stack := s.holds.stack.set (roomIndex z) ({
                handle := s.newHandle, setpoint := s.holdRange (roomIndex z) ((s.zone z).setpoint + step)
                ending := ending, origin := .device (i.val + 1), retain := false, pushed := s.holds.pushes } ::
                  stack.take 3)
              handles := if s.newHandle = 65535 then 1 else s.newHandle + 1
              pushes := (s.holds.pushes + 1) % 4294967296 } } (roomIndex z))))))

/-! ### Invariants and rules of the whole part -/

/-- Every invariant of the model holds of the state while RESETn is held low. (What it says beyond the rules is the
model's choice: notes/assumptions/3.md.) -/
def Obligations.ResetInvariants : Prop :=
  State.reset.ProgramInv ∧ State.reset.HoldInv ∧ State.reset.HouseInv ∧ State.reset.ZoneInv ∧
    State.reset.BoilerInv ∧ State.reset.CylinderInv ∧ State.reset.BusInv ∧ State.reset.AdmissionInv ∧
    State.reset.SerialInv ∧ State.reset.MemberInv ∧ State.reset.DeviceInv ∧ State.reset.MotorInv ∧
    State.reset.BypassInv ∧ State.reset.ReportedInv

/-- Every step keeps the token count: as many grants stand as are outstanding, never more than the token limit and none
while the line is not RUNNING, and no valve has two entries or an entry beside a grant. -/
def Obligations.StepKeepsTokens : Prop :=
  ∀ s t : State, s.MotorInv → step s = .next t → t.MotorInv

/-- Every step keeps the program lists strictly rising within their limits, the hold stacks and pool within theirs with
distinct handles, and the house record's countdown out of OCCUPIED. -/
def Obligations.StepKeepsStores : Prop :=
  ∀ s t : State, s.ProgramInv → s.HoldInv → s.HouseInv → step s = .next t → t.ProgramInv ∧ t.HoldInv ∧ t.HouseInv

/-- Every step keeps every room zone record in its ranges: the configuration with request_off below request_on, demand
and integral within 0..1000, the effective setpoint between floor and ceiling, a pending configuration only while
CALLING, and a DISABLED zone without demand. -/
def Obligations.StepKeepsZones : Prop :=
  ∀ s t : State, s.ZoneInv → step s = .next t → t.ZoneInv

/-- Every step keeps all the boiler record's fields in their ranges, the start list at most 12 entries under 60 minutes,
the attempts at most 3, ZW's configuration in its ranges, its target and what gives it (default target, points and
holds) OFF or within 300..650, each timer of burner and cylinder in the state it belongs to, and the line's items in
theirs. -/
def Obligations.StepKeepsHeatAndLine : Prop :=
  ∀ s t : State, s.BoilerInv → s.CylinderInv → s.BusInv → step s = .next t →
    t.BoilerInv ∧ t.CylinderInv ∧ t.BusInv

/-- Every step keeps serials distinct over records and join list, the admission order exactly the ADMITTED records, each
zone's member counts the devices bound and within the limits, and every record's counts in their ranges, with three
failures in a row only of a record that is FAULTED or RETIRING. -/
def Obligations.StepKeepsRegistry : Prop :=
  ∀ s t : State, s.SerialInv → s.AdmissionInv → s.MemberInv → s.DeviceInv → s.MotorInv → step s = .next t →
    t.SerialInv ∧ t.AdmissionInv ∧ t.MemberInv ∧ t.DeviceInv

/-- While the pump runs with a bypass zone configured and the cylinder is not CHARGING, the flow check on commanded
positions passes or every valve of the bypass zone that is neither FAULTED nor RETIRING has target 100: this follows
from an invariant that every step keeps. While READY is set and the burner does not fire, the result of the reported
check is that of the positions as they stand, which every step keeps too. (What it says beyond the rules is the
model's choice: notes/assumptions/11.md, notes/assumptions/31.md.) -/
def Obligations.BypassPathKept : Prop :=
  (∀ s t : State, s.BypassInv → step s = .next t → t.BypassInv) ∧
  (∀ (s : State) (z : Fin 16), s.BypassInv → s.boiler.pump ≠ .stopped → s.boiler.config.bypassZone = some z →
    s.cylinder.state ≠ .charging → s.commandedPass = true ∨
      ∀ (i : Fin 48) (d : Device), s.device i = some d → d.kind = .valveHead → d.zone = some z →
        d.state ≠ .faulted → d.state ≠ .retiring → d.target = 100) ∧
  (∀ s t : State, s.ReportedInv → step s = .next t → t.ReportedInv)

/-- Until tBON has run a firing burner is stopped only by the expiry of tBON itself, a WRITE that carries a new tBON, a
TF sample out of range or at the high limit, LOCKOUT, or a reset; and a burner that starts leaves at most
starts_limit entries in the start list. -/
def Obligations.BurnerStopsAndStarts : Prop :=
  (∀ (c : Instr) (s t : State), s.time.ready = true → s.BoilerInv → s.boiler.burner = .firing → s.boiler.minOn.isSome →
    exec c s = .next t → t.boiler.burner ≠ .firing →
      c = .tbonExpiry ∨ c = .lockoutAssert ∨ c = .warmReset ∨ c = .powerOnReset ∨
      (∃ key items, c = .writeBoiler key items ∧ carries items 11 = true) ∨
      (∃ a b d : Int, c = .sensorSample a b d ∧ (a < -400 ∨ 1100 < a ∨ s.boiler.config.flowMax + 50 ≤ a))) ∧
  (∀ (c : Instr) (s t : State), s.boiler.burner ≠ .firing → exec c s = .next t → t.boiler.burner = .firing →
    (t.boiler.startList.length : Int) ≤ t.boiler.config.startsLimit)
end

