-- ==== Sys2Proof/Laws/State.lean ====
section
/-! SUPPORT. What each named update of the state leaves in each block: one lemma per block per update, true by
definition. -/

namespace Sys2Proof.Machine

variable (s : State)

/-! ### setZone -/

@[simp] theorem State.setZone_time (z : Fin 16) (r : Zone) : (s.setZone z r).time = s.time := rfl
@[simp] theorem State.setZone_clock (z : Fin 16) (r : Zone) : (s.setZone z r).clock = s.clock := rfl
@[simp] theorem State.setZone_zones (z : Fin 16) (r : Zone) : (s.setZone z r).zones = s.zones.set z r := rfl
@[simp] theorem State.setZone_cylinder (z : Fin 16) (r : Zone) : (s.setZone z r).cylinder = s.cylinder := rfl
@[simp] theorem State.setZone_points (z : Fin 16) (r : Zone) : (s.setZone z r).points = s.points := rfl
@[simp] theorem State.setZone_holds (z : Fin 16) (r : Zone) : (s.setZone z r).holds = s.holds := rfl
@[simp] theorem State.setZone_house (z : Fin 16) (r : Zone) : (s.setZone z r).house = s.house := rfl
@[simp] theorem State.setZone_boiler (z : Fin 16) (r : Zone) : (s.setZone z r).boiler = s.boiler := rfl
@[simp] theorem State.setZone_bus (z : Fin 16) (r : Zone) : (s.setZone z r).bus = s.bus := rfl
@[simp] theorem State.setZone_registry (z : Fin 16) (r : Zone) : (s.setZone z r).registry = s.registry := rfl
@[simp] theorem State.setZone_motor (z : Fin 16) (r : Zone) : (s.setZone z r).motor = s.motor := rfl
@[simp] theorem State.setZone_link (z : Fin 16) (r : Zone) : (s.setZone z r).link = s.link := rfl
@[simp] theorem State.setZone_pending (z : Fin 16) (r : Zone) : (s.setZone z r).pending = s.pending := rfl

/-! ### setDevice -/

@[simp] theorem State.setDevice_time (i : Fin 48) (d : Option Device) : (s.setDevice i d).time = s.time := rfl
@[simp] theorem State.setDevice_clock (i : Fin 48) (d : Option Device) : (s.setDevice i d).clock = s.clock := rfl
@[simp] theorem State.setDevice_zones (i : Fin 48) (d : Option Device) : (s.setDevice i d).zones = s.zones := rfl
@[simp] theorem State.setDevice_cylinder (i : Fin 48) (d : Option Device) : (s.setDevice i d).cylinder = s.cylinder := rfl
@[simp] theorem State.setDevice_points (i : Fin 48) (d : Option Device) : (s.setDevice i d).points = s.points := rfl
@[simp] theorem State.setDevice_holds (i : Fin 48) (d : Option Device) : (s.setDevice i d).holds = s.holds := rfl
@[simp] theorem State.setDevice_house (i : Fin 48) (d : Option Device) : (s.setDevice i d).house = s.house := rfl
@[simp] theorem State.setDevice_boiler (i : Fin 48) (d : Option Device) : (s.setDevice i d).boiler = s.boiler := rfl
@[simp] theorem State.setDevice_bus (i : Fin 48) (d : Option Device) : (s.setDevice i d).bus = s.bus := rfl
@[simp] theorem State.setDevice_registry (i : Fin 48) (d : Option Device) : (s.setDevice i d).registry = { s.registry with devices := s.registry.devices.set i d } := rfl
@[simp] theorem State.setDevice_motor (i : Fin 48) (d : Option Device) : (s.setDevice i d).motor = s.motor := rfl
@[simp] theorem State.setDevice_link (i : Fin 48) (d : Option Device) : (s.setDevice i d).link = s.link := rfl
@[simp] theorem State.setDevice_pending (i : Fin 48) (d : Option Device) : (s.setDevice i d).pending = s.pending := rfl

/-! ### setStack -/

@[simp] theorem State.setStack_time (z : Fin 17) (l : List Hold) : (s.setStack z l).time = s.time := rfl
@[simp] theorem State.setStack_clock (z : Fin 17) (l : List Hold) : (s.setStack z l).clock = s.clock := rfl
@[simp] theorem State.setStack_zones (z : Fin 17) (l : List Hold) : (s.setStack z l).zones = s.zones := rfl
@[simp] theorem State.setStack_cylinder (z : Fin 17) (l : List Hold) : (s.setStack z l).cylinder = s.cylinder := rfl
@[simp] theorem State.setStack_points (z : Fin 17) (l : List Hold) : (s.setStack z l).points = s.points := rfl
@[simp] theorem State.setStack_holds (z : Fin 17) (l : List Hold) : (s.setStack z l).holds = { s.holds with stack := s.holds.stack.set z l } := rfl
@[simp] theorem State.setStack_house (z : Fin 17) (l : List Hold) : (s.setStack z l).house = s.house := rfl
@[simp] theorem State.setStack_boiler (z : Fin 17) (l : List Hold) : (s.setStack z l).boiler = s.boiler := rfl
@[simp] theorem State.setStack_bus (z : Fin 17) (l : List Hold) : (s.setStack z l).bus = s.bus := rfl
@[simp] theorem State.setStack_registry (z : Fin 17) (l : List Hold) : (s.setStack z l).registry = s.registry := rfl
@[simp] theorem State.setStack_motor (z : Fin 17) (l : List Hold) : (s.setStack z l).motor = s.motor := rfl
@[simp] theorem State.setStack_link (z : Fin 17) (l : List Hold) : (s.setStack z l).link = s.link := rfl
@[simp] theorem State.setStack_pending (z : Fin 17) (l : List Hold) : (s.setStack z l).pending = s.pending := rfl

/-! ### setPoints -/

@[simp] theorem State.setPoints_time (z : Fin 17) (l : List Point) : (s.setPoints z l).time = s.time := rfl
@[simp] theorem State.setPoints_clock (z : Fin 17) (l : List Point) : (s.setPoints z l).clock = s.clock := rfl
@[simp] theorem State.setPoints_zones (z : Fin 17) (l : List Point) : (s.setPoints z l).zones = s.zones := rfl
@[simp] theorem State.setPoints_cylinder (z : Fin 17) (l : List Point) : (s.setPoints z l).cylinder = s.cylinder := rfl
@[simp] theorem State.setPoints_points (z : Fin 17) (l : List Point) : (s.setPoints z l).points = s.points.set z l := rfl
@[simp] theorem State.setPoints_holds (z : Fin 17) (l : List Point) : (s.setPoints z l).holds = s.holds := rfl
@[simp] theorem State.setPoints_house (z : Fin 17) (l : List Point) : (s.setPoints z l).house = s.house := rfl
@[simp] theorem State.setPoints_boiler (z : Fin 17) (l : List Point) : (s.setPoints z l).boiler = s.boiler := rfl
@[simp] theorem State.setPoints_bus (z : Fin 17) (l : List Point) : (s.setPoints z l).bus = s.bus := rfl
@[simp] theorem State.setPoints_registry (z : Fin 17) (l : List Point) : (s.setPoints z l).registry = s.registry := rfl
@[simp] theorem State.setPoints_motor (z : Fin 17) (l : List Point) : (s.setPoints z l).motor = s.motor := rfl
@[simp] theorem State.setPoints_link (z : Fin 17) (l : List Point) : (s.setPoints z l).link = s.link := rfl
@[simp] theorem State.setPoints_pending (z : Fin 17) (l : List Point) : (s.setPoints z l).pending = s.pending := rfl

/-! ### reach -/

@[simp] theorem State.reach_time (n : Nat) : (s.reach n).time = { s.time with now := max s.time.now n } := rfl
@[simp] theorem State.reach_clock (n : Nat) : (s.reach n).clock = s.clock := rfl
@[simp] theorem State.reach_zones (n : Nat) : (s.reach n).zones = s.zones := rfl
@[simp] theorem State.reach_cylinder (n : Nat) : (s.reach n).cylinder = s.cylinder := rfl
@[simp] theorem State.reach_points (n : Nat) : (s.reach n).points = s.points := rfl
@[simp] theorem State.reach_holds (n : Nat) : (s.reach n).holds = s.holds := rfl
@[simp] theorem State.reach_house (n : Nat) : (s.reach n).house = s.house := rfl
@[simp] theorem State.reach_boiler (n : Nat) : (s.reach n).boiler = s.boiler := rfl
@[simp] theorem State.reach_bus (n : Nat) : (s.reach n).bus = s.bus := rfl
@[simp] theorem State.reach_registry (n : Nat) : (s.reach n).registry = s.registry := rfl
@[simp] theorem State.reach_motor (n : Nat) : (s.reach n).motor = s.motor := rfl
@[simp] theorem State.reach_link (n : Nat) : (s.reach n).link = s.link := rfl
@[simp] theorem State.reach_pending (n : Nat) : (s.reach n).pending = s.pending := rfl

/-! ### takeEarly -/

@[simp] theorem State.takeEarly_time (k : TickTaken) : (s.takeEarly k).time =
    { s.time with now := max s.time.now (s.clock.minuteAt.getD s.time.now) } := rfl
@[simp] theorem State.takeEarly_clock (k : TickTaken) : (s.takeEarly k).clock = { s.clock with taken := k } := rfl
@[simp] theorem State.takeEarly_zones (k : TickTaken) : (s.takeEarly k).zones = s.zones := rfl
@[simp] theorem State.takeEarly_cylinder (k : TickTaken) : (s.takeEarly k).cylinder = s.cylinder := rfl
@[simp] theorem State.takeEarly_points (k : TickTaken) : (s.takeEarly k).points = s.points := rfl
@[simp] theorem State.takeEarly_holds (k : TickTaken) : (s.takeEarly k).holds = s.holds := rfl
@[simp] theorem State.takeEarly_house (k : TickTaken) : (s.takeEarly k).house = s.house := rfl
@[simp] theorem State.takeEarly_boiler (k : TickTaken) : (s.takeEarly k).boiler = s.boiler := rfl
@[simp] theorem State.takeEarly_bus (k : TickTaken) : (s.takeEarly k).bus = s.bus := rfl
@[simp] theorem State.takeEarly_registry (k : TickTaken) : (s.takeEarly k).registry = s.registry := rfl
@[simp] theorem State.takeEarly_motor (k : TickTaken) : (s.takeEarly k).motor = s.motor := rfl
@[simp] theorem State.takeEarly_link (k : TickTaken) : (s.takeEarly k).link = s.link := rfl
@[simp] theorem State.takeEarly_pending (k : TickTaken) : (s.takeEarly k).pending = s.pending := rfl

/-! ### tickUnless -/

@[simp] theorem State.tickUnless_true (f : State → State) : s.tickUnless true f = s := rfl
@[simp] theorem State.tickUnless_false (f : State → State) : s.tickUnless false f = f s := rfl

/-! ### raise -/

@[simp] theorem State.raise_time (n : Notice) : (s.raise n).time = s.time := rfl
@[simp] theorem State.raise_clock (n : Notice) : (s.raise n).clock = s.clock := rfl
@[simp] theorem State.raise_zones (n : Notice) : (s.raise n).zones = s.zones := rfl
@[simp] theorem State.raise_cylinder (n : Notice) : (s.raise n).cylinder = s.cylinder := rfl
@[simp] theorem State.raise_points (n : Notice) : (s.raise n).points = s.points := rfl
@[simp] theorem State.raise_holds (n : Notice) : (s.raise n).holds = s.holds := rfl
@[simp] theorem State.raise_house (n : Notice) : (s.raise n).house = s.house := rfl
@[simp] theorem State.raise_boiler (n : Notice) : (s.raise n).boiler = s.boiler := rfl
@[simp] theorem State.raise_bus (n : Notice) : (s.raise n).bus = s.bus := rfl
@[simp] theorem State.raise_registry (n : Notice) : (s.raise n).registry = s.registry := rfl
@[simp] theorem State.raise_motor (n : Notice) : (s.raise n).motor = s.motor := rfl
@[simp] theorem State.raise_link (n : Notice) : (s.raise n).link = { s.link with flags := s.link.flags ||| n.mask } := rfl
@[simp] theorem State.raise_pending (n : Notice) : (s.raise n).pending = s.pending := rfl

/-! ### setQueue -/

@[simp] theorem State.setQueue_time (q : List Entry) : (s.setQueue q).time = s.time := rfl
@[simp] theorem State.setQueue_clock (q : List Entry) : (s.setQueue q).clock = s.clock := rfl
@[simp] theorem State.setQueue_zones (q : List Entry) : (s.setQueue q).zones = s.zones := rfl
@[simp] theorem State.setQueue_cylinder (q : List Entry) : (s.setQueue q).cylinder = s.cylinder := rfl
@[simp] theorem State.setQueue_points (q : List Entry) : (s.setQueue q).points = s.points := rfl
@[simp] theorem State.setQueue_holds (q : List Entry) : (s.setQueue q).holds = s.holds := rfl
@[simp] theorem State.setQueue_house (q : List Entry) : (s.setQueue q).house = s.house := rfl
@[simp] theorem State.setQueue_boiler (q : List Entry) : (s.setQueue q).boiler = s.boiler := rfl
@[simp] theorem State.setQueue_bus (q : List Entry) : (s.setQueue q).bus = s.bus := rfl
@[simp] theorem State.setQueue_registry (q : List Entry) : (s.setQueue q).registry = s.registry := rfl
@[simp] theorem State.setQueue_motor (q : List Entry) : (s.setQueue q).motor = { s.motor with queue := q } := rfl
@[simp] theorem State.setQueue_link (q : List Entry) : (s.setQueue q).link = s.link := rfl
@[simp] theorem State.setQueue_pending (q : List Entry) : (s.setQueue q).pending = s.pending := rfl

/-! ### setBus -/

@[simp] theorem State.setBus_time (b : Bus) : (s.setBus b).time = s.time := rfl
@[simp] theorem State.setBus_clock (b : Bus) : (s.setBus b).clock = s.clock := rfl
@[simp] theorem State.setBus_zones (b : Bus) : (s.setBus b).zones = s.zones := rfl
@[simp] theorem State.setBus_cylinder (b : Bus) : (s.setBus b).cylinder = s.cylinder := rfl
@[simp] theorem State.setBus_points (b : Bus) : (s.setBus b).points = s.points := rfl
@[simp] theorem State.setBus_holds (b : Bus) : (s.setBus b).holds = s.holds := rfl
@[simp] theorem State.setBus_house (b : Bus) : (s.setBus b).house = s.house := rfl
@[simp] theorem State.setBus_boiler (b : Bus) : (s.setBus b).boiler = s.boiler := rfl
@[simp] theorem State.setBus_bus (b : Bus) : (s.setBus b).bus = b := rfl
@[simp] theorem State.setBus_registry (b : Bus) : (s.setBus b).registry = s.registry := rfl
@[simp] theorem State.setBus_motor (b : Bus) : (s.setBus b).motor = s.motor := rfl
@[simp] theorem State.setBus_link (b : Bus) : (s.setBus b).link = s.link := rfl
@[simp] theorem State.setBus_pending (b : Bus) : (s.setBus b).pending = s.pending := rfl

/-! ### setRegistry -/

@[simp] theorem State.setRegistry_time (r : Registry) : (s.setRegistry r).time = s.time := rfl
@[simp] theorem State.setRegistry_clock (r : Registry) : (s.setRegistry r).clock = s.clock := rfl
@[simp] theorem State.setRegistry_zones (r : Registry) : (s.setRegistry r).zones = s.zones := rfl
@[simp] theorem State.setRegistry_cylinder (r : Registry) : (s.setRegistry r).cylinder = s.cylinder := rfl
@[simp] theorem State.setRegistry_points (r : Registry) : (s.setRegistry r).points = s.points := rfl
@[simp] theorem State.setRegistry_holds (r : Registry) : (s.setRegistry r).holds = s.holds := rfl
@[simp] theorem State.setRegistry_house (r : Registry) : (s.setRegistry r).house = s.house := rfl
@[simp] theorem State.setRegistry_boiler (r : Registry) : (s.setRegistry r).boiler = s.boiler := rfl
@[simp] theorem State.setRegistry_bus (r : Registry) : (s.setRegistry r).bus = s.bus := rfl
@[simp] theorem State.setRegistry_registry (r : Registry) : (s.setRegistry r).registry = r := rfl
@[simp] theorem State.setRegistry_motor (r : Registry) : (s.setRegistry r).motor = s.motor := rfl
@[simp] theorem State.setRegistry_link (r : Registry) : (s.setRegistry r).link = s.link := rfl
@[simp] theorem State.setRegistry_pending (r : Registry) : (s.setRegistry r).pending = s.pending := rfl

/-! ### setBoiler -/

@[simp] theorem State.setBoiler_time (b : Boiler) : (s.setBoiler b).time = s.time := rfl
@[simp] theorem State.setBoiler_clock (b : Boiler) : (s.setBoiler b).clock = s.clock := rfl
@[simp] theorem State.setBoiler_zones (b : Boiler) : (s.setBoiler b).zones = s.zones := rfl
@[simp] theorem State.setBoiler_cylinder (b : Boiler) : (s.setBoiler b).cylinder = s.cylinder := rfl
@[simp] theorem State.setBoiler_points (b : Boiler) : (s.setBoiler b).points = s.points := rfl
@[simp] theorem State.setBoiler_holds (b : Boiler) : (s.setBoiler b).holds = s.holds := rfl
@[simp] theorem State.setBoiler_house (b : Boiler) : (s.setBoiler b).house = s.house := rfl
@[simp] theorem State.setBoiler_boiler (b : Boiler) : (s.setBoiler b).boiler = b := rfl
@[simp] theorem State.setBoiler_bus (b : Boiler) : (s.setBoiler b).bus = s.bus := rfl
@[simp] theorem State.setBoiler_registry (b : Boiler) : (s.setBoiler b).registry = s.registry := rfl
@[simp] theorem State.setBoiler_motor (b : Boiler) : (s.setBoiler b).motor = s.motor := rfl
@[simp] theorem State.setBoiler_link (b : Boiler) : (s.setBoiler b).link = s.link := rfl
@[simp] theorem State.setBoiler_pending (b : Boiler) : (s.setBoiler b).pending = s.pending := rfl

/-! ### setHouse -/

@[simp] theorem State.setHouse_time (h : House) : (s.setHouse h).time = s.time := rfl
@[simp] theorem State.setHouse_clock (h : House) : (s.setHouse h).clock = s.clock := rfl
@[simp] theorem State.setHouse_zones (h : House) : (s.setHouse h).zones = s.zones := rfl
@[simp] theorem State.setHouse_cylinder (h : House) : (s.setHouse h).cylinder = s.cylinder := rfl
@[simp] theorem State.setHouse_points (h : House) : (s.setHouse h).points = s.points := rfl
@[simp] theorem State.setHouse_holds (h : House) : (s.setHouse h).holds = s.holds := rfl
@[simp] theorem State.setHouse_house (h : House) : (s.setHouse h).house = h := rfl
@[simp] theorem State.setHouse_boiler (h : House) : (s.setHouse h).boiler = s.boiler := rfl
@[simp] theorem State.setHouse_bus (h : House) : (s.setHouse h).bus = s.bus := rfl
@[simp] theorem State.setHouse_registry (h : House) : (s.setHouse h).registry = s.registry := rfl
@[simp] theorem State.setHouse_motor (h : House) : (s.setHouse h).motor = s.motor := rfl
@[simp] theorem State.setHouse_link (h : House) : (s.setHouse h).link = s.link := rfl
@[simp] theorem State.setHouse_pending (h : House) : (s.setHouse h).pending = s.pending := rfl

/-! ### setLink -/

@[simp] theorem State.setLink_time (l : Link) : (s.setLink l).time = s.time := rfl
@[simp] theorem State.setLink_clock (l : Link) : (s.setLink l).clock = s.clock := rfl
@[simp] theorem State.setLink_zones (l : Link) : (s.setLink l).zones = s.zones := rfl
@[simp] theorem State.setLink_cylinder (l : Link) : (s.setLink l).cylinder = s.cylinder := rfl
@[simp] theorem State.setLink_points (l : Link) : (s.setLink l).points = s.points := rfl
@[simp] theorem State.setLink_holds (l : Link) : (s.setLink l).holds = s.holds := rfl
@[simp] theorem State.setLink_house (l : Link) : (s.setLink l).house = s.house := rfl
@[simp] theorem State.setLink_boiler (l : Link) : (s.setLink l).boiler = s.boiler := rfl
@[simp] theorem State.setLink_bus (l : Link) : (s.setLink l).bus = s.bus := rfl
@[simp] theorem State.setLink_registry (l : Link) : (s.setLink l).registry = s.registry := rfl
@[simp] theorem State.setLink_motor (l : Link) : (s.setLink l).motor = s.motor := rfl
@[simp] theorem State.setLink_link (l : Link) : (s.setLink l).link = l := rfl
@[simp] theorem State.setLink_pending (l : Link) : (s.setLink l).pending = s.pending := rfl

/-! ### returnToken -/

@[simp] theorem State.returnToken_time : (s.returnToken).time = s.time := rfl
@[simp] theorem State.returnToken_clock : (s.returnToken).clock = s.clock := rfl
@[simp] theorem State.returnToken_zones : (s.returnToken).zones = s.zones := rfl
@[simp] theorem State.returnToken_cylinder : (s.returnToken).cylinder = s.cylinder := rfl
@[simp] theorem State.returnToken_points : (s.returnToken).points = s.points := rfl
@[simp] theorem State.returnToken_holds : (s.returnToken).holds = s.holds := rfl
@[simp] theorem State.returnToken_house : (s.returnToken).house = s.house := rfl
@[simp] theorem State.returnToken_boiler : (s.returnToken).boiler = s.boiler := rfl
@[simp] theorem State.returnToken_bus : (s.returnToken).bus = s.bus := rfl
@[simp] theorem State.returnToken_registry : (s.returnToken).registry = s.registry := rfl
@[simp] theorem State.returnToken_motor : (s.returnToken).motor = { s.motor with outstanding := s.motor.outstanding - 1 } := rfl
@[simp] theorem State.returnToken_link : (s.returnToken).link = s.link := rfl
@[simp] theorem State.returnToken_pending : (s.returnToken).pending = s.pending := rfl

/-! ### hold -/

@[simp] theorem State.hold_time (r : Response) : (s.hold r).time = s.time := rfl
@[simp] theorem State.hold_clock (r : Response) : (s.hold r).clock = s.clock := rfl
@[simp] theorem State.hold_zones (r : Response) : (s.hold r).zones = s.zones := rfl
@[simp] theorem State.hold_cylinder (r : Response) : (s.hold r).cylinder = s.cylinder := rfl
@[simp] theorem State.hold_points (r : Response) : (s.hold r).points = s.points := rfl
@[simp] theorem State.hold_holds (r : Response) : (s.hold r).holds = s.holds := rfl
@[simp] theorem State.hold_house (r : Response) : (s.hold r).house = s.house := rfl
@[simp] theorem State.hold_boiler (r : Response) : (s.hold r).boiler = s.boiler := rfl
@[simp] theorem State.hold_bus (r : Response) : (s.hold r).bus = s.bus := rfl
@[simp] theorem State.hold_registry (r : Response) : (s.hold r).registry = s.registry := rfl
@[simp] theorem State.hold_motor (r : Response) : (s.hold r).motor = s.motor := rfl
@[simp] theorem State.hold_link (r : Response) : (s.hold r).link = { s.link with held := r } := rfl
@[simp] theorem State.hold_pending (r : Response) : (s.hold r).pending = s.pending := rfl

/-! ### Records after an update -/

@[simp] theorem State.setZone_zone (z y : Fin 16) (r : Zone) :
    (s.setZone z r).zone y = if z = y then r else s.zone y := by
  simp [State.zone, Vector.getElem_set, Fin.ext_iff]

@[simp] theorem State.setDevice_device (i j : Fin 48) (d : Option Device) :
    (s.setDevice i d).device j = if i = j then d else s.device j := by
  simp [State.device, Vector.getElem_set, Fin.ext_iff]

@[simp] theorem State.setStack_stackOf (z y : Fin 17) (l : List Hold) :
    (s.setStack z l).stackOf y = if z = y then l else s.stackOf y := by
  simp [State.stackOf, Vector.getElem_set, Fin.ext_iff]

@[simp] theorem State.setPoints_pointsOf (z y : Fin 17) (l : List Point) :
    (s.setPoints z l).pointsOf y = if z = y then l else s.pointsOf y := by
  simp [State.pointsOf, Vector.getElem_set, Fin.ext_iff]

end Sys2Proof.Machine
end

