-- ==== Sys2Proof/Laws/Settles.lean ====
section
/-! SUPPORT. What the attached evaluations may write, said once: `evaluate` and `evaluateFrom` settle the state they
are given, and the hand of a target writes nothing but the next target and the motor queue. -/

namespace Sys2Proof.Machine

theorem State.settlesTo_refl (s : State) : s.SettlesTo s := ⟨rfl, fun _ => rfl⟩

theorem State.SettlesTo.trans {s t u : State} (h : s.SettlesTo t) (k : t.SettlesTo u) : s.SettlesTo u := by
  obtain ⟨h1, h2⟩ := h
  obtain ⟨k1, k2⟩ := k
  refine ⟨?_, fun i => (k2 i).trans (h2 i)⟩
  rw [k1, h1]

/-! ### The pieces of an evaluation -/

/-- Writing a device back with another target or next target settles. -/
theorem State.settlesTo_setDevice {s : State} {i : Fin 48} {d e : Device} (hd : s.device i = some d)
    (he : e.kept = d.kept) : s.SettlesTo (s.setDevice i (some e)) := by
  refine ⟨rfl, fun j => ?_⟩
  by_cases h : i = j
  · subst h; simp [hd, he]
  · simp [h]

theorem State.settlesTo_setQueue (s : State) (q : List Entry) : s.SettlesTo (s.setQueue q) := ⟨rfl, fun _ => rfl⟩

/-- The hand of a target (R180) writes the motor queue or the valve's next target. -/
theorem State.settlesTo_hand (s : State) (i : Fin 48) (t : Int) (c : Class) : s.SettlesTo (s.hand i t c) := by
  unfold State.hand
  cases hd : s.device i with
  | none => exact s.settlesTo_refl
  | some d =>
    simp only
    split
    · split
      · exact State.settlesTo_setDevice hd rfl
      · split <;> exact s.settlesTo_setQueue _
      · exact s.settlesTo_setQueue _
    · exact s.settlesTo_refl

theorem State.settlesTo_setTarget (s : State) (i : Fin 48) (t : Int) : s.SettlesTo (s.setTarget i t) := by
  unfold State.setTarget
  cases hd : s.device i with
  | none => exact s.settlesTo_refl
  | some d => exact State.settlesTo_setDevice hd rfl

theorem State.settlesTo_setAndHand (c : Class) (t : Int) (s : State) (i : Fin 48) :
    s.SettlesTo (s.setAndHand c t i) :=
  (s.settlesTo_setTarget i t).trans (State.settlesTo_hand _ _ _ _)

/-- An operation that settles at each step settles over a list. -/
theorem State.settlesTo_foldl {α : Type} {f : State → α → State} (h : ∀ (s : State) (a : α), s.SettlesTo (f s a)) (l : List α)
    (s : State) : s.SettlesTo (l.foldl f s) := by
  induction l generalizing s with
  | nil => exact s.settlesTo_refl
  | cons a l ih => exact (h s a).trans (ih _)

/-! ### The evaluations -/

theorem State.settlesTo_evalCylinder (s : State) : s.SettlesTo s.evalCylinder := by
  unfold State.evalCylinder State.evalIdle State.toIdle State.evalIdle State.startCharge Cylinder.moveTo
  split
  · split <;> exact ⟨rfl, fun _ => rfl⟩
  · split
    · split <;> exact ⟨rfl, fun _ => rfl⟩
    · exact s.settlesTo_refl
  all_goals exact s.settlesTo_refl

/-- The reported check writes its result and nothing else: none out of force, kept under a firing burner that has one,
and else that of the positions as they stand (R121). -/
theorem State.evalReported_eq (s : State) : s.evalReported = s.setBoiler { s.boiler with
    reported := if s.checkInForce then
      (if s.boiler.burner = .firing ∧ s.boiler.reported.isSome then s.boiler.reported
        else some (s.checkHolds s.reportedOf)) else none } := by
  unfold State.evalReported
  repeat' split
  all_goals rfl

theorem State.settlesTo_evalReported (s : State) : s.SettlesTo s.evalReported := by
  rw [s.evalReported_eq]
  exact ⟨rfl, fun _ => rfl⟩

/-- A check brought into force under a firing burner keeps passing: its result alone is written. -/
theorem State.settlesTo_keepPassing (s : State) : s.SettlesTo s.keepPassing := by
  unfold State.keepPassing
  split
  · exact ⟨rfl, fun _ => rfl⟩
  · exact s.settlesTo_refl

theorem State.settlesTo_evalBurner (s : State) : s.SettlesTo s.evalBurner := by
  unfold State.evalBurner State.evalStart State.waitFor State.startBurner State.burnerOff Boiler.moveTo
  repeat' split
  all_goals first | exact s.settlesTo_refl | exact ⟨rfl, fun _ => rfl⟩

theorem State.settlesTo_evalPump (s : State) : s.SettlesTo s.evalPump := by
  unfold State.evalPump
  repeat' split
  all_goals first | exact s.settlesTo_refl | exact ⟨rfl, fun _ => rfl⟩

theorem State.settlesTo_forcing (s : State) (b : Bool) :
    s.SettlesTo (s.setBoiler { s.boiler with forcing := b }) := ⟨rfl, fun _ => rfl⟩

theorem State.settlesTo_beginForcing (s : State) : s.SettlesTo s.beginForcing := by
  unfold State.beginForcing
  split
  · exact (s.settlesTo_forcing true).trans (State.settlesTo_foldl (State.settlesTo_setAndHand _ _) _ _)
  · exact s.settlesTo_refl

theorem State.settlesTo_endForcing (s : State) : s.SettlesTo s.endForcing := by
  unfold State.endForcing
  split
  · exact (s.settlesTo_forcing false).trans (State.settlesTo_foldl (State.settlesTo_setAndHand _ _) _ _)
  · exact s.settlesTo_forcing false

theorem State.settlesTo_evalForcing (s : State) : s.SettlesTo s.evalForcing := by
  unfold State.evalForcing
  repeat' split
  all_goals first
    | exact s.settlesTo_refl
    | exact s.settlesTo_endForcing
    | exact s.settlesTo_beginForcing

theorem State.settlesTo_joinForcing (s : State) (i : Fin 48) : s.SettlesTo (s.joinForcing i) := by
  unfold State.joinForcing
  repeat' split
  all_goals first | exact s.settlesTo_refl | exact s.settlesTo_setAndHand _ _ _

/-- All evaluations together write nothing but what `SettlesTo` names. -/
theorem State.settlesTo_evaluate (s : State) : s.SettlesTo s.evaluate := by
  unfold State.evaluate
  split
  · exact (((((s.settlesTo_evalCylinder).trans (State.settlesTo_evalReported _)).trans
      (State.settlesTo_evalBurner _)).trans (State.settlesTo_evalReported _)).trans
      (State.settlesTo_evalPump _)).trans (State.settlesTo_evalForcing _)
  · exact s.settlesTo_refl

theorem State.settlesTo_evaluateFrom (s before : State) : s.SettlesTo (s.evaluateFrom before) := by
  unfold State.evaluateFrom
  split
  · exact s.settlesTo_refl
  · exact s.settlesTo_evaluate

/-! ### Blocks that settling keeps -/

variable {s t : State}

theorem State.SettlesTo.time (h : s.SettlesTo t) : t.time = s.time := by rw [h.1]
theorem State.SettlesTo.clock (h : s.SettlesTo t) : t.clock = s.clock := by rw [h.1]
theorem State.SettlesTo.zones (h : s.SettlesTo t) : t.zones = s.zones := by rw [h.1]
theorem State.SettlesTo.points (h : s.SettlesTo t) : t.points = s.points := by rw [h.1]
theorem State.SettlesTo.holds (h : s.SettlesTo t) : t.holds = s.holds := by rw [h.1]
theorem State.SettlesTo.house (h : s.SettlesTo t) : t.house = s.house := by rw [h.1]
theorem State.SettlesTo.bus (h : s.SettlesTo t) : t.bus = s.bus := by rw [h.1]
theorem State.SettlesTo.link (h : s.SettlesTo t) : t.link = s.link := by rw [h.1]
theorem State.SettlesTo.pending (h : s.SettlesTo t) : t.pending = s.pending := by rw [h.1]
theorem State.SettlesTo.order (h : s.SettlesTo t) : t.registry.order = s.registry.order := by rw [h.1]
theorem State.SettlesTo.outstanding (h : s.SettlesTo t) : t.motor.outstanding = s.motor.outstanding := by rw [h.1]

/-- A change of the Host Link alone goes through settling. -/
theorem State.SettlesTo.setLink (h : s.SettlesTo t) (l : Link) : (s.setLink l).SettlesTo (t.setLink l) := by
  obtain ⟨h1, h2⟩ := h
  refine ⟨?_, h2⟩
  conv_lhs => rw [h1]
  rfl

end Sys2Proof.Machine
end

