-- ==== Sys2Proof/Laws/Link.lean ====
section
/-! SUPPORT. What taking a host link frame does, said once: the frame is discarded, or its command is executed on the
received state and its answer held. -/

namespace Sys2Proof.Machine

theorem State.takeFrame_of_takes {s : State} (h : s.takes) (f : State → State) : s.takeFrame f = f s.closeFrame := by
  simp [State.takeFrame, h]

/-- A frame begun while READY was low changes nothing but that no frame is open (R197). -/
theorem State.takeFrame_discarded {s : State} (h : s.frameDiscarded = true) (f : State → State) :
    s.takeFrame f = s.closeFrame := by
  simp [State.takeFrame, h]

theorem State.closeFrame_goodFrame (s : State) (i : Instr) : s.closeFrame.goodFrame (frameBytes i) = s.received i := rfl

theorem State.hold_eq (s : State) (i : Instr) (a : Answer) :
    s.hold { echo := (frameBytes i).getD 0 0, result := a.result, payload := a.payload }
      = s.holding i a.result a.payload := rfl

/-- A command whose frame is taken (R196): its body runs on the received state, and its answer is held. -/
theorem State.command_of_takes {s : State} (h : s.takes) (i : Instr) (body : State → State × Answer) :
    s.command i body = (body (s.received i)).1.holding i (body (s.received i)).2.result (body (s.received i)).2.payload := by
  simp only [State.command, State.takeFrame_of_takes h]
  rfl

/-- A command whose frame is discarded (R197). -/
theorem State.command_discarded {s : State} (h : s.frameDiscarded = true) (i : Instr) (body : State → State × Answer) :
    s.command i body = s.closeFrame := by
  simp only [State.command, State.takeFrame_discarded h]

theorem fill_nil : fill [] = List.replicate 16 0 := rfl

theorem State.holding_setLink (s : State) (i : Instr) (r : Result) (p : List Byte) :
    s.holding i r p = s.setLink { s.link with held := { echo := (frameBytes i).getD 0 0, result := r, payload := p } } :=
  rfl

/-- Settling goes through holding an answer. -/
theorem State.SettlesTo.holding {s t : State} (h : s.SettlesTo t) (i : Instr) (r : Result) (p : List Byte) :
    (s.holding i r p).SettlesTo (t.holding i r p) := by
  rw [State.holding_setLink, State.holding_setLink, h.link]
  exact h.setLink _

end Sys2Proof.Machine
end

