-- ==== Sys2Proof/Laws/Values.lean ====
section
/-! SUPPORT. What the shared value operations give: the roundings of R1, clamping, fields written, levels, the
lists of points, holds and entries, and the zones that the flow check counts. -/

namespace Sys2Proof.Machine

/-! ### Rounding and clamping -/

/-- The floor is the integer with n within one divisor above it. -/
theorem floorDiv_spec {n d : Int} (h : 0 < d) : d * floorDiv n d ≤ n ∧ n < d * floorDiv n d + d := by
  have := Int.mul_ediv_add_emod n d
  have := Int.emod_nonneg n h.ne'
  have := Int.emod_lt_of_pos n h
  simp only [floorDiv]; omega

/-- The ceiling is the integer with n within one divisor below it. -/
theorem ceilDiv_spec {n d : Int} (h : 0 < d) : n ≤ d * ceilDiv n d ∧ d * ceilDiv n d < n + d := by
  have := floorDiv_spec (n := -n) h
  simp only [floorDiv] at this
  simp only [ceilDiv, mul_neg]; omega

/-- The nearest integer leaves at most half a divisor, a half below it alone. -/
theorem nearestUp_spec {n d : Int} (h : 0 < d) : 2 * (d * nearestUp n d) ≤ 2 * n + d ∧ 2 * n < 2 * (d * nearestUp n d) + d := by
  have := floorDiv_spec (n := 2 * n + d) (d := 2 * d) (by omega)
  simp only [floorDiv, mul_assoc] at this
  simp only [nearestUp]; omega

/-- Halves away from zero are symmetrical about zero. -/
theorem nearestAway_neg {n d : Int} (h : 0 < d) : nearestAway (-n) d = -nearestAway n d := by
  rcases lt_trichotomy n 0 with hn | rfl | hn
  · simp only [nearestAway, show ¬ 0 ≤ n by omega, show 0 ≤ -n by omega, ↓reduceIte, neg_neg]
  · have : d / (2 * d) = 0 := Int.ediv_eq_zero_of_lt (by omega) (by omega)
    simp [nearestAway, this]
  · simp only [nearestAway, show 0 ≤ n by omega, show ¬ 0 ≤ -n by omega, ↓reduceIte, neg_neg]

/-- Above zero halves away from zero are halves up. -/
theorem nearestAway_of_nonneg {n d : Int} (h : 0 ≤ n) : nearestAway n d = nearestUp n d := by
  simp [nearestAway, nearestUp, h]

theorem clamp_bounds {x a b : Int} (h : a ≤ b) : a ≤ clamp x a b ∧ clamp x a b ≤ b := by
  unfold clamp; split <;> [omega; split <;> omega]

theorem clamp_eq_max_min {x a b : Int} (h : a ≤ b) : clamp x a b = max a (min x b) := by
  unfold clamp; split <;> [omega; split <;> omega]

theorem clamp_eq_self {x a b : Int} : clamp x a b = x ↔ a ≤ x ∧ x ≤ b := by
  unfold clamp; split <;> [omega; split <;> omega]

/-! ### Fields of a write -/

/-- A field after a write lies in its range where the stored one did. -/
theorem takeItem_bounds {items : List Item} {code : Nat} {lo hi old : Int} (h : lo ≤ hi) (ho : lo ≤ old ∧ old ≤ hi) :
    lo ≤ takeItem items code lo hi old ∧ takeItem items code lo hi old ≤ hi := by
  unfold takeItem; split
  · exact clamp_bounds h
  · exact ho

/-- A field that no item carries keeps its value. -/
theorem takeItem_of_not_carried {items : List Item} {code : Nat} (lo hi old : Int) (h : carries items code = false) :
    takeItem items code lo hi old = old := by
  have : itemWord items code = none := by simpa [carries] using h
  simp [takeItem, item, this]

/-! ### Points -/

/-- A stored level lies in the range of its zone. -/
theorem storedLevel_ok (z : Fin 17) (v : Int) : levelOk z (storedLevel z v) = true := by
  unfold storedLevel; split
  · next h =>
    unfold cylinderLevel; split
    · simp [levelOk, h]
    · simpa [levelOk, h] using clamp_bounds (x := v) (by omega)
  · next h => simpa [roomLevel, levelOk, h] using clamp_bounds (x := v) (by omega)

/-- A new point stands behind those at or before its time. -/
theorem insertPoint_eq (p : Point) {l : List Point} (h : l.Pairwise (fun a b => a.time < b.time)) :
    insertPoint p l = l.filter (fun q => decide (q.time ≤ p.time)) ++ p :: l.filter (fun q => decide (p.time < q.time)) := by
  induction l with
  | nil => rfl
  | cons q l ih =>
    obtain ⟨hq, hl⟩ := List.pairwise_cons.1 h
    unfold insertPoint
    by_cases hp : p.time < q.time
    · have hall : ∀ x ∈ l, p.time < x.time := fun x hx => hp.trans (hq x hx)
      have hno : l.filter (fun x => decide (x.time ≤ p.time)) = [] :=
        List.filter_eq_nil_iff.2 fun x hx => by simpa using hall x hx
      have hyes : l.filter (fun x => decide (p.time < x.time)) = l :=
        List.filter_eq_self.2 fun x hx => by simpa using hall x hx
      simp [hp, hno, hyes]
    · simp [hp, ih hl, Nat.le_of_not_lt hp]

theorem mem_insertPoint {p q : Point} {l : List Point} : q ∈ insertPoint p l ↔ q = p ∨ q ∈ l := by
  induction l with
  | nil => simp [insertPoint]
  | cons r l ih => unfold insertPoint; split <;> simp [ih]; tauto

theorem length_insertPoint (p : Point) (l : List Point) : (insertPoint p l).length = l.length + 1 := by
  induction l with
  | nil => rfl
  | cons r l ih => unfold insertPoint; split <;> simp [ih]

/-- A list that rises strictly does so after a new time is inserted. -/
theorem pairwise_insertPoint {p : Point} {l : List Point} (h : l.Pairwise (fun a b => a.time < b.time))
    (hn : ∀ q ∈ l, q.time ≠ p.time) : (insertPoint p l).Pairwise (fun a b => a.time < b.time) := by
  induction l with
  | nil => simp [insertPoint]
  | cons q l ih =>
    obtain ⟨hq, hl⟩ := List.pairwise_cons.1 h
    unfold insertPoint
    by_cases hp : p.time < q.time
    · simp only [hp, ↓reduceIte, List.pairwise_cons, List.mem_cons, forall_eq_or_imp]
      exact ⟨⟨trivial, fun x hx => hp.trans (hq x hx)⟩, hq, hl⟩
    · simp only [hp, ↓reduceIte, List.pairwise_cons]
      refine ⟨fun x hx => ?_, ih hl fun x hx => hn x (List.mem_cons_of_mem _ hx)⟩
      have hne := hn q List.mem_cons_self
      rcases mem_insertPoint.1 hx with rfl | hx
      · omega
      · exact hq x hx

/-- The point in force is a point of the list. -/
theorem mem_of_inForce {l : List Point} {time : Option Nat} {p : Point} (h : inForce l time = some p) : p ∈ l := by
  unfold inForce at h
  cases time with
  | none => cases h
  | some t =>
    simp only at h
    split at h
    · next q hq => cases h; exact (List.mem_filter.1 (List.mem_of_getLast? hq)).1
    · exact List.mem_of_getLast? h

/-! ### Holds -/

/-- A minute leaves a hold as it is but for its countdown. -/
theorem countDown_spec {h g : Hold} (k : countDown h = some g) :
    g = { h with ending := g.ending } ∧
      ((∃ n, h.ending = .countdown n ∧ 1 < n ∧ g.ending = .countdown (n - 1)) ∨
        ((∀ n, h.ending ≠ .countdown n) ∧ g = h)) := by
  unfold countDown at k
  split at k
  · next n hn =>
    split at k
    · cases k
    · cases k; exact ⟨rfl, .inl ⟨n, hn, by omega, rfl⟩⟩
  · next hn => cases k; exact ⟨rfl, .inr ⟨hn, rfl⟩⟩

/-! ### Tables -/

/-- A change of a whole table changes each element. -/
@[simp] theorem mapTable_get {α : Type} {n : Nat} (f : α → α) (v : Vector α n) (i : Fin n) : (mapTable f v)[i] = f v[i] := by
  simp [mapTable]

/-! ### The announcement queue -/

theorem State.mem_announce (s : State) (y z : Fin 16) : y ∈ (s.announce z).bus.announce ↔ y = z ∨ y ∈ s.bus.announce := by
  unfold State.announce; split
  · next h => exact ⟨.inr, fun k => k.elim (fun e => e ▸ h) id⟩
  · simp [or_comm]

/-- A zone stands in the queue at most once. -/
theorem State.nodup_announce {s : State} (z : Fin 16) (h : s.bus.announce.Nodup) : (s.announce z).bus.announce.Nodup := by
  unfold State.announce; split
  · exact h
  · next hz => exact List.Nodup.append h (List.nodup_singleton z) (by simpa using hz)

/-! ### The motor queue -/

theorem mem_enqueue {q : List Entry} {e f : Entry} : f ∈ enqueue q e ↔ f = e ∨ f ∈ q := by
  unfold enqueue; split
  · simp only [List.mem_append, List.mem_cons, List.mem_filter, beq_iff_eq]
    rcases f.cls with _ | _ <;> (simp; try tauto)
  · simp [or_comm]

theorem mem_dequeue {q : List Entry} {i : Fin 48} {f : Entry} : f ∈ dequeue q i ↔ f ∈ q ∧ f.slot ≠ i := by
  simp [dequeue]

/-- URGENT entries stand before NORMAL ones after an entry takes its place at the tail of its class. -/
theorem pairwise_enqueue {q : List Entry} (e : Entry) (h : q.Pairwise (fun a b => b.cls = .urgent → a.cls = .urgent)) :
    (enqueue q e).Pairwise (fun a b => b.cls = .urgent → a.cls = .urgent) := by
  unfold enqueue; split
  · next he =>
    refine List.pairwise_append.2 ⟨h.filter _, List.pairwise_cons.2 ⟨fun b _ _ => he, h.filter _⟩, ?_⟩
    intro a ha b _ _
    simpa using (List.mem_filter.1 ha).2
  · next he =>
    refine List.pairwise_append.2 ⟨h, List.pairwise_singleton _ _, ?_⟩
    intro a _ b hb hu
    rw [List.mem_singleton.1 hb, he] at hu; cases hu

/-- A change in place keeps every entry of another valve and the order of the slots. -/
theorem map_slot_retarget (q : List Entry) (i : Fin 48) {f : Entry → Entry} (h : ∀ e, (f e).slot = e.slot) :
    (retarget q i f).map Entry.slot = q.map Entry.slot := by
  simp only [retarget, List.map_map]
  refine List.map_congr_left fun e _ => ?_
  simp only [Function.comp_apply]; split <;> simp [h]

/-! ### The zones that the flow check counts (R120, R94) -/

/-- Of a DISABLED zone only R120's own case is counted: the bypass zone with a counted valve. -/
theorem State.zoneCounted_of_disabled {s : State} {z : Fin 16} (h : (s.zone z).enabled = false) :
    s.zoneCounted z = (s.boiler.config.bypassZone == some z && !(s.valvesOf z).isEmpty) := by
  simp [State.zoneCounted, h]

/-- Any other DISABLED zone enters neither sum of the flow check (R94). -/
theorem State.zoneCounted_eq_false {s : State} {z : Fin 16} (h : (s.zone z).enabled = false)
    (hb : s.boiler.config.bypassZone ≠ some z) : s.zoneCounted z = false := by
  simp [State.zoneCounted_of_disabled h, hb]

/-- The bypass zone is counted exactly when it has a counted valve, enabled or DISABLED (R120). -/
theorem State.zoneCounted_bypass {s : State} {z : Fin 16} (h : s.boiler.config.bypassZone = some z) :
    s.zoneCounted z = !(s.valvesOf z).isEmpty := by
  simp [State.zoneCounted, h]

end Sys2Proof.Machine
end

