-- ==== Sys2Proof/Laws/Operations.lean ====
section
/-! SUPPORT. What each shared operation of the blocks may change, said once: the operation is an update of the fields
named on the right and of nothing else. -/

namespace Sys2Proof.Machine

/-! ### Zone Table, Setpoint Resolver and announcement queue -/

/-- What resolving zones may write: room zone records, ZW's target and source, and the announcement queue. -/
abbrev State.ResolvesTo (s t : State) : Prop :=
  t = { s with
    zones := t.zones
    cylinder := { s.cylinder with target := t.cylinder.target, source := t.cylinder.source }
    bus := { s.bus with announce := t.bus.announce } }

theorem State.resolvesTo_refl (s : State) : s.ResolvesTo s := rfl

theorem State.ResolvesTo.trans {s t u : State} (h : s.ResolvesTo t) (k : t.ResolvesTo u) : s.ResolvesTo u := by
  refine Eq.trans k ?_
  rw [h]

section
variable {s t : State}

theorem State.ResolvesTo.time (h : s.ResolvesTo t) : t.time = s.time := by rw [h]
theorem State.ResolvesTo.clock (h : s.ResolvesTo t) : t.clock = s.clock := by rw [h]
theorem State.ResolvesTo.points (h : s.ResolvesTo t) : t.points = s.points := by rw [h]
theorem State.ResolvesTo.holds (h : s.ResolvesTo t) : t.holds = s.holds := by rw [h]
theorem State.ResolvesTo.house (h : s.ResolvesTo t) : t.house = s.house := by rw [h]
theorem State.ResolvesTo.boiler (h : s.ResolvesTo t) : t.boiler = s.boiler := by rw [h]
theorem State.ResolvesTo.registry (h : s.ResolvesTo t) : t.registry = s.registry := by rw [h]
theorem State.ResolvesTo.motor (h : s.ResolvesTo t) : t.motor = s.motor := by rw [h]
theorem State.ResolvesTo.link (h : s.ResolvesTo t) : t.link = s.link := by rw [h]
theorem State.ResolvesTo.pending (h : s.ResolvesTo t) : t.pending = s.pending := by rw [h]

end

theorem State.resolvesTo_foldl {α : Type} {f : State → α → State} (h : ∀ (s : State) (a : α), s.ResolvesTo (f s a))
    (l : List α) (s : State) : s.ResolvesTo (l.foldl f s) := by
  induction l generalizing s with
  | nil => exact s.resolvesTo_refl
  | cons a l ih => exact (h s a).trans (ih _)

theorem State.resolvesTo_announce (s : State) (z : Fin 16) : s.ResolvesTo (s.announce z) := by
  unfold State.announce; split <;> rfl

theorem State.resolvesTo_announceAll (s : State) : s.ResolvesTo s.announceAll := by
  unfold State.announceAll
  generalize rooms = l
  exact State.resolvesTo_foldl State.resolvesTo_announce l s

theorem State.resolvesTo_setZone (s : State) (z : Fin 16) (r : Zone) : s.ResolvesTo (s.setZone z r) := rfl

theorem State.resolvesTo_resolveRoom (s : State) (z : Fin 16) : s.ResolvesTo (s.resolveRoom z) := by
  unfold State.resolveRoom; dsimp only; split
  · rfl
  · exact (s.resolvesTo_setZone z _).trans (State.resolvesTo_announce _ z)

theorem State.resolvesTo_resolveRooms (s : State) : s.ResolvesTo s.resolveRooms := by
  unfold State.resolveRooms
  generalize rooms = l
  exact State.resolvesTo_foldl State.resolvesTo_resolveRoom l s

theorem State.resolvesTo_resolveCylinder (s : State) : s.ResolvesTo s.resolveCylinder := rfl

theorem State.resolvesTo_resolveAll (s : State) : s.ResolvesTo s.resolveAll :=
  s.resolvesTo_resolveRooms.trans (State.resolvesTo_resolveCylinder _)

theorem State.resolvesTo_resolve (s : State) (z : Fin 17) : s.ResolvesTo (s.resolve z) := by
  unfold State.resolve; split
  · exact s.resolvesTo_resolveRoom _
  · exact s.resolvesTo_resolveCylinder

@[simp] theorem State.announce_zones (s : State) (z : Fin 16) : (s.announce z).zones = s.zones := by
  unfold State.announce; split <;> rfl

/-- Resolving a room zone stores its setpoint and source (R38). -/
theorem State.resolveRoom_zones (s : State) (z : Fin 16) : (s.resolveRoom z).zones =
    s.zones.set z { s.zone z with setpoint := s.roomSetpoint z, source := (s.roomCandidate z).2 } := by
  unfold State.resolveRoom; dsimp only; split
  · rfl
  · rw [State.announce_zones]; rfl

theorem State.resolveRoom_zone (s : State) (y z : Fin 16) :
    (s.resolveRoom z).zone y =
      if y = z then { s.zone z with setpoint := s.roomSetpoint z, source := (s.roomCandidate z).2 } else s.zone y := by
  simp only [State.zone, State.resolveRoom_zones, Fin.getElem_fin, Vector.getElem_set, Fin.ext_iff]
  split <;> split <;> simp_all

/-- What the resolution of a zone reads lies outside the other zones' records and outside the queue. -/
theorem State.roomCandidate_congr {s t : State} {z : Fin 16} (hz : (t.zone z).config = (s.zone z).config)
    (hh : t.house = s.house) (hs : t.holds = s.holds) (hp : t.points = s.points) (hc : t.clock = s.clock) :
    t.roomCandidate z = s.roomCandidate z := by
  simp only [State.roomCandidate, State.roomScheduled, State.pointInForce, State.pointsOf, State.stackOf, hz, hh, hs, hp, hc]

theorem State.roomSetpoint_congr {s t : State} {z : Fin 16} (hz : (t.zone z).config = (s.zone z).config)
    (hh : t.house = s.house) (hs : t.holds = s.holds) (hp : t.points = s.points) (hc : t.clock = s.clock) :
    t.roomSetpoint z = s.roomSetpoint z := by
  simp only [State.roomSetpoint, State.roomCandidate_congr hz hh hs hp hc, hz]

/-- Every room zone takes the setpoint and source that its inputs give before the resolution (R38, R40). -/
theorem State.resolveRooms_zone (s : State) (y : Fin 16) :
    s.resolveRooms.zone y =
      { s.zone y with setpoint := s.roomSetpoint y, source := (s.roomCandidate y).2 } := by
  have h : ∀ (l : List (Fin 16)), l.Nodup → ∀ (t : State), (l.foldl State.resolveRoom t).zone y =
      if y ∈ l then { t.zone y with setpoint := t.roomSetpoint y, source := (t.roomCandidate y).2 } else t.zone y := by
    intro l; induction l with
    | nil => intro _ t; simp
    | cons z l ih =>
      intro hn t
      rw [List.nodup_cons] at hn
      rw [List.foldl_cons, ih hn.2]
      have hc : ((t.resolveRoom z).zone y).config = (t.zone y).config := by
        rw [State.resolveRoom_zone]; split
        · next e => rw [e]
        · rfl
      have e := t.resolvesTo_resolveRoom z
      have hs := State.roomSetpoint_congr hc e.house e.holds e.points e.clock
      have hk := State.roomCandidate_congr hc e.house e.holds e.points e.clock
      rw [hs, hk, State.resolveRoom_zone]
      by_cases hy : y = z
      · subst hy; simp [hn.1]
      · simp [hy]
  have := h rooms (List.nodup_finRange 16) s
  simpa [State.resolveRooms, rooms, List.mem_finRange] using this

theorem State.resolveAll_zone (s : State) (y : Fin 16) :
    s.resolveAll.zone y = { s.zone y with setpoint := s.roomSetpoint y, source := (s.roomCandidate y).2 } := by
  rw [← s.resolveRooms_zone y]
  unfold State.resolveAll
  generalize s.resolveRooms = t
  rfl

/-! ### Hold Stacks -/

/-- A push puts a hold on top of one stack, advances the two counters and may raise HOLD_DISPLACED (R46, R48). -/
theorem State.push_eq (s : State) (z : Fin 17) (v : Int) (e : EndKind) (o : Origin) (r : Bool) :
    s.push z v e o r = { s with
      holds := {
        stack := s.holds.stack.set z ({
          handle := s.newHandle, setpoint := s.holdRange z v, ending := e, origin := o, retain := r
          pushed := s.holds.pushes } :: (s.stackOf z).take 3)
        handles := nextHandle s.newHandle
        pushes := (s.holds.pushes + 1) % 4294967296 }
      link := { s.link with flags :=
        if 4 ≤ (s.stackOf z).length then s.link.flags ||| Notice.holdDisplaced.mask else s.link.flags } } := by
  unfold State.push State.raiseIf; dsimp only
  by_cases h : 4 ≤ (s.stackOf z).length
  · rw [if_pos (decide_eq_true h), if_pos h]; rfl
  · rw [if_neg (by simpa using h), if_neg h]; rfl

/-! ### House Mode Unit -/

/-- A change of mode raises MODE_CHANGED, stores mode and countdown, and resolves (R64, R67, R69). -/
theorem State.resolvesTo_changeMode (s : State) (m : Mode) (c : Option Nat) :
    State.ResolvesTo ((s.setHouse { s.house with mode := m, countdown := c }).raise .modeChanged) (s.changeMode m c) := by
  unfold State.changeMode
  generalize (s.setHouse _).raise _ = t
  exact t.resolvesTo_announceAll.trans (State.resolvesTo_resolveAll _)

/-- A wake that takes effect changes the mode to OCCUPIED; any other changes nothing (R69). -/
theorem State.wake_of_not {s : State} {c : WakeCause} (h : ¬(s.house.wakeEnabled c = true ∧ s.house.mode ≠ .occupied)) :
    s.wake c = s := if_neg h

/-! ### Device Registry and Motor Arbiter -/

theorem State.addMember_eq (s : State) (z : Option (Fin 16)) (k : DeviceKind) :
    s.addMember z k = { s with zones := (s.addMember z k).zones } := by
  unfold State.addMember; split <;> rfl

theorem State.dropMember_eq (s : State) (z : Option (Fin 16)) (k : DeviceKind) :
    s.dropMember z k = { s with zones := (s.dropMember z k).zones } := by
  unfold State.dropMember; split <;> rfl

theorem State.enterOrder_eq (s : State) (i : Fin 48) :
    s.enterOrder i = { s with registry := { s.registry with order := (s.enterOrder i).registry.order } } := by
  unfold State.enterOrder; split <;> rfl

theorem State.mem_enterOrder (s : State) (i j : Fin 48) :
    j ∈ (s.enterOrder i).registry.order ↔ j = i ∨ j ∈ s.registry.order := by
  unfold State.enterOrder; split
  · next h => exact ⟨.inr, fun k => k.elim (fun e => e ▸ h) id⟩
  · simp [State.setRegistry, or_comm]

theorem State.leaveOrder_eq (s : State) (i : Fin 48) :
    s.leaveOrder i = { s with registry := { s.registry with
      order := s.registry.order.filter (fun j => j != i)
      lastAssign := (s.leaveOrder i).registry.lastAssign } } := rfl

/-- The end of a grant without outcome writes one record and returns its token (R188). -/
theorem State.endGrant_eq (s : State) (i : Fin 48) (d : Device) :
    s.endGrant i d = { s.setDevice i (some { d with grant := none, next := none, exercisePhase := .none }) with
      motor := { s.motor with
        outstanding := if d.grant.isSome then s.motor.outstanding - 1 else s.motor.outstanding } } := by
  unfold State.endGrant
  split <;> rename_i h <;> simp [h, State.returnToken, State.setDevice]

theorem State.handNext_settles (s : State) (i : Fin 48) (n f : Option NextTarget) : s.SettlesTo (s.handNext i n f) := by
  unfold State.handNext; split
  · exact s.settlesTo_hand i _ _
  · exact s.settlesTo_hand i _ _
  · exact s.settlesTo_refl

/-- A revocation writes device records, the grants outstanding and the grant flag alone (R189). -/
theorem State.revoke_eq (s : State) :
    s.revoke = { s with
      registry := { s.registry with devices := s.revoke.registry.devices }
      motor := { s.motor with
        outstanding := 0
        grantFlag := if s.motor.outstanding = 0 then s.motor.grantFlag else false } } := by
  unfold State.revoke; split
  · next h => simp [← h]
  · rfl

theorem State.revoke_device (s : State) (i : Fin 48) (h : s.motor.outstanding ≠ 0) :
    s.revoke.device i = (s.device i).map Device.revoked := by
  unfold State.revoke; rw [if_neg h]; exact mapTable_get _ _ i

/-! ### Field Bus Controller -/

/-- A new cycle writes the bus and clears the records' flag `fresh` (R146, R161). -/
theorem State.newCycle_eq (s : State) :
    s.newCycle = { s with
      bus := (s.bus.newCycle s.time.now).countStart
      registry := { s.registry with devices := s.newCycle.registry.devices } } := rfl

theorem State.newCycle_device (s : State) (i : Fin 48) : s.newCycle.device i = (s.device i).map Device.settled :=
  mapTable_get _ _ i

theorem State.setJoins_eq (s : State) (l : List JoinEntry) :
    s.setJoins l = { s with bus := { s.bus with joins := l, lastEntry := (s.setJoins l).bus.lastEntry } } := rfl

/-- A new serial touches the join list, the last number issued and the notice flags alone (R164). -/
theorem State.newJoin_eq (s : State) (serial : BitVec 32) (k : DeviceKind) :
    s.newJoin serial k = { s with
      bus := { s.bus with
        joins := (s.newJoin serial k).bus.joins, lastEntry := (s.newJoin serial k).bus.lastEntry }
      link := { s.link with flags := (s.newJoin serial k).link.flags } } := by
  unfold State.newJoin; split <;> rfl

end Sys2Proof.Machine
end

