-- ==== Sys2Proof/Tests/Slice0.lean ====
section
/-! SUPPORT. Tests: what well-formedness refuses, frames and telegrams written out byte by byte, the spec's worked
examples, and for each statement with hypotheses a state and operands that meet those of each clause (the theorems
`met_<statement>`, in the order of the clauses). -/

namespace Sys2Proof.Tests

-- Each test is evaluated by the kernel; one after the other, so that they share a thread.
set_option Elab.async false

open Sys2Proof Sys2Proof.Machine

/-! ### States to test on -/

/-- READY is set, the clock reads Monday 10:00, nothing is configured. -/
def live : State := { State.reset with
  time := { TimeBase.reset with
    now := 1000, resetn := true, ready := true, released := some 0, controlAt := some 30000, sampleAt := some 10020
    ticking := [0, 1] }
  clock := { Clock.reset with timeOfWeek := some 600, minuteAt := some 60000 } }

/-- An ACTIVE device of a kind bound to zone 0. -/
def device (serial : Nat) (kind : DeviceKind) : Device :=
  { Device.admitted { number := 1, serial := BitVec.ofNat 32 serial, kind, sightings := 1, age := 0 } (some 0) with
    state := .active, fresh := false }

def valve : Device := { device 7 .valveHead with commanded := some 20, target := 20 }
def unit : Device := device 8 .roomUnit

/-- A grant of a POSITION run to 60. -/
def grant (running : Bool) : Grant :=
  { running, target := 60, kind := .position, cls := .normal, issued := 0, mark := false }

/-- A RUNNING line with one device at slot 5, address 6, whose answer is awaited. -/
def answering (d : Device) : State :=
  let s := live.setDevice 5 (some d)
  { s with bus := { s.bus with line := .running, part := .slot 5, answer := some 5 } }

/-- One POSITION entry for slot 5. -/
def entry : Entry := { slot := 5, kind := .position, target := 60, cls := .normal }

def queued (s : State) (q : List Entry) : State := { s with motor := { s.motor with queue := q } }
def burning (s : State) (b : Burner) : State := { s with boiler := { s.boiler with burner := b } }
def onLine (s : State) (l : Line) : State := { s with bus := { s.bus with line := l } }
def inMode (s : State) (m : Mode) : State := { s with house := { s.house with mode := m } }
def charging (s : State) (c : CylinderState) : State := { s with cylinder := { s.cylinder with state := c } }
def asleep (s : State) : State := { s with time := { s.time with ready := false } }
def joins (s : State) (n age : Nat) : State := { s with bus := { s.bus with
  joins := (List.range n).map (fun k =>
    { number := k + 1, serial := BitVec.ofNat 32 (k + 1), kind := .valveHead, sightings := 1, age })
  lastEntry := n } }

/-- A hold of 21.0 °C with this handle. -/
def hold (handle : Nat) (ending : EndKind) : Hold :=
  { handle, setpoint := 210, ending, origin := .link, retain := false, pushed := 0 }

/-- Zone 0 has a countdown hold in its last minute above an indefinite one. -/
def held : State := live.setStack 0 [hold 9 (.countdown 1), hold 8 .indefinite]

/-- Zone 0 has points at 6:40, 10:00 and 22:00. -/
def programmed : State := live.setPoints 0
  [{ time := 400, level := .deg 200 }, { time := 600, level := .deg 180 }, { time := 1320, level := .deg 160 }]

/-- Items of one or more (code, value) pairs. -/
def items (l : List (Nat × Int)) : List Item :=
  l.map (fun p => { code := BitVec.ofNat 8 p.1, value := BitVec.ofInt 16 p.2 })

/-- The state after a command or event. -/
def after (s : State) (i : Instr) : State :=
  match exec i s with
  | .next t => t
  | .fault _ => s
  | .refused _ => s

/-! ### Well-formedness refuses -/

theorem wf_refuses_six_items :
    (Instr.writeHouse 0 (items [(3, 1), (4, 1), (5, 1), (6, 1), (8, 1), (9, 1)])).wf = false := by decide +kernel
theorem wf_refuses_empty_item : (Instr.writeHouse 0 (items [(0, 1)])).wf = false := by decide +kernel
theorem wf_refuses_enable_alone : (Instr.writeZone 3 (items [(16, 1)])).wf = false := by decide +kernel
theorem wf_refuses_short_frame_of_20 : (Instr.shortFrame (List.replicate 20 0)).wf = false := by decide +kernel
theorem wf_refuses_good_crc : (Instr.frameCrcError (withCrc (List.replicate 19 0))).wf = false := by decide +kernel
theorem wf_refuses_crc_error_of_19 : (Instr.frameCrcError (List.replicate 19 1)).wf = false := by decide +kernel
theorem wf_refuses_zone_of_other_kind : (Instr.read .hold 1 1 1 3).wf = false := by decide +kernel
theorem wf_refuses_handle_zero : (Instr.holdCountdownExpiry 0).wf = false := by decide +kernel
theorem wf_refuses_entry_number_65536 : (Instr.joinEntryExpiry 65536).wf = false := by decide +kernel
theorem wf_refuses_good_command_as_bad : (Instr.badCommand 1 1).wf = false := by decide +kernel

/-! ### Frames byte by byte (section 11.7) -/

theorem test_decode_nop : Frame.decode
    [0x00, 0, 0, 0, 0, 0, 0, 0, 0, 0, 0, 0, 0, 0, 0, 0, 0, 0, 0, 0x17] = .nop := by decide +kernel
theorem test_decode_read : Frame.decode
    [0x01, 0x01, 0x00, 0x01, 1, 1, 0, 0, 0, 0, 0, 0, 0, 0, 0, 0, 0, 0, 0, 0x34] = .read .zone 1 1 1 0 := by decide +kernel
theorem test_decode_create_hold : Frame.decode
    [0x03, 0x03, 0x00, 0x00, 2, 0, 1, 3, 0, 210, 4, 0, 1, 5, 0, 30, 7, 0, 0, 0x73] =
      .createHold [⟨2, 1⟩, ⟨3, 210⟩, ⟨4, 1⟩, ⟨5, 30⟩, ⟨7, 0⟩] := by decide +kernel
theorem test_decode_enable : Frame.decode
    [0x02, 0x01, 0x00, 0x05, 16, 0, 1, 0, 0, 0, 0, 0, 0, 0, 0, 0, 0, 0, 0, 0x44] = .enable 5 := by decide +kernel
theorem test_decode_admit : Frame.decode
    [0x07, 0x00, 0x00, 0x00, 0x12, 0x34, 0x56, 0x78, 255, 0, 0, 0, 0, 0, 0, 0, 0, 0, 0, 0x6F] =
      .admitDevice 0x12345678 255 := by decide +kernel
theorem test_decode_bad_command : Frame.decode
    [0x10, 0x00, 0x00, 0x00, 0, 0, 0, 0, 0, 0, 0, 0, 0, 0, 0, 0, 0, 0, 0, 0xF8] = .badCommand 0x10 0 := by decide +kernel
theorem test_decode_crc_error : Frame.decode (List.replicate 20 1) = .frameCrcError (List.replicate 20 1) := by decide +kernel

/-- No row of the table gives bits. -/
theorem test_no_row_has_bits : decodeTableWord 160 0 = none := by decide +kernel

/-! ### The hypotheses of each statement are met -/

theorem met_StepTakesFront :
    ({ live with pending := [.nop, .run] }).pending = [.nop, .run] ∧ live.pending = [] := by decide +kernel

theorem met_FrameRoundTrip :
    (Instr.createHold (items [(2, 1), (3, 210), (4, 1), (5, 30), (7, 0)])).wf = true ∧
    (Frame.encode (.createHold (items [(2, 1), (3, 210), (4, 1), (5, 30), (7, 0)]))).isSome ∧
    (Instr.shortFrame (List.replicate 19 1)).wf = true ∧ (Frame.encode (.shortFrame (List.replicate 19 1))).isSome ∧
    (Instr.frameCrcError (List.replicate 20 1)).wf = true := by decide +kernel

def released : State := { State.reset with time := { TimeBase.reset with resetn := true, released := some 0 } }

theorem met_PowerOn :
    State.reset.time.resetn = false ∧
    (released.time.resetn = true ∧ released.time.ready = false ∧ released.time.warm = false ∧
      released.time.released = some 0 ∧ released.boiler.burner = .off ∧ released.boiler.lockoutPin = false) ∧
    (takeSensor released.boiler.tf 1101).status = some .fault ∧
    (takeSensor released.boiler.tf 1100).status = some .ok ∧
    (let s := { released with boiler := { released.boiler with lockoutPin := true } };
      s.time.resetn = true ∧ s.boiler.burner = .off ∧ s.boiler.lockoutPin = true) := by decide +kernel

theorem met_WarmReset :
    live.takes ∧ ({ valve with state := .retiring }).state = .retiring ∧ valve.state ≠ .retiring ∧
    valve.kind = .valveHead := by decide +kernel

/-- A state that a warm reset leaves. -/
def warmed : State := after live .warmReset

/-- A warm reset with all that can fall due while READY is low, and a return countdown in its last minute. -/
def dueAtReady : State := { warmed with
  time := { warmed.time with sampleDue := true, minuteDue := true, controlDue := true }
  house := { warmed.house with mode := .vacant, countdown := some 1 }
  boiler := { warmed.boiler with startList := [59, 58] } }

theorem met_ReadyAfterWarmReset :
    warmed.time.resetn = true ∧ warmed.time.ready = false ∧ warmed.time.warm = true ∧
    warmed.time.sampleDue = false ∧ warmed.time.minuteDue = false ∧ warmed.boiler.burner = .off ∧
    warmed.boiler.lockoutPin = false ∧ warmed.boiler.tf.status ≠ some .fault ∧ warmed.house.countdown = none ∧
    (dueAtReady.time.resetn = true ∧ dueAtReady.time.ready = false ∧ dueAtReady.time.warm = true ∧
      dueAtReady.time.sampleDue = true ∧ dueAtReady.time.minuteDue = true ∧ dueAtReady.time.controlDue = true ∧
      dueAtReady.clock.taken.house = false ∧ dueAtReady.house.countdown = some 1 ∧
      dueAtReady.house.mode ≠ .occupied ∧ dueAtReady.house.wakeReturn = true ∧ dueAtReady.boiler.burner = .off) ∧
    (let s := { dueAtReady with boiler := { dueAtReady.boiler with lockoutPin := true } };
      s.time.warm = true ∧ s.boiler.lockoutPin = true ∧ s.boiler.burner ≠ .lockedOut) ∧
    (let s := { warmed with boiler := { warmed.boiler with burner := .lockedOut, tf := ⟨none, some .fault⟩ } };
      s.time.warm = true ∧ s.boiler.burner = .lockedOut ∧ s.boiler.pulse = none ∧ s.boiler.lockoutPin = false ∧
        s.boiler.tf.status = some .fault) ∧
    (live.time.ready = true ∧ live.clock.minuteAt = some 60000 ∧ live.time.sampleAt = some 10020) := by decide +kernel

/-- What READY takes: the tick that fell due ages the start list and ends the countdown, the sample is a TF fault. -/
theorem test_ready_takes_what_fell_due :
    (let t := after dueAtReady (.readySet 1101 50 450);
      t.boiler.burner = .sensorFault ∧ t.boiler.startList = [59] ∧ t.house.mode = .occupied ∧
        t.time.ticking = List.finRange 16 ∧ t.clock.timeOfWeek = some 601) := by decide +kernel

theorem met_NopAndBadCommand : live.takes ∧ walks .house = false := by decide +kernel

/-- A frame begun while READY was low. -/
def discarding : State := after (asleep live) .frameBegin

theorem met_FramesNotTaken :
    live.takes ∧ discarding.frameDiscarded = true ∧ (Frame.encode .run).isSome ∧
    discarding.link.frame = some { notReady := true, status := 0, out := none } := by decide +kernel

/-- A frame begun while READY is low, over which RESETn falls and READY then sets, executes nothing (R197). -/
theorem test_frame_over_reset :
    (let s := after (after (after discarding .powerOnReset) .resetnRelease) (.readySet 300 50 450);
      s.time.ready = true ∧ (after s .run).bus.line = .stopped ∧ (after (after s .run) .run).bus.line = .starting) := by
  decide +kernel

theorem met_StatusAndNotices :
    (asleep live).time.ready = false ∧ live.time.ready = true ∧ live.takes ∧
    (live.raise .boiler).attnLow = true ∧ live.link.held.payload.length = 16 := by decide +kernel

/-- What a READ finds before and after the frame is taken: a bad frame count of 8 has gone to 0 by then. -/
theorem met_ReadReturnsFields_link :
    (let s := { live with link := { live.link with badCount := 8 } };
      s.takes ∧ (s.received (.read .line 1 0 1 0)).find .line 1 0 0 = .fields [0, absent, 0, 0x7FF] ∧
        s.find .line 1 0 0 = .fields [8, absent, 0, 0x7FF]) := by decide +kernel

def at' (s : State) (now : Nat) : State := { s with time := { s.time with now := now } }

theorem met_ReadReturnsFields_views :
    (16 : Word).toNat = 16 ∧ 16 < (17 : Word).toNat ∧ live.clock.minuteAt = some 60000 ∧
    ((at' live 1).time.now < 60000 ∧ 60000 ≤ (at' live 1).time.now + 59999) ∧
    ((programmed.pointsOf 0).Pairwise (fun a b => a.time < b.time) ∧
      { time := 600, level := .deg 180 } ∈ programmed.pointsOf 0) ∧
    (∀ p ∈ programmed.pointsOf 0, p.time ≠ (601 : Word).toNat) ∧
    (held.HoldInv ∧ held.stackOf 0 = [hold 9 (.countdown 1)] ++ hold 8 .indefinite :: []) ∧
    ((10 : Word) ≠ 0 ∧ (10 : Word).toNat ∉ held.handlesInUse) ∧
    (joins live 2 0).SerialInv ∧ (joins live 2 0).bus.joins.length = 2 ∧
    (∀ e ∈ (joins live 2 0).bus.joins, e.number ≠ (3 : Word).toNat) ∧
    ((queued live [entry]).motor.queue = [] ++ entry :: [] ∧ (1 : Word).toNat = 0 + 1 ∧
      (queued live [entry]).motor.queue.length < (2 : Word).toNat) ∧
    ((65534 : Word).toNat ≠ 65535 ∧ ∀ i : Fin 48, (65534 : Word).toNat ≠ i.val) := by decide +kernel

theorem met_ReadReturnsFields :
    live.takes ∧ live.find .point 600 0 3 = .notFound ∧ live.find .house 0 1 0 = .noView ∧
    live.find .house 0 0 0 = .fields live.houseView ∧ live.houseView.length = 10 ∧
    (live.setDevice 0 (some valve)).find .device 0 0 0 =
      .fields ((live.setDevice 0 (some valve)).deviceView 0 valve) := by decide +kernel

/-- Two holds at zone 0 and one at zone 2, with push numbers 5, 3 and 4. -/
def stacked : State := (live.setStack 0 [{ hold 1 .indefinite with pushed := 5 }, { hold 2 .indefinite with pushed := 3 }]).setStack
  2 [{ hold 3 .indefinite with pushed := 4 }]

/-- The next zone, point, hold and join entry after a cursor's last key. -/
theorem met_SeekAndNextWalk_next :
    ((live.zoneView 0 0).isSome ∧ (live.zoneView 16 1).isSome ∧ (live.zoneView 16 2) = none) ∧
    (programmed.ProgramInv ∧ (0 = 0 ∧ 400 < 600) ∧ ∀ q ∈ programmed.pointsOf 0, 400 < q.time → 600 ≤ q.time) ∧
    (stacked.HoldInv ∧ (stacked.stackOf 0).head? = some { hold 1 .indefinite with pushed := 5 } ∧
      (∀ g ∈ stacked.stackOf 0, g.pushed < 5 → g ≠ { hold 2 .indefinite with pushed := 3 } → g.pushed < 3) ∧
      (∀ g ∈ stacked.stackOf 0, 3 ≤ g.pushed) ∧ (stacked.stackOf 2).head? = some { hold 3 .indefinite with pushed := 4 } ∧
      ∀ y : Fin 17, y < 2 → 0 < y → stacked.stackOf y = []) ∧
    ((joins live 2 0).SerialInv ∧
      { number := 2, serial := 2, kind := .valveHead, sightings := 1, age := 0 } ∈ (joins live 2 0).bus.joins ∧
      ∀ f ∈ (joins live 2 0).bus.joins, 1 < f.number → 2 ≤ f.number) := by decide +kernel

/-- The cursor stands on the record at slot 4; slot 5 holds the next. -/
def walking : State := (live.setDevice 5 (some valve)).setCursor (some { kind := .device, last := some (.device 4) })

theorem met_SeekAndNextWalk :
    live.takes ∧ walks .device = true ∧ live.link.cursor = none ∧
    (let c : Cursor := { kind := .device, last := some (.device 5) };
      (walking.setCursor (some c)).takes ∧ (walking.setCursor (some c)).link.cursor = some c ∧
        (walking.setCursor (some c)).following c = none) ∧
    walking.takes ∧ walking.link.cursor = some { kind := .device, last := (some (4 : Fin 48)).map (fun j => .device j.val) } ∧
    (∀ j ∈ some (4 : Fin 48), j < 5) ∧ walking.device 5 = some valve ∧
    (∀ k : Fin 48, k < 5 → (∀ j ∈ some (4 : Fin 48), j < k) → walking.device k = none) ∧
    1 ≤ (walking.deviceView 5 valve).length := by decide +kernel

/-- Nothing is left after the last point of zone 0, the older hold of zone 2, slot 5 and entry 2. -/
theorem met_SeekAndNextWalk_end :
    (∀ (y : Fin 17), ∀ q ∈ programmed.pointsOf y, y.val < 0 ∨ (y.val = 0 ∧ q.time ≤ 1320)) ∧
    ((∀ g ∈ stacked.stackOf 2, 4 ≤ g.pushed) ∧ ∀ y : Fin 17, 2 < y → stacked.stackOf y = []) ∧
    (∀ k : Fin 48, 5 < k → walking.device k = none) ∧
    (∀ e ∈ (joins live 2 0).bus.joins, e.number ≤ 2) := by decide +kernel

def withCylinder (v : Int) : State := { live with boiler := { live.boiler with tc := takeSensor .unread v } }

/-- The channel in a state with this cylinder temperature, its timer started at 5 ms; the target is 50.0 °C. -/
def channel (st : CylinderState) (v : Int) : State :=
  { withCylinder v with cylinder := { Cylinder.reset with
    state := st
    prio := if st = .charging then some 5 else none
    gap := if st = .gap then some 5 else none
    recovery := if st = .fault then some 5 else none } }

/-- An enable item beside other fields, of a DISABLED and of an enabled zone. -/
theorem met_WriteZone_enable :
    roomCheck (live.zone 3).config (items [(16, 1), (10, 200)]) = true ∧ (live.zone 3).state = .disabled ∧
    (let s := after live (.enable 3);
      s.takes ∧ roomCheck (s.zone 3).config (items [(2, 5), (16, 0)]) = true ∧ (s.zone 3).state ≠ .disabled) ∧
    itemNat (items [(16, 1), (10, 200)]) 16 = some 1 ∧ itemNat (items [(2, 5), (16, 0)]) 16 = some 0 := by decide +kernel

theorem met_WriteZone_zw :
    (∀ l ∈ [[(16, 1), (17, 50)], [(16, 0), (21, 0)], [(19, 10)], [(20, 5)], [(21, 490)], [(17, 20), (18, 250)]],
      codesOk cylinderCodes (items l) = true ∧ ∀ v ∈ itemNat (items l) 16, v < 2) ∧
    (live.takes ∧ live.time.ready = true ∧ live.CylinderInv ∧ live.cylinder.state = .disabled ∧
      live.boiler.tc.status ≠ some .ok) ∧
    ((withCylinder 450).cylinder.state = .disabled ∧
      (withCylinder 450).cylinderResolved.1 = .deg 500 ∧ (withCylinder 450).boiler.tc = ⟨some 450, some .ok⟩ ∧
      (withCylinder 451).boiler.tc = ⟨some 451, some .ok⟩) := by decide +kernel

/-- tPRIO of 10 minutes and tGAP of 5 have run out at this moment; the target is 50.0 °C, or 49.0 °C as written. -/
theorem met_WriteZone_zw_evaluated :
    (let s := at' (channel .charging 490) 600005;
      s.cylinder.prio = some 5 ∧ 10 * 60000 ≤ s.time.now - 5 ∧ s.anyCalling = false ∧
        s.cylinder.target = .deg 500 ∧ (s.setZone 0 { s.zone 0 with state := .calling }).anyCalling = true) ∧
    ((at' (channel .gap 499) 300005).cylinder.gap = some 5 ∧
      5 * 60000 ≤ 300005 - 5 ∧ ¬ 5 * 60000 ≤ 300004 - 5) ∧
    ((channel .idle 480).cylinder.target = .deg 500 ∧ (480 : Int) ≤ 500 - 20 ∧ ¬ (481 : Int) ≤ 500 - 20) ∧
    ({ channel .charging 490 with cylinder := { (channel .charging 490).cylinder with defaultTarget := .deg 490 } }).cylinderResolved.1 =
      .deg 490 := by decide +kernel

theorem met_WriteZone_zw_charging : (at' (channel .charging 490) 600005).CylinderInv := by decide +kernel
theorem met_WriteZone_zw_gap : (at' (channel .gap 499) 300005).CylinderInv := by decide +kernel
theorem met_WriteZone_zw_idle : (channel .idle 480).CylinderInv := by decide +kernel
theorem met_WriteZone_zw_fault : (channel .fault 450).CylinderInv := by decide +kernel

theorem met_WriteZone :
    (let i := items [(8, 100), (9, 100), (11, 500), (12, 499)];
      live.takes ∧ roomCheck (live.zone 3).config i = true ∧ itemNat i 16 = none ∧ itemNat [] 16 = none ∧
        roomCheck (live.zone 3).config [] = true) ∧
    16 < (17 : Word).toNat ∧ (∃ x ∈ items [(17, 0)], 16 < x.code.toNat) ∧ itemNat (items [(16, 2)]) 16 = some 2 ∧
    (carries (items [(8, 281)]) 8 = true ∧
      (item (items [(8, 281)]) 9).getD (live.zone 3).config.comfortCeiling < (item (items [(8, 281)]) 8).getD 0) ∧
    (carries (items [(12, 150)]) 12 = true ∧
      (item (items [(12, 150)]) 11).getD (live.zone 3).config.requestOn ≤ (item (items [(12, 150)]) 12).getD 0) ∧
    (16 : Word).toNat = 16 ∧ (∃ x ∈ items [(22, 0)], x.code ≠ 0 ∧ (x.code.toNat < 16 ∨ 21 < x.code.toNat)) ∧
    (∃ x ∈ items [(15, 0)], x.code ≠ 0 ∧ (x.code.toNat < 16 ∨ 21 < x.code.toNat)) := by decide +kernel


theorem met_EnableAndDisable :
    live.takes ∧ (live.zone 3).state = .disabled ∧ ((after live (.enable 3)).zone 3).state ≠ .disabled ∧
    (after live (.enable 3)).takes ∧ live.cylinder.state = .disabled ∧ live.boiler.tc.status ≠ some .ok ∧
    (withCylinder 450).takes ∧ (withCylinder 450).cylinder.state = .disabled ∧
    (withCylinder 450).boiler.tc.status = some .ok ∧
    (after (withCylinder 450) .zwEnable).cylinder.state = .charging ∧
    (after (withCylinder 451) .zwEnable).cylinder.state = .idle ∧
    (after live .zwEnable).cylinder.state = .fault := by decide +kernel

theorem met_PointInForce :
    (programmed.pointsOf 0).Pairwise (fun p q => p.time < q.time) ∧ State.reset.clock.timeOfWeek = none ∧
    programmed.pointsOf 1 = [] ∧ programmed.clock.timeOfWeek = some 600 ∧ programmed.pointsOf 0 ≠ [] ∧
    (∃ q ∈ programmed.pointsOf 0, q.time ≤ 600) ∧ (∀ q ∈ programmed.pointsOf 0, 399 < q.time) := by decide +kernel

/-- Zone 0's list is full. -/
def fullList : State := live.setPoints 0 ((List.range 32).map (fun k => { time := k, level := .deg 200 }))

theorem met_CreatePoint :
    (let i := items [(1, 0), (3, 200)];
      live.takes ∧ codesOk [1, 2, 3] i = true ∧ itemNat i 1 = some (0 : Fin 17).val ∧ item i 3 = some 200 ∧
      (10079 : Word).toNat ≤ 10079 ∧ (∀ q ∈ programmed.pointsOf 0, q.time ≠ 10079) ∧
      (programmed.pointsOf 0).length < 32 ∧ programmed.pointCount < 256 ∧
      (∃ q ∈ programmed.pointsOf 0, q.time = (600 : Word).toNat)) ∧
    itemNat (items [(1, 17), (3, 200)]) 1 = some 17 ∧ 10079 < (10080 : Word).toNat ∧
    fullList.takes ∧ (∀ q ∈ fullList.pointsOf 0, q.time ≠ (32 : Word).toNat) ∧
    32 ≤ (fullList.pointsOf 0).length := by decide +kernel

theorem met_WriteAndRetirePoint :
    (let i := items [(1, 0), (2, 10079)];
      programmed.takes ∧ codesOk [1, 2, 3] i = true ∧ itemNat i 1 = some (0 : Fin 17).val ∧
      (programmed.pointsOf 0).Pairwise (fun a b => a.time < b.time) ∧
      { time := 600, level := .deg 180 } ∈ programmed.pointsOf 0 ∧ (item i 2).getD 600 = 10079 ∧
      ∀ q ∈ programmed.pointsOf 0, (q.time : Int) ≠ 10079) ∧
    (item (items [(2, 10080)]) 2).getD 600 = 10080 ∧ (item (items [(2, 400)]) 2).getD 600 = 400 ∧
    (∃ q ∈ programmed.pointsOf 0, q ≠ { time := 600, level := .deg 180 } ∧ (q.time : Int) = 400) ∧
    item (items [(1, 0), (3, 301)]) 3 = some 301 ∧ item (items [(1, 0), (3, 300)]) 3 = some 300 ∧
    (∀ p ∈ programmed.pointsOf 0, p.time ≠ (601 : Word).toNat) ∧ (0 : Byte).toNat = (0 : Fin 17).val ∧
    ∀ z : Fin 17, (17 : Byte).toNat ≠ z.val := by decide +kernel

theorem met_ResolutionOfAllZones :
    (inMode live .vacant).house.mode = .vacant ∧
    (let s := live.setStack 0 [hold 1 .indefinite];
      s.stackOf (roomIndex 0) = hold 1 .indefinite :: [] ∧ s.house.mode ≠ .vacant) ∧
    (let s := live.setStack 16 [hold 1 .indefinite];
      s.stackOf zw = hold 1 .indefinite :: [] ∧ s.house.mode ≠ .vacant) ∧
    (live.stackOf (roomIndex 0) = [] ∧ live.house.mode ≠ .vacant ∧ live.pointInForce (roomIndex 0) = none) ∧
    programmed.pointInForce (roomIndex 0) = some { time := 600, level := .deg 180 } ∧
    (inMode programmed .setback).house.mode = .setback ∧
    (live.stackOf zw = [] ∧ live.pointInForce zw = none) ∧
    ((live.setPoints 16 [{ time := 0, level := .off }]).pointInForce zw = some { time := 0, level := .off }) := by
  decide +kernel

/-- Six full stacks: the pool holds 24. -/
def fullPool : State := [0, 1, 2, 3, 4, 5].foldl (fun (s : State) (z : Fin 17) =>
  { s.setStack z ((List.range 4).map (fun k => hold (z.val * 4 + k + 1) .indefinite)) with
    holds := { (s.setStack z ((List.range 4).map (fun k => hold (z.val * 4 + k + 1) .indefinite))).holds with
      handles := 25 } }) live

theorem met_NewHandleIsFree :
    live.HoldInv ∧ live.holds.handles ∉ live.handlesInUse ∧ fullPool.HoldInv ∧
    (let s := { fullPool with holds := { fullPool.holds with handles := 1 } };
      s.HoldInv ∧ s.holds.handles ∈ s.handlesInUse) := by decide +kernel

theorem met_CreateHold :
    (let i := items [(2, 0), (3, 210), (4, 1), (5, 0), (7, 1)];
      live.takes ∧ live.HoldInv ∧ codesOk [1, 2, 3, 4, 5, 6, 7, 8] i = true ∧ itemNat i 2 = some (0 : Fin 17).val ∧
      item i 3 = some 210 ∧ itemNat i 4 = some 1 ∧ itemNat i 7 = some 1 ∧ carries i 5 = true ∧ live.poolCount < 24) ∧
    fullPool.HoldInv ∧ (fullPool.stackOf 6).length < 4 ∧ 24 ≤ fullPool.poolCount ∧ (fullPool.stackOf 0).length = 4 ∧
    itemNat (items [(2, 17)]) 2 = some 17 ∧ itemNat (items [(4, 3)]) 4 = some 3 ∧ itemNat (items [(7, 2)]) 7 = some 2 ∧
    itemNat (items [(2, 0), (3, 210), (4, 0)]) 7 = none ∧
    (itemNat (items [(4, 1)]) 4 = some 1 ∧ itemNat (items [(4, 1)]) 5 = none) := by decide +kernel

theorem met_WriteHoldStores :
    held.takes ∧ held.findHold 9 = some (0, hold 9 (.countdown 1)) ∧ held.findHold 8 = some (0, hold 8 .indefinite) ∧
    codesOk [3, 4, 5] (items [(6, 1)]) = false ∧ itemNat (items [(4, 3)]) 4 = some 3 ∧
    (itemNat (items [(4, 1)]) 4 = some 1 ∧ carries (items [(4, 1)]) 5 = false) ∧
    (carries (items [(4, 0), (5, 3)]) 5 = true ∧ itemNat (items [(4, 0), (5, 3)]) 4 = some 0) ∧
    (codesOk [3, 4, 5] (items [(4, 1), (5, 0)]) = true ∧ itemNat (items [(4, 1), (5, 0)]) 5 = some 0) ∧
    held.findHold 10 = none := by decide +kernel

theorem met_RetireHoldRemoves :
    held.takes ∧ held.HoldInv ∧ held.stackOf 0 = [hold 9 (.countdown 1)] ++ hold 8 .indefinite :: [] ∧
    (hold 8 .indefinite).handle = (8 : Word).toNat ∧ (10 : Word) ≠ 0 ∧ (10 : Word).toNat ∉ held.handlesInUse := by
  decide +kernel

/-- Every block has taken the minute tick that is due. -/
def tookAll (s : State) : State :=
  { s with clock := { s.clock with taken := { holds := true, house := true, starts := true, joins := true } } }

theorem met_LastMinuteExpiries :
    (held.findHold 9 = some (0, hold 9 (.countdown 1)) ∧ held.time.ready = true ∧ held.clock.taken = .none) ∧
    (tookAll held).clock.taken.holds = true ∧ (tookAll live).clock.taken.starts = true ∧
    (tookAll live).clock.taken.joins = true ∧
    (let s := live.setStack 0 [hold 9 (.countdown 2)];
      s.findHold 9 = some (0, hold 9 (.countdown 2))) ∧
    (let s := { burning live (.wait .starts) with
        boiler := { (burning live (.wait .starts)).boiler with
          tf := takeSensor .unread 200, startList := [59, 3, 2, 1, 1, 0] } };
      let t := s.setZone 0 { s.zone 0 with state := .calling };
      t.boiler.startList = 59 :: [3, 2, 1, 1, 0] ∧ t.time.ready = true ∧ t.boiler.burner = .wait .starts ∧
        t.evalCylinder = t ∧ t.startConditions = true ∧ t.reportedPass = true ∧
        (([3, 2, 1, 1, 0] : List Nat).length : Int) < t.boiler.config.startsLimit) ∧
    live.boiler.startList = [] ∧
    (let e : JoinEntry := { number := 2, serial := 2, kind := .valveHead, sightings := 1, age := 9 };
      e ∈ (joins live 2 9).bus.joins ∧ (joins live 2 9).SerialInv ∧ (joins live 2 9).time.ready = true) ∧
    (∀ e ∈ (joins live 2 8).bus.joins, e.number = 2 → e.age < 9) := by decide +kernel

def counting (n : Nat) : State := { inMode live .vacant with house := { (inMode live .vacant).house with countdown := some n } }

theorem met_HouseModeChanges :
    live.takes ∧ (inMode live .setback).house.mode = .setback ∧ live.house.mode ≠ .setback ∧
    live.house.mode = .occupied ∧
    ((inMode live .setback).time.ready = true ∧ (inMode live .setback).house.wakeInput = true ∧
      (inMode live .setback).house.mode ≠ .occupied) ∧
    live.house.countdown ≠ some 1 ∧
    ((counting 1).time.ready = true ∧ (counting 1).house.countdown = some 1 ∧ (counting 1).house.mode ≠ .occupied ∧
      (counting 1).house.wakeReturn = true ∧ (counting 1).clock.taken.house = false) ∧
    (tookAll (counting 1)).clock.taken.house = true ∧
    (let s := { counting 1 with house := { (counting 1).house with wakeReturn := false } };
      s.house.wakeReturn = false ∧ s.house.countdown = some 1) := by decide +kernel

theorem met_SetModeOccupied :
    live.takes ∧ live.house.mode = .occupied ∧ (inMode live .vacant).takes ∧
    (inMode live .vacant).house.mode ≠ .occupied ∧ (1 : Word) ≠ 0 ∧ 2 < (3 : Byte).toNat := by decide +kernel

theorem met_WriteHouseAndMotor :
    live.takes ∧ (1 : Word) ≠ 0 ∧ carries (items [(7, 0)]) 7 = true ∧ itemNat (items [(6, 2)]) 6 = some 2 ∧
    (let i := items [(3, 0), (6, 1), (8, 101), (9, 49)];
      codesOk [3, 4, 5, 6, 8, 9] i = true ∧ ∀ c ∈ [3, 4, 5, 6], ∀ v ∈ itemNat i c, v < 2) ∧
    codesOk [1, 2] (items [(3, 0)]) = false ∧
    (codesOk [1, 2] (items [(1, 7), (2, 24)]) = true ∧ live.bus.line = .stopped) ∧
    ((onLine live .running).takes ∧ carries (items [(1, 1)]) 1 = true ∧ (onLine live .running).bus.line ≠ .stopped) ∧
    (codesOk [1, 2] (items [(2, 23)]) = true ∧ carries (items [(2, 23)]) 1 = false) := by decide +kernel

def locked (pulse : Option Nat) (attempts : Nat) (pin : Bool) : State :=
  { burning live .lockedOut with
    boiler := { (burning live .lockedOut).boiler with pulse, attempts, lockoutPin := pin } }

/-- The burner fires with this flow temperature, its minimum on time running. -/
def firing (v : Int) : State :=
  { burning live .firing with boiler := { (burning live .firing).boiler with
    tf := takeSensor .unread v, minOn := some 0, pump := .running } }

theorem met_WriteBoilerStores :
    live.takes ∧ (1 : Word) ≠ 0 ∧ (∃ x ∈ items [(19, 0)], 18 < x.code.toNat) ∧
    itemWord (items [(17, 16)]) 17 = some 16 ∧
    (carries (items [(4, 451)]) 4 = true ∧
      (item (items [(4, 451)]) 6).getD live.boiler.config.floorMax < (item (items [(4, 451)]) 4).getD 0) ∧
    (carries (items [(5, 249)]) 5 = true ∧
      (item (items [(5, 249)]) 5).getD 0 < (item (items [(5, 249)]) 4).getD live.boiler.config.flowMin) ∧
    boilerCheck live.boiler.config (items [(4, 450), (17, 15)]) = true ∧
    (let s := { firing 300 with time := { live.time with now := 60000 } };
      s.takes ∧ s.boiler.burner = .firing ∧ boilerCheck s.boiler.config (items [(11, 1)]) = true ∧
        1 * 60000 ≤ s.time.now - 0) ∧
    (let s := { live with time := { live.time with now := 60000 } };
      s.takes ∧ s.boiler.burner = .off ∧ boilerCheck s.boiler.config (items [(12, 1)]) = true ∧
        1 * 60000 ≤ s.time.now - s.boiler.lastStop) := by decide +kernel

theorem met_BoilerResetStartsPulse :
    (locked none 2 true).takes ∧ (locked none 2 true).boiler.burner = .lockedOut ∧
    (locked none 2 true).boiler.pulse = none ∧ (locked none 2 true).boiler.attempts ≤ 2 ∧
    (locked (some 5) 0 true).boiler.pulse.isSome ∧ 3 ≤ (locked none 3 true).boiler.attempts ∧
    live.boiler.burner ≠ .lockedOut := by decide +kernel

/-- A warm reset is answered by a state. -/
theorem met_BoilerResetStartsPulse_step : exec .warmReset live = .next warmed := rfl

/-- A minute tick while the pulse runs is answered by a state. -/
theorem met_BoilerResetStartsPulse_runs :
    exec .minuteTick (locked (some 5) 0 true) = .next (after (locked (some 5) 0 true) .minuteTick) := rfl

theorem met_LockoutAndPulseEnd :
    live.time.ready = true ∧ live.boiler.burner ≠ .lockedOut ∧ (firing 300).boiler.burner = .firing ∧
    (let s := locked none 1 true;
      s.time.ready = true ∧ s.boiler.burner = .lockedOut ∧ s.boiler.pulse = none ∧ s.boiler.tf.status ≠ some .fault) ∧
    (let s := { locked none 1 true with
        boiler := { (locked none 1 true).boiler with tf := takeSensor .unread 1101 } };
      s.time.ready = true ∧ s.boiler.burner = .lockedOut ∧ s.boiler.pulse = none ∧ s.boiler.tf.status = some .fault) ∧
    ((locked (some 5) 3 true).boiler.pulse = some 5 ∧ (locked (some 5) 3 true).boiler.lockoutPin = true) ∧
    ((locked (some 5) 3 false).boiler.pulse = some 5 ∧ (locked (some 5) 3 false).boiler.lockoutPin = false) := by
  decide +kernel

/-- A TC sample in IDLE at and above target − dhw_hyst, and in CHARGING at and below the target. -/
theorem met_SensorSamples_charge :
    ((channel .idle 470).cylinder.state = .idle ∧ (channel .idle 470).cylinder.target = .deg 500 ∧
      (450 : Int) ≤ 500 - (channel .idle 470).cylinder.dhwHyst ∧ ¬ (451 : Int) ≤ 500 - (channel .idle 470).cylinder.dhwHyst) ∧
    ((channel .charging 470).cylinder.state = .charging ∧ 0 < (channel .charging 470).cylinder.dhwHyst ∧
      (channel .charging 470).time.sampleAt = some 10020 ∧ (channel .charging 470).time.ready = true) := by decide +kernel

theorem met_SensorSamples_charge_step :
    exec (.sensorSample 300 50 450) (channel .idle 470) = .next (after (channel .idle 470) (.sensorSample 300 50 450)) ∧
    exec (.sensorSample 300 50 500) (channel .charging 470) =
      .next (after (channel .charging 470) (.sensorSample 300 50 500)) := ⟨rfl, rfl⟩

theorem met_SensorSamples :
    live.time.sampleAt = some 10020 ∧ live.time.ready = true ∧ (asleep live).time.ready = false ∧
    (asleep live).time.sampleAt = some 10020 ∧
    (let s := { live with boiler := { live.boiler with tout := takeSensor .unread 0 } };
      s.boiler.tout.status = some .ok ∧ s.time.ready = true) ∧
    (live.boiler.burner ≠ .lockedOut ∧ live.boiler.burner ≠ .sensorFault) ∧
    (burning live .sensorFault).boiler.burner = .sensorFault ∧ (locked none 0 true).boiler.burner = .lockedOut ∧
    (charging live .idle).cylinder.state = .idle ∧ (charging live .fault).cylinder.state = .fault ∧
    live.cylinder.state = .disabled := by decide +kernel

/-- A sample with TF and TC just out of range is answered by a state. -/
theorem met_SensorSamples_step :
    exec (.sensorSample (-401) 1100 1101) live = .next (after live (.sensorSample (-401) 1100 1101)) := rfl

theorem met_HighFlowLimit_step :
    exec (.sensorSample 800 50 450) (firing 300) = .next (after (firing 300) (.sensorSample 800 50 450)) := rfl

theorem met_HighFlowLimit :
    (firing 300).time.sampleAt = some 10020 ∧ (firing 300).time.ready = true ∧
    boilerConfigOk (firing 300).boiler.config ∧
    (firing 300).boiler.config.flowMax + 50 ≤ 800 ∧ (firing 300).boiler.burner = .firing ∧
    (firing 300).boiler.tout.status ≠ some .ok ∧ (burning live (.wait .flow)).boiler.burner = .wait .flow := by
  decide +kernel

/-- OFF, with a CALLING zone 0 at 21.0 °C and this flow temperature. -/
def cold (v : Int) (starts : List Nat) : State :=
  let s := live.setZone 0 { live.zone 0 with state := .calling, setpoint := 210 }
  { s with boiler := { s.boiler with tf := takeSensor .unread v, startList := starts } }

/-- The state whose start tBOFF_EXPIRY evaluates. -/
def atStart (s : State) : State := State.evalCylinder { s with
  time := { s.time with now := max s.time.now (s.boiler.lastStop + s.boiler.config.tBoff.toNat * 60000) }
  boiler := { s.boiler with burner := .ready, minOn := none, waitFlow := none, recovery := none } }

/-- A bypass zone is configured and zone 0 has one closed valve: the reported check fails. -/
def closed : State :=
  let s := (cold 200 []).setDevice 5 (some { valve with reported := some 19 })
  { s with boiler := { s.boiler with config := { s.boiler.config with bypassZone := some 1 } } }

theorem met_BurnerTimers :
    ((cold 200 []).time.ready = true ∧ (cold 200 []).boiler.burner = .off ∧ (atStart (cold 200 [])).burnerDemand = true ∧
      200 ≤ (atStart (cold 200 [])).flowTarget - (cold 200 []).boiler.config.onDiff ∧
      (atStart (cold 200 [])).reportedPass = true) ∧
    (atStart live).burnerDemand = false ∧
    (let l := [5, 4, 3, 2, 1, 0];
      (cold 200 l).boiler.config.startsLimit ≤ ((cold 200 l).boiler.startList.length : Int)) ∧
    (closed.boiler.burner = .off ∧ (atStart closed).burnerDemand = true ∧ (atStart closed).reportedPass = false ∧
      200 ≤ (atStart closed).flowTarget - closed.boiler.config.onDiff) ∧
    ((firing 300).boiler.burner = .firing ∧ (firing 300).boiler.minOn = some 0 ∧ (firing 300).time.ready = true) ∧
    (let s := { burning live (.wait .flow) with
        boiler := { (burning live (.wait .flow)).boiler with waitFlow := some 7 } };
      s.boiler.burner = .wait .flow ∧ s.boiler.waitFlow = some 7) ∧
    (let s := { burning live .sensorFault with
        boiler := { (burning live .sensorFault).boiler with recovery := some 7 } };
      s.boiler.burner = .sensorFault ∧ s.boiler.recovery = some 7) ∧
    (let s := { live with boiler := { live.boiler with outdoorHold := some 7 } };
      s.boiler.outdoorHold = some 7 ∧ s.boiler.tout.status ≠ some .ok) ∧
    (let s := { live with boiler := { live.boiler with
        pump := .overrun 7, config := { live.boiler.config with outdoorFallback := 30 } } };
      s.boiler.pump = .overrun 7 ∧ s.pumpReason = false ∧ s.cylinder.state ≠ .idle ∧ s.time.ready = true) := by
  decide +kernel

/-- The bypass zone's valve is forced open, and the pump is about to stop. -/
def forcingEnds : State :=
  let s := live.setDevice 6 (some { valve with zone := some 1, target := 100 })
  { s with boiler := { s.boiler with
    pump := .overrun 7, forcing := true, config := { s.boiler.config with bypassZone := some 1, outdoorFallback := 30 } } }

/-- tOVR runs out with the valve of the bypass zone forced open. -/
theorem met_BurnerTimers_forced :
    forcingEnds.boiler.pump = .overrun 7 ∧ forcingEnds.pumpReason = false ∧ forcingEnds.cylinder.state ≠ .idle ∧
    forcingEnds.time.ready = true ∧ forcingEnds.boiler.forcing = true ∧
    forcingEnds.device 6 = some { valve with zone := some 1, target := 100 } ∧
    ({ valve with zone := some 1, target := 100 } : Device).servesZone 1 = true := by decide +kernel

theorem met_FlowTargetAndModulation_ranges : boilerConfigOk live.boiler.config := by decide +kernel

/-- The states below have the boiler record of `live`. -/
theorem met_FlowTargetAndModulation_record : (cold 200 []).boiler.config = live.boiler.config := rfl

theorem met_FlowTargetAndModulation_zones : (cold 200 []).ZoneInv := by decide +kernel

theorem met_FlowTargetAndModulation_load :
    ((cold 200 []).zone 0).state ≠ .disabled ∧ (∀ z : Fin 16, (live.zone z).state = .disabled) ∧
    (let s := { live with boiler := { live.boiler with tout := takeSensor .unread 1100 } };
      s.boiler.tout.status = some .ok ∧ s.boiler.tout.value = some 1100) ∧
    (let s := { live with boiler := { live.boiler with tout := ⟨some (-400), some .fault⟩, outdoorHold := some 7 } };
      s.boiler.tout.status = some .fault ∧ s.boiler.outdoorHold.isSome ∧ s.boiler.tout.value = some (-400)) := by decide +kernel

theorem met_FlowTargetAndModulation :
    (let s := { charging live .charging with cylinder := { (charging live .charging).cylinder with target := .deg 650 } };
      s.cylinder.state = .charging ∧ s.cylinder.target = .deg 650 ∧ s.boiler.config = live.boiler.config) ∧
    (live.cylinder.state ≠ .charging ∧ ∀ z : Fin 16, (live.zone z).leads = false) ∧
    ((cold 200 []).cylinder.state ≠ .charging ∧ ((cold 200 []).zone 0).leads = true ∧
      (∀ y : Fin 16, ((cold 200 []).zone y).leads = true → ((cold 200 []).zone y).setpoint ≤ 210)) ∧
    live.boiler.burner ≠ .firing ∧
    ((firing 300).boiler.burner = .firing ∧ (firing 300).boiler.tf.value = some 300) := by decide +kernel


theorem met_CylinderTimers_inv_499 : (channel .gap 499).CylinderInv := by decide +kernel
theorem met_CylinderTimers_inv_500 : (channel .gap 500).CylinderInv := by decide +kernel
theorem met_CylinderTimers_inv_451 : (channel .fault 451).CylinderInv := by decide +kernel

theorem met_CylinderTimers :
    ((channel .charging 490).cylinder.prio = some 5 ∧ (channel .charging 490).anyCalling = false ∧
      (channel .charging 490).chargeDone = false) ∧
    (let s := (channel .charging 490).setZone 0 { live.zone 0 with state := .calling };
      s.cylinder.state = .charging ∧ s.cylinder.prio = some 5 ∧ s.anyCalling = true) ∧
    ((channel .gap 499).cylinder.gap = some 5 ∧
      (channel .gap 499).boiler.tc.status = some .ok ∧ (499 : Int) < 500) ∧
    ((channel .gap 500).cylinder.state = .gap) ∧
    ((channel .fault 450).time.ready = true ∧ (channel .fault 450).cylinder.recovery = some 5 ∧
      (channel .fault 450).cylinder.target = .deg 500 ∧ (450 : Int) ≤ 500 - (channel .fault 450).cylinder.dhwHyst) ∧
    ((channel .fault 451).cylinder.state = .fault) := by decide +kernel

/-- SET MODE VACANT in CHARGING, and the LINK wake out of VACANT with the cylinder 5.0 °C below its default target. -/
theorem met_CylinderTimers_target :
    ((channel .charging 450).takes ∧ (channel .charging 450).time.ready = true ∧
      (channel .charging 450).house.mode ≠ .vacant ∧ (channel .charging 450).cylinder.target ≠ .off) ∧
    (let s := inMode (channel .idle 450) .vacant;
      let t := { s with cylinder := { s.cylinder with target := .off, source := .vacant } };
      t.takes ∧ t.time.ready = true ∧ t.house.mode = .vacant ∧ t.cylinder.state = .idle ∧ t.stackOf zw = [] ∧
        t.pointsOf zw = [] ∧ t.cylinder.defaultTarget = .deg 500 ∧
        t.boiler.tc = { value := some 450, status := some .ok } ∧ (450 : Int) ≤ 500 - t.cylinder.dhwHyst) := by
  decide +kernel

theorem met_SetClockStores :
    live.takes ∧ 10079 < (10080 : Word).toNat ∧ (10079 : Word).toNat ≤ 10079 := by decide +kernel

theorem met_MinuteTick :
    live.clock.minuteAt = some 60000 ∧ live.time.ready = true ∧ (asleep live).time.ready = false ∧
    (asleep live).clock.minuteAt = some 60000 ∧
    ((counting 2).clock.minuteAt = some 60000 ∧ (counting 2).house.countdown = some 2) ∧
    live.house.countdown = none ∧
    ((counting 1).house.countdown = some 1 ∧ (counting 1).house.mode ≠ .occupied ∧
      (counting 1).house.wakeReturn = true ∧ (counting 1).time.ready = true) ∧
    live.boiler.burner = .off ∧ live.clock.taken = .none ∧
    ((tookAll live).clock.taken.house = true ∧ (tookAll live).clock.taken.starts = true ∧
      (tookAll live).clock.taken.joins = true ∧ (tookAll live).clock.taken.holds = true) := by decide +kernel

theorem met_MinuteTick_step : exec .minuteTick live = .next (after live .minuteTick) := rfl

def hourDue : State := { live with clock := { live.clock with hourDue := true } }

theorem met_HourCountAdvances :
    live.clock.hourDue = false ∧ hourDue.time.ready = true ∧ hourDue.clock.hourDue = true := by decide +kernel

theorem met_ControlTicks :
    (live.time.controlAt = some 30000 ∧ live.time.ready = true) ∧ (asleep live).time.controlAt = some 30000 ∧
    (2 : Fin 16) ∉ live.time.ticking ∧ (0 : Fin 16) ∈ live.time.ticking ∧ (live.zone 0).state = .disabled ∧
    ((after live (.enable 0)).time.ready = true ∧ (0 : Fin 16) ∈ (after live (.enable 0)).time.ticking ∧
      ((after live (.enable 0)).zone 0).state ≠ .disabled) := by decide +kernel

/-- A zone with this integral at a setpoint of 20.0 °C. -/
def integrating (i : Int) (e : Emitter) : Zone :=
  { Zone.reset with setpoint := 200, integral := i, previous := 1000, config := { ZoneConfig.reset with
    control := { ZoneConfig.reset.control with emitter := e } } }

theorem met_DemandFromTemperature :
    (controlOk (integrating 1000 .floor).config.control ∧ perMille (integrating 1000 .floor).integral ∧
      perMille (integrating 1000 .floor).previous) ∧
    (let e : Int := max (-100) (min 100 (200 - 199)); 1000 ≤ 25 * e + 1000 ∧ 0 < e) ∧
    (let e : Int := max (-100) (min 100 (200 - 201)); 25 * e + 25 ≤ 0 ∧ e < 0) ∧
    (let e : Int := max (-100) (min 100 (200 - 199)); ¬(1000 ≤ 25 * e + 400 ∧ 0 < e) ∧ ¬(25 * e + 400 ≤ 0 ∧ e < 0)) ∧
    (integrating 25 .radiator).config.control.emitter = .radiator ∧
    ({ Control.mk .radiator 10 25 0 with ki := 0 } : Control).ki = 0 := by decide +kernel

def commandedZone (own : Int) : State :=
  (live.setDevice 5 (some valve)).setZone 0 { live.zone 0 with ownTarget := own }

theorem met_ZoneValvesTakeTargets :
    ((commandedZone 23).motor.queue.map Entry.slot).Nodup ∧ (commandedZone 23).device 5 = some valve ∧
    valve.grant = none ∧ (commandedZone 23).entryOf 5 = none ∧ ¬((commandedZone 23).boiler.forcing = true) ∧
    (live.setDevice 5 (some unit)).device 5 = some unit ∧ unit.kind ≠ .valveHead := by decide +kernel

def bypassing (s : State) (z : Fin 16) (forcing : Bool) : State :=
  { s with boiler := { s.boiler with forcing, config := { s.boiler.config with bypassZone := some z } } }

/-- The zone's valve holds an entry or a grant, or the zone is forced. -/
theorem met_ZoneValvesTakeTargets_held :
    (let s := queued (commandedZone 60) [entry];
      (s.motor.queue.map Entry.slot).Nodup ∧ s.device 5 = some valve ∧ s.entryOf 5 = some entry ∧ entry.kind = .position) ∧
    (queued (commandedZone 60) [{ entry with kind := .exercise }]).entryOf 5 = some { entry with kind := .exercise } ∧
    ((commandedZone 20).setDevice 5 (some { valve with grant := some (grant false) })).device 5 =
      some { valve with grant := some (grant false) } ∧
    ((bypassing (commandedZone 20) 0 true).boiler.forcing = true ∧
      (bypassing (commandedZone 20) 0 true).boiler.config.bypassZone = some 0 ∧ valve.target ≠ 100) := by decide +kernel

theorem met_ZoneValvesTakeTargets_tick :
    (commandedZone 20).time.ready = true ∧ (0 : Fin 16) ∈ (commandedZone 20).time.ticking ∧
    (commandedZone 20).boiler.config.bypassZone ≠ some 0 ∧ valve.zone = some 0 := by decide +kernel

theorem met_ZoneValvesTakeTargets_tick_step :
    exec (.zoneControlTick 0) (commandedZone 20) = .next (after (commandedZone 20) (.zoneControlTick 0)) := rfl

theorem met_HandOfATarget :
    (let s := queued (live.setDevice 5 (some valve)) [entry];
      s.device 5 = some valve ∧ valve.kind = .valveHead ∧ (s.motor.queue.map Entry.slot).Nodup ∧
      s.motor.queue.Pairwise (fun e f => f.cls = .urgent → e.cls = .urgent) ∧ valve.grant = none ∧
      entry ∈ s.motor.queue ∧ entry.kind = .position ∧ valve.commanded = some 20 ∧ entry.cls = .normal) ∧
    ({ valve with state := .faulted }).state = .faulted ∧ ({ valve with grant := some (grant true) }).grant = some (grant true) ∧
    ({ entry with kind := .exercise }).kind = .exercise ∧
    (∀ e ∈ (live.setDevice 5 (some valve)).motor.queue, e.slot ≠ 5) := by decide +kernel

theorem met_RunStartsLine :
    (live.takes ∧ live.bus.line = .stopped) ∧ ((onLine live .starting).takes ∧ (onLine live .starting).bus.line = .starting) ∧
    ((onLine live .lineFault).takes ∧ (onLine live .lineFault).bus.line = .lineFault) ∧
    (let s := { onLine live .lineFault with bus := { (onLine live .lineFault).bus with recovery := some 7 } };
      s.bus.line = .lineFault ∧ s.bus.recovery = some 7) := by decide +kernel

/-- A RUNNING line with one grant at slot 5. -/
def granted : State :=
  let s := (onLine live .running).setDevice 5 (some { valve with grant := some (grant true) })
  { s with motor := { s.motor with outstanding := 1 } }

theorem met_StopAndOvercurrent :
    live.bus.line = .stopped ∧ granted.takes ∧ granted.MotorInv ∧ granted.bus.line ≠ .stopped ∧
    live.driveOn = false ∧ granted.driveOn = true := by decide +kernel

/-- A RUNNING line in its beacon, with an admission at slots 5 and 6. -/
def admitting (last : Option (Fin 48)) : State :=
  let d := { valve with state := DeviceState.admitted }
  let s := ((onLine live .running).setDevice 5 (some d)).setDevice 6 (some { d with serial := 9 })
  { s with registry := { s.registry with order := [5, 6], lastAssign := last } }

def atPart (s : State) (p : Part) : State := { s with bus := { s.bus with part := p } }

theorem met_CycleParts :
    live.driveOn = false ∧ (onLine live .running).driveOn = true ∧
    (let s := { onLine live .starting with bus := { (onLine live .starting).bus with starting := 3, cycle := 255 } };
      s.driveOn = true ∧ s.bus.line = .starting ∧ 3 ≤ s.bus.starting) ∧
    ((onLine live .running).bus.line = .running ∧ (onLine live .running).bus.part = .beacon ∧
      (onLine live .running).bus.announce = [] ∧ (onLine live .running).registry.order = []) ∧
    ((atPart (onLine live .running) (.slot 47)).bus.part = .slot 47) ∧
    ((onLine live .running).announce 3).bus.announce = 3 :: [] ∧
    ((admitting none).registry.order = 5 :: [6] ∧ (admitting none).registry.lastAssign = none ∧
      ((admitting none).device 5).isSome) ∧
    ((admitting (some 5)).registry.order.Nodup ∧ (admitting (some 5)).registry.order = [] ++ 5 :: 6 :: []) ∧
    ((admitting (some 6)).registry.order = 5 :: [6] ∧ (admitting (some 6)).registry.order.getLast? = some 6) ∧
    (onLine live .starting).bus.line ≠ .running ∧ (atPart (onLine live .running) .join).bus.part = .join ∧
    (atPart (onLine live .running) .group).bus.part = .group := by
  decide +kernel

/-- The entry of a STALE valve before that of an ACTIVE one, at the boundary of window 1. -/
def waiting : State :=
  let s := ((onLine live .running).setDevice 5 (some valve)).setDevice 6
    (some { valve with serial := 9, state := .stale })
  let t := queued s [{ entry with slot := 6 }, entry]
  { t with bus := { t.bus with part := .slot 6, window := 1 } }

theorem met_WindowBoundaryGrants :
    waiting.MotorInv ∧ waiting.bus.line = .running ∧ waiting.bus.window ≤ 1 ∧ waiting.bus.part = .slot 6 ∧
    (6 : Fin 48).val ≤ 6 * 1 ∧ waiting.motor.queue = [{ entry with slot := 6 }] ++ entry :: [] ∧
    waiting.device 5 = some valve ∧ valve.state = .active ∧
    ((waiting.device 6).map Device.state = some .stale) ∧ (waiting.motor.outstanding : Int) < waiting.motor.tokenLimit := by
  decide +kernel

/-- All three tokens are out. -/
def spent : State :=
  let d := { valve with grant := some (grant true) }
  let s := (((onLine live .running).setDevice 5 (some d)).setDevice 6 (some { d with serial := 9 })).setDevice 7
    (some { d with serial := 10 })
  { s with motor := { s.motor with outstanding := 3 } }

theorem met_WindowBoundaryGrants_spent :
    spent.MotorInv ∧ (spent.motor.outstanding : Int) = spent.motor.tokenLimit ∧ spent.bus.window ≤ 7 ∧
    spent.bus.part = .beacon ∧ spent.motor.queue = [] := by decide +kernel

theorem met_DeviceSlotBegins :
    (onLine live .running).bus.line = .running ∧ (onLine live .running).bus.part = .beacon ∧
    (atPart (onLine live .running) (.slot 4)).bus.part = .slot 4 ∧ (4 : Fin 48) < 5 ∧
    (onLine live .running).device 5 = none ∧ granted.device 5 = some { valve with grant := some (grant true) } ∧
    ({ valve with fresh := true }).fresh = true ∧ valve.fresh = false ∧
    ({ valve with state := .retiring }).state = .retiring ∧ (grant false).running = false ∧
    (grant true).running = true := by decide +kernel

/-- A REPORT of the valve head at address 6: 21.0 °C, position 40, IDLE. -/
def report : List Byte := [0x61, 6, 0, 210, 40, 0, 0x0E]

theorem met_SlotEnds :
    ((answering valve).bus.line = .running ∧ (answering valve).bus.answer = some 5 ∧
      (answering valve).device 5 = some valve ∧ valve.state ≠ .retiring) ∧
    (crcGood (withCrc [0x61, 6, 0x04, 0x4D, 40, 0]) = true ∧
      readReport .valveHead 6 (withCrc [0x61, 6, 0x04, 0x4D, 40, 0]).dropLast = some (.valve 1101 40 .idle)) ∧
    crcGood [0x61, 6, 0, 210, 40, 0, 0x0F] = false ∧
    (readReport .valveHead 6 (withCrc [0x61, 7, 0, 210, 40, 0]).dropLast).isNone ∧
    (crcGood report = true ∧ readReport .valveHead 6 report.dropLast = some (.valve 210 40 .idle)) ∧
    (valve.kind ≠ .roomUnit ∧ valve.grant = none) ∧
    (device 8 .roomSensor).kind = .roomSensor ∧
    readReport .roomSensor 6 (withCrc [0x61, 6, 0x01, 0xF4]).dropLast = some (.sensor 500) ∧
    live.bus.line ≠ .running ∧ (answering valve).bus.answer ≠ some 6 := by decide +kernel

/-- A valve with a RUNNING grant, ADMITTED or not, and a RETIRING record, await their answer. -/
theorem met_SlotEnds_running :
    (let d := { valve with grant := some (grant true), state := DeviceState.admitted };
      let s := answering d;
      s.bus.line = .running ∧ s.bus.answer = some 5 ∧ s.device 5 = some d ∧ d.kind = .valveHead ∧ d.state ≠ .retiring ∧
        d.grant = some (grant true) ∧ (grant true).running = true) ∧
    (let d := { valve with state := DeviceState.retiring };
      (answering d).bus.line = .running ∧ (answering d).bus.answer = some 5 ∧ (answering d).device 5 = some d) := by
  decide +kernel

theorem met_GrantEnds :
    (granted.device 5 = some { valve with grant := some (grant true) } ∧
      ({ valve with grant := some (grant true) }).grant = some (grant true)) ∧
    ((grant true).mark = false ∧ 2 < |(57 : Int) - (grant true).target|) ∧ |(58 : Int) - (grant true).target| ≤ 2 ∧
    ({ valve with failureRun := 1 }).failureRun + 1 < 3 ∧
    3 ≤ ({ valve with failureRun := 2 }).failureRun + 1 ∧
    ({ valve with failureRun := 2, state := .admitted }).state = .admitted ∧
    (answering valve).device 5 = some valve ∧ valve.grant = none := by decide +kernel

/-- The join slot of a RUNNING cycle carried INVITE. -/
def inviting (s : State) : State :=
  { onLine s .running with bus := { (onLine s .running).bus with part := .join, invited := true } }

theorem met_JoinRequests :
    ((inviting live).bus.line = .running ∧ (inviting live).bus.invited = true) ∧ readJoin [] = none ∧
    readJoin (withCrc [0x62, 0, 0, 0, 2, 0]) = some (2, .valveHead) ∧
    (∀ (i : Fin 48), ∀ d ∈ (inviting live).device i, d.serial ≠ 2) ∧ (∀ e ∈ (inviting live).bus.joins, e.serial ≠ 2) ∧
    (inviting live).bus.joins.length < 8 ∧ (inviting live).bus.lastEntry < 65535 ∧
    (8 ≤ (inviting (joins live 8 0)).bus.joins.length ∧ ∀ e ∈ (inviting (joins live 8 0)).bus.joins, e.serial ≠ 9) ∧
    ((inviting (joins live 7 0)).SerialInv ∧
      { number := 2, serial := 2, kind := .valveHead, sightings := 1, age := 0 } ∈ (inviting (joins live 7 0)).bus.joins) ∧
    ((inviting (live.setDevice 5 (some valve))).SerialInv ∧
      (inviting (live.setDevice 5 (some valve))).device 5 = some valve ∧ valve.serial = 7 ∧
      valve.state ≠ .retiring ∧ valve.kind = .valveHead ∧ valve.kind ≠ .roomUnit) ∧
    ({ valve with state := .retiring }).state = .retiring := by decide +kernel

/-- Every slot holds a record. -/
def crowded : State := slots.foldl (fun (s : State) (i : Fin 48) => s.setDevice i
  (some { device (100 + i.val) .roomSensor with zone := none })) (joins live 2 0)

theorem met_AdmitCreatesRecord :
    live.takes ∧ (16 ≤ (16 : Byte).toNat ∧ (16 : Byte) ≠ 255) ∧
    (∀ e ∈ live.bus.joins, e.serial ≠ 1) ∧ (15 : Byte).toNat < 16 ∧
    ((joins live 2 0).takes ∧
      { number := 2, serial := 2, kind := .valveHead, sightings := 1, age := 0 } ∈ (joins live 2 0).bus.joins ∧
      (joins live 2 0).device 0 = none ∧ (15 : Byte).toNat = (some (15 : Fin 16)).elim 255 Fin.val ∧
      ((joins live 2 0).zone 15).valves < 6) := by decide +kernel

theorem met_AdmitCreatesRecord_inv : live.AdmissionInv ∧ live.SerialInv ∧ (joins live 2 0).AdmissionInv ∧
    (joins live 2 0).SerialInv := by decide +kernel

theorem met_AdmitCreatesRecord_full :
    (crowded.AdmissionInv ∧ crowded.SerialInv ∧ ∀ j : Fin 48, crowded.device j ≠ none) ∧
    (let s := (joins live 2 0).setZone 0 { live.zone 0 with valves := 6 };
      s.AdmissionInv ∧ s.SerialInv ∧ s.device 0 = none ∧ 6 ≤ (s.zone 0).valves) := by decide +kernel

theorem met_DeviceAndJoinRecords :
    (live.takes ∧ ∀ i : Fin 48, (5 : Word).toNat = i.val → live.device i = none) ∧
    ((answering valve).takes ∧ (5 : Word).toNat = (5 : Fin 48).val ∧ (answering valve).device 5 = some valve) ∧
    (∃ x ∈ items [(5, 0)], x.code ≠ 0 ∧ x.code ≠ 4) ∧ (16 ≤ (16 : Word).toNat ∧ (16 : Word) ≠ 0x8000) ∧
    (0x8000 : Word).toNat = (none : Option (Fin 16)).elim 0x8000 Fin.val ∧ none ≠ valve.zone ∧
    (0 : Word).toNat = (some (0 : Fin 16)).elim 0x8000 Fin.val ∧ some 0 = valve.zone ∧
    ({ valve with state := .retiring }).state = .retiring ∧
    (let s := (answering valve).setZone 1 { live.zone 1 with valves := 6 };
      s.takes ∧ s.device 5 = some valve ∧ valve.kind = .valveHead ∧ 6 ≤ (s.zone 1).valves) ∧
    (let s := (answering valve).setZone 1 { live.zone 1 with valves := 5 };
      s.device 5 = some valve ∧ (s.zone 1).valves < 6) ∧
    (∀ e ∈ (joins live 2 9).bus.joins, e.number ≠ (3 : Word).toNat) ∧
    { number := 2, serial := 2, kind := .valveHead, sightings := 1, age := 9 } ∈ (joins live 2 9).bus.joins := by
  decide +kernel

/-- A REPORT of the room unit at address 6: 21.0 °C, the button with this code, sequence 1. -/
def press (b : Byte) : List Byte := withCrc [0x61, 6, 0, 210, b, 1]

theorem met_ButtonEvents :
    ((answering unit).HoldInv ∧ (answering unit).bus.line = .running ∧ (answering unit).bus.answer = some 5 ∧
      (answering unit).device 5 = some unit ∧ unit.kind = .roomUnit ∧ unit.state ≠ .retiring ∧ unit.state ≠ .faulted) ∧
    (crcGood (press 1) = true ∧ readReport .roomUnit 6 (press 1).dropLast = some (.unit 210 .up 1) ∧ 1 ≠ unit.lastSeq) ∧
    readReport .roomUnit 6 (press 0).dropLast = some (.unit 210 .none 1) ∧
    readReport .roomUnit 6 (press 4).dropLast = some (.unit 210 .presence 1) ∧
    readReport .roomUnit 6 (press 3).dropLast = some (.unit 210 .cancel 1) ∧
    (answering unit).house.mode = .occupied ∧
    ((inMode (answering unit) .vacant).house.mode = .vacant ∧
      (inMode (answering unit) .vacant).house.wakePresence = true) ∧
    ({ unit with zone := none }).zone = none ∧ unit.zone = some 0 ∧ (answering unit).stackOf (roomIndex 0) = [] := by
  decide +kernel

theorem met_ButtonEvents_stacks :
    (let h := { hold 9 (.countdown 30) with origin := .device 6 };
      let s := (answering unit).setStack 0 [h];
      s.HoldInv ∧ s.stackOf (roomIndex 0) = h :: [] ∧ h.origin = .device (5 + 1) ∧ h.ending = .countdown 30) ∧
    (let s := { answering { unit with zone := some 6 } with holds := fullPool.holds };
      s.HoldInv ∧ s.stackOf (roomIndex 6) = [] ∧ 24 ≤ s.poolCount) ∧
    (let s := { answering unit with holds := fullPool.holds };
      s.HoldInv ∧ (s.stackOf (roomIndex 0)).length = 4 ∧
        ∀ h ∈ (s.stackOf (roomIndex 0)).head?, h.origin ≠ .device 6) := by decide +kernel

/-! A step from a state that meets the invariants: `live` with a command waiting. -/

def stepping : State := { live with pending := [.run] }

theorem met_StepKeepsTokens : stepping.MotorInv ∧ granted.MotorInv := by decide +kernel
theorem met_StepKeepsStores : stepping.ProgramInv ∧ stepping.HoldInv ∧ stepping.HouseInv ∧
    fullList.ProgramInv ∧ fullPool.HoldInv := by decide +kernel
theorem met_StepKeepsZones : stepping.ZoneInv := by decide +kernel
theorem met_StepKeepsHeatAndLine_boiler : stepping.BoilerInv := by decide +kernel
theorem met_StepKeepsHeatAndLine_rest : stepping.CylinderInv ∧ stepping.BusInv := by decide +kernel
theorem met_StepKeepsRegistry : stepping.SerialInv ∧ stepping.AdmissionInv := by decide +kernel
theorem met_StepKeepsRegistry_counts : stepping.MemberInv ∧ granted.DeviceInv ∧ stepping.DeviceInv := by decide +kernel
/-- RUN is stepped: a state that meets every invariant has a step. -/
theorem met_step : step stepping = .next (after { stepping with pending := [] } .run) := rfl

/-- The pump runs for zone 0, whose valve is closed, and forcing holds the valve of bypass zone 1 open. -/
def forced : State :=
  let s := (closed.setDevice 5 (some { valve with commanded := some 0, target := 0 })).setDevice 6
    (some { valve with serial := 9, zone := some 1, commanded := some 0, target := 100 })
  { s with boiler := { s.boiler with pump := .running, forcing := true } }

theorem met_BypassPathKept :
    forced.BypassInv ∧ forced.boiler.pump ≠ .stopped ∧ forced.boiler.config.bypassZone = some 1 ∧
    forced.cylinder.state ≠ .charging ∧ forced.boiler.forcing = true := by decide +kernel

/-- A boiler write that carries these items. -/
def boilerWrite (l : List (Nat × Int)) (s : State) : State := after s (.writeBoiler 0 (items l))

/-- The burner that a boiler write finds READY: no demand, a start, starts_limit reached, and the check failing. -/
theorem met_WriteBoilerStores_starts :
    (let s := burning live .ready; s.takes ∧ s.time.ready = true ∧ boilerCheck s.boiler.config (items [(9, 20)]) = true ∧
      (boilerWrite [(9, 20)] s).burnerDemand = false) ∧
    (let s := burning (cold 200 [5, 4, 3, 2, 1]) .ready; let t := boilerWrite [(9, 20)] s;
      s.takes ∧ t.burnerDemand = true ∧ s.boiler.tf = ⟨some 200, some .ok⟩ ∧ 200 ≤ t.flowTarget - 20 ∧
        t.boiler.config.startsLimit = 6 ∧ t.reportedPass = true) ∧
    (let s := burning (cold 200 [5]) .ready; let t := boilerWrite [(14, 1)] s;
      boilerCheck s.boiler.config (items [(14, 1)]) = true ∧ t.burnerDemand = true ∧
        200 ≤ t.flowTarget - t.boiler.config.onDiff ∧ t.boiler.config.startsLimit = 1) ∧
    (let s := burning closed .ready; let t := boilerWrite [(18, 1)] s;
      s.takes ∧ boilerCheck s.boiler.config (items [(18, 1)]) = true ∧ t.burnerDemand = true ∧
        200 ≤ t.flowTarget - t.boiler.config.onDiff ∧ t.reportedPass = false) := by decide +kernel

/-- The burner that a boiler write finds firing, with tBON ended and without, and in a state that it leaves alone. -/
theorem met_WriteBoilerStores_stops :
    (let s := { firing 300 with time := { live.time with now := 60000 } };
      s.takes ∧ (boilerWrite [(11, 1)] s).burnerDemand = false ∧ s.boiler.minOn = some 0 ∧
        boilerCheck s.boiler.config (items [(10, 20)]) = true ∧ carries (items [(10, 20)]) 11 = false) ∧
    ((locked none 0 true).takes ∧ (locked none 0 true).boiler.burner = .lockedOut) := by decide +kernel

/-- A boiler write that begins forcing, and one that gives the valve of the old bypass zone back. -/
theorem met_WriteBoilerStores_forcing :
    (let s := { forced with boiler := { forced.boiler with forcing := false } }; let t := boilerWrite [(18, 50)] s;
      s.takes ∧ boilerCheck s.boiler.config (items [(18, 50)]) = true ∧ t.boiler.forcing = true ∧
        t.boiler.config.bypassZone = some 1) ∧
    (forced.takes ∧ boilerCheck forced.boiler.config (items [(17, 0)]) = true ∧
      (boilerWrite [(17, 0)] forced).boiler.config.bypassZone = some 0 ∧ forced.boiler.config.bypassZone = some 1 ∧
      (forced.device 6).any (fun d => d.servesZone 1) = true) ∧
    (live.boiler.forcing = false ∧ (boilerWrite [(9, 20)] live).boiler.forcing = false) := by decide +kernel

/-- A WRITE that brings a failing check into force under a firing burner does not evaluate it (R121). -/
theorem test_boiler_write_firing_check :
    (let s := burning (closed.setBoiler { closed.boiler with config := live.boiler.config }) .firing;
      let t := boilerWrite [(17, 1)] { s with boiler := { s.boiler with minOn := some 1000 } };
      t.boiler.burner = .firing ∧ t.reportedPass = false ∧ t.boiler.reported = some true) := by decide +kernel

/-- Taking tBOFF short starts a burner that was OFF, and a write of bypass_zone gives the old zone its own target. -/
theorem test_boiler_write_evaluates :
    (boilerWrite [(12, 1)] { cold 200 [] with time := { live.time with now := 60000 } }).boiler.burner = .firing ∧
    ((boilerWrite [(17, 0)] forced).device 6).map Device.target = some 0 := by decide +kernel

/-- The pump starts with a path too small, and stops with forcing in force: forcing begins, and ends. -/
theorem met_ZoneValvesTakeTargets_forcing :
    (let s := { forced with boiler := { forced.boiler with forcing := false } };
      s.boiler.forcing = false ∧ s.boiler.pump ≠ .stopped ∧ s.commandedPass = false ∧
        (s.motor.queue.map Entry.slot).Nodup) ∧
    (let s := { forced with boiler := { forced.boiler with pump := .stopped } };
      s.boiler.forcing = true ∧ s.boiler.pump = .stopped) ∧
    (forced.device 6).map (fun d => (d.kind, d.zone, d.state)) = some (.valveHead, some 1, .active) := by decide +kernel

/-- A state whose pump is about to start. -/
def forcingBegins : State := { forced with boiler := { forced.boiler with forcing := false, pump := .stopped } }

theorem met_ZoneValvesTakeTargets_begins :
    forcingBegins.MotorInv ∧ forcingBegins.boiler.forcing = false ∧
    (after forcingBegins .tboffExpiry).boiler.forcing = true ∧
    (after forcingBegins .tboffExpiry).boiler.config.bypassZone = some 1 ∧
    ((after forcingBegins .tboffExpiry).device 6).map Device.grant = some none := by decide +kernel

theorem met_ZoneValvesTakeTargets_ends :
    forcingEnds.MotorInv ∧ forcingEnds.boiler.forcing = true ∧
    (after forcingEnds .pumpOverrunExpiry).boiler.forcing = false ∧ forcingEnds.boiler.config.bypassZone = some 1 := by
  decide +kernel

theorem met_ZoneValvesTakeTargets_events_step :
    exec .tboffExpiry forcingBegins = .next (after forcingBegins .tboffExpiry) ∧
    exec .pumpOverrunExpiry forcingEnds = .next (after forcingEnds .pumpOverrunExpiry) := ⟨rfl, rfl⟩

/-- The reported check out of force, and in force with its result. -/
theorem met_BypassPathKept_reported :
    stepping.ReportedInv ∧
    (let s := { closed with boiler := { closed.boiler with reported := some false }, pending := [Instr.run] };
      s.ReportedInv ∧ s.checkInForce = true ∧ s.boiler.burner ≠ .firing) := by decide +kernel

theorem met_BurnerStopsAndStarts :
    (firing 300).time.ready = true ∧ (firing 300).BoilerInv ∧ (firing 300).boiler.burner = .firing ∧
    (firing 300).boiler.minOn.isSome ∧ (after (firing 300) .lockoutAssert).boiler.burner ≠ .firing ∧
    (cold 200 []).boiler.burner ≠ .firing ∧ (after (cold 200 []) .tboffExpiry).boiler.burner = .firing := by
  decide +kernel

theorem met_BurnerStopsAndStarts_step :
    exec .lockoutAssert (firing 300) = .next (after (firing 300) .lockoutAssert) ∧
    exec .tboffExpiry (cold 200 []) = .next (after (cold 200 []) .tboffExpiry) := ⟨rfl, rfl⟩

/-! ### The spec's worked examples -/

/-- 00_scope.md, "Rounding". -/
theorem test_roundings : floorDiv 2752 100 = 27 ∧ ceilDiv 588 10 = 59 ∧ nearestUp 1975 10 = 198 ∧
    nearestUp (-25) 10 = -2 ∧ nearestAway (-25) 10 = -3 := by decide +kernel

/-- A WRITE of zone 3 from the power-on defaults: the answer, and four stored fields. -/
def written (l : List (Nat × Int)) : Result × List Int :=
  let t := after live (.writeZone 3 (items l))
  let c := (t.zone 3).config
  (t.link.held.result, [c.frostFloor, c.comfortCeiling, c.requestOn, c.requestOff])

/-- 01_zones.md, the examples after R13. -/
theorem test_write_zone_examples :
    written [(8, 120)] = (.clamped, [100, 280, 150, 50]) ∧ written [(8, 290)] = (.badValue, [50, 280, 150, 50]) ∧
    written [(9, 40)] = (.badValue, [50, 280, 150, 50]) ∧ written [(9, 320), (8, 310)] = (.clamped, [100, 300, 150, 50]) ∧
    written [(11, 55)] = (.clamped, [50, 280, 55, 45]) ∧ written [(11, 600), (12, 560)] = (.clamped, [50, 280, 500, 490]) ∧
    written [(12, 150)] = (.badValue, [50, 280, 150, 50]) ∧ written [(12, 145)] = (.clamped, [50, 280, 150, 140]) := by
  decide +kernel

/-- Integral and demand of a RADIATOR zone after one control tick with a temperature. -/
def ticked (sp t kp ki i : Int) : Int × Int :=
  let q := Zone.computed { Zone.reset with
    setpoint := sp, integral := i, config := { ZoneConfig.reset with control := { emitter := .radiator, weight := 10, kp, ki } } } t
  (q.integral, q.demand)

/-- 05, "Worked cases: at the limits". -/
theorem test_demand_cases :
    ticked 210 198 25 4 240 = (288, 588) ∧ ticked 240 100 25 4 600 = (600, 1000) ∧ ticked 180 300 25 4 0 = (0, 0) ∧
    ticked 200 220 25 4 200 = (200, 0) ∧ ticked 200 204 25 4 1000 = (984, 884) ∧ ticked 210 208 10 20 970 = (1000, 1000) ∧
    ticked 200 200 25 4 350 = (350, 350) ∧ ticked 210 190 30 0 0 = (0, 600) := by decide +kernel

/-- 05, "Worked cases: valve targets": target and whether it is handed. -/
theorem test_valve_targets :
    valveTarget 8 0 = 0 ∧ valveTarget 8 5 = 8 ∧ valveTarget 8 70 = 8 ∧ valveTarget 8 588 = 59 ∧ valveTarget 8 995 = 100 ∧
    valveTarget 0 5 = 1 ∧ outsideDeadband 3 0 (some 0) = false ∧ outsideDeadband 3 0 (some 2) = true ∧
    outsideDeadband 3 8 none = true ∧ outsideDeadband 3 59 (some 57) = false ∧ outsideDeadband 3 59 (some 55) = true ∧
    outsideDeadband 3 100 (some 98) = true := by decide +kernel

/-- 06, "Worked case: load, flow target and modulation". -/
def fourZones : State :=
  let f := fun (s : State) (z : Fin 16) (state : ZoneState) (u w sp : Int) => s.setZone z { s.zone z with
    state, demand := u, setpoint := sp, config := { ZoneConfig.reset with control := { ZoneConfig.reset.control with weight := w } } }
  let s := f (f (f (f (firing 540) 0 .calling 620 20 210) 1 .calling 400 12 200) 2 .satisfied 80 8 190) 3 .satisfied 0 10 180
  { s with boiler := { s.boiler with tout := takeSensor .unread (-50) } }

theorem test_flow_target : fourZones.roomLoad = 344 ∧ fourZones.leadSetpoint = some 210 ∧ fourZones.flowTarget = 601 ∧
    fourZones.modulation = 68 := by decide +kernel

/-- The states after a list of commands and events, in turn. -/
def run (s : State) (l : List Instr) : State := l.foldl after s

/-- 06, "Worked sequence: lockout and reset attempts". -/
theorem test_lockout_attempts :
    let a := run (firing 300) [.lockoutAssert, .boilerReset, .boilerReset];
    let b := run a [.lockoutResetPulseEnd];
    let c := run b [.boilerReset, .lockoutResetPulseEnd, .boilerReset, .lockoutResetPulseEnd, .boilerReset];
    let d := after c .lockoutRelease;
    (a.boiler.burner = .lockedOut ∧ a.boiler.attempts = 0 ∧ a.link.held.result = .ok ∧ a.bresetPin = true) ∧
    (b.boiler.attempts = 1 ∧ b.bresetPin = false) ∧ (c.boiler.attempts = 3 ∧ c.link.held.result = .state) ∧
    d.boiler.burner = .off ∧ d.boiler.attempts = 0 := by decide +kernel

/-- 06, the start list at minute 60 of the worked sequence: the burner waits for STARTS with the ages 59 and 47; the tick
removes the oldest, and the start it lets is 0 minutes old, whether the removal is commanded on its own or comes with
the tick. -/
def fullHour : State :=
  let s := burning (cold 200 [59, 47]) (.wait .starts)
  { s with boiler := { s.boiler with config := { s.boiler.config with startsLimit := 2 } } }

theorem test_start_list_minute_60 :
    ((after fullHour .minuteTick).boiler.startList, (after fullHour .minuteTick).boiler.burner) = ([48, 0], .firing) ∧
    (let t := run fullHour [.startListEntryExpiry, .startListEntryExpiry, .minuteTick];
      (t.boiler.startList, t.boiler.burner, t.clock.minuteAt) = ([48, 0], .firing, some 120000)) := by decide +kernel

/-- R76: SET MODE VACANT with 600 minutes between the last minute of the countdown and the tick's other blocks keeps 600. -/
theorem test_countdown_between :
    (run (counting 1) [.returnCountdownExpiry, .setMode 2 600, .minuteTick]).house.countdown = some 600 ∧
    (run (counting 1) [.setMode 2 600, .minuteTick]).house.countdown = some 599 := by decide +kernel

/-- R78: a zone computation of a control tick that a warm reset finds still to be taken is taken after READY. -/
theorem test_ticking_outlives_warm_reset : (after live .warmReset).time.ticking = [0, 1] := by decide +kernel

/-- 07, "Worked sequence: a charge with a heating gap": the end of the gap at 47.0 °C resumes the charge. -/
theorem test_gap_resumes : (after (channel .gap 470) .tgapExpiry).cylinder.state = .charging := by decide +kernel

/-- 03, "Worked sequence: filling a stack": the counter wraps past 65535 and skips the handle in use. -/
def wrapping : State :=
  let s := live.setStack 3 [hold 1 .indefinite]
  { s with holds := { s.holds with handles := 65534 } }

theorem test_handles_wrap :
    let c := fun (sp : Int) => Instr.createHold (items [(2, 1), (3, sp), (4, 2), (7, 0)]);
    ((run wrapping [c 200, c 210, c 220, c 230, c 300]).stackOf 1).map (fun h => (h.handle, h.setpoint)) =
      [(4, 280), (3, 230), (2, 220), (65535, 210)] := by decide +kernel

/-- A good report of 21.0 °C makes an ADMITTED valve ACTIVE. -/
theorem test_report_activates :
    ((after (answering { valve with state := .admitted }) (.deviceSlotEnd 5 (some report))).device 5).map
      (fun d => (d.state, d.lastTemp, d.reported)) = some (.active, some 210, some 40) := by decide +kernel

/-- The third failure in a row makes a valve FAULTED, its commanded position unknown (R186). -/
theorem test_third_failure_faults :
    ((after ((onLine live .running).setDevice 5 (some { valve with grant := some (grant true), failureRun := 2 }))
      (.grantTimeout 5)).device 5).map (fun d => (d.state, d.commanded)) = some (.faulted, none) := by decide +kernel

/-- RUN on a STOPPED line, then three more cycles: the fourth begins RUNNING (R142). -/
theorem test_fourth_cycle_runs :
    (run live [.run, .cycleBegin, .cycleBegin]).bus.line = .starting ∧
    (run live [.run, .cycleBegin, .cycleBegin, .cycleBegin]).bus.line = .running := by decide +kernel

/-- A minute tick at the end of Sunday is followed by Monday 00:00 (R24). -/
theorem test_week_wraps :
    (after { live with clock := { live.clock with timeOfWeek := some 10079 } } .minuteTick).clock.timeOfWeek = some 0 := by
  decide +kernel

/-- The wake input in SETBACK returns the house to OCCUPIED with the cause recorded (R69). -/
theorem test_wake_input :
    (after (inMode live .setback) .wakeInputEdge).house.mode = .occupied ∧
    (after (inMode live .setback) .wakeInputEdge).house.lastCause = some .input := by decide +kernel

end Sys2Proof.Tests
end

/-! The host link frame, written and read back: what stands at each place of a request, which fields the decoder takes
from there, and the round trip of every well-formed command (R2, R197, R198, R200, R201, R205). -/

namespace Sys2Proof

/-! ### Words and bytes -/

@[simp] theorem Word.ofBytes_hi_lo (w : Word) : Word.ofBytes w.hi w.lo = w := by
  unfold Word.ofBytes Word.hi Word.lo
  rw [BitVec.extractLsb'_append_extractLsb'_eq_extractLsb' (by decide)]
  simp

/-- The four bytes of a serial, high byte first, are the serial (R205). -/
theorem serial_of_bytes (s : BitVec 32) :
    s.extractLsb' 24 8 ++ s.extractLsb' 16 8 ++ s.extractLsb' 8 8 ++ s.extractLsb' 0 8 = s := by
  rw [BitVec.extractLsb'_append_extractLsb'_eq_extractLsb' (by decide),
    BitVec.extractLsb'_append_extractLsb'_eq_extractLsb' (by decide),
    BitVec.extractLsb'_append_extractLsb'_eq_extractLsb' (by decide)]
  simp

namespace Machine

/-- Bytes followed by their check byte are good (R2). -/
theorem crcGood_withCrc (bytes : List Byte) : crcGood (withCrc bytes) = true := by
  simp [crcGood, withCrc]

@[simp] theorem kindOf_kindCode (kind : RecordKind) : kindOf (kindCode kind) = some kind := by
  cases kind <;> rfl

end Machine

namespace Frame

open Machine

/-! ### A request byte by byte -/

theorem length_request (command kind : Byte) (k : Word) (p : List Byte) : (request command kind k p).length = 20 := by
  simp [request, withCrc]

theorem crcGood_request (command kind : Byte) (k : Word) (p : List Byte) :
    crcGood (request command kind k p) = true := crcGood_withCrc _

@[simp] theorem byte_request_zero (command kind : Byte) (k : Word) (p : List Byte) :
    byte (request command kind k p) 0 = command := rfl

@[simp] theorem byte_request_one (command kind : Byte) (k : Word) (p : List Byte) :
    byte (request command kind k p) 1 = kind := rfl

@[simp] theorem key_request (command kind : Byte) (k : Word) (p : List Byte) :
    key (request command kind k p) = k := Word.ofBytes_hi_lo k

/-- Bytes 4 to 18 are the payload, filled with 0. -/
theorem byte_request_payload (command kind : Byte) (k : Word) (p : List Byte) {n : Nat} (h4 : 4 ≤ n) (h19 : n < 19) :
    byte (request command kind k p) n = p.getD (n - 4) 0 := by
  obtain ⟨m, rfl⟩ := Nat.exists_eq_add_of_le' h4
  have hm : m < 15 := by omega
  calc byte (request command kind k p) (m + 4)
      = ((p ++ List.replicate 15 0).take 15 ++ [_]).getD m 0 := rfl
    _ = ((p ++ List.replicate 15 0).take 15).getD m 0 := List.getD_append _ _ _ _ (by simp [hm])
    _ = (p ++ List.replicate 15 0).getD m 0 := by
      rw [List.getD_eq_getElem?_getD, List.getElem?_take_of_lt hm, List.getD_eq_getElem?_getD]
    _ = p.getD (m + 4 - 4) 0 := by
      rw [Nat.add_sub_cancel]
      rcases Nat.lt_or_ge m p.length with hin | hout
      · exact List.getD_append _ _ _ _ hin
      · rw [List.getD_append_right _ _ _ _ hout, List.getD_eq_default p 0 hout, List.getD_replicate]
        omega

/-- A request is no short frame, and its check byte is right. -/
theorem decode_request (command kind : Byte) (k : Word) (p : List Byte) :
    decode (request command kind k p) = decodeRequest (request command kind k p) := by
  simp [decode, length_request, crcGood_request]

/-! ### Item slots (R201) -/

/-- An item slot with code 0 holds no item. -/
def emptySlot : Item := ⟨0, 0⟩

/-- Item slots are three bytes each: byte `3 * n + j` of the payload is byte `j` of slot `n`, an empty one after the
last item. -/
theorem getD_flatMap_slotBytes (is : List Item) (n : Nat) {j : Nat} (hj : j < 3) :
    (is.flatMap slotBytes).getD (3 * n + j) 0 = (slotBytes (is.getD n emptySlot)).getD j 0 := by
  induction is generalizing n with
  | nil =>
    have : j = 0 ∨ j = 1 ∨ j = 2 := by omega
    rcases this with rfl | rfl | rfl <;> simp [slotBytes, emptySlot, Word.hi, Word.lo]
  | cons i is ih =>
    cases n with
    | zero =>
      have hlen : j < (slotBytes i).length := hj
      simp [List.getElem?_append_left hlen]
    | succ n =>
      have hlen : 3 * (n + 1) + j = 3 * n + j + (slotBytes i).length := by simp [slotBytes]; omega
      rw [List.flatMap_cons, hlen, List.getD_append_right _ _ _ _ (by omega), Nat.add_sub_cancel, ih]
      simp

theorem slot_itemRequest (command : Byte) (kind : RecordKind) (k : Word) (is : List Item) {n : Nat} (hn : n < 5) :
    slot (itemRequest command kind k is) (3 * n + 4) = is.getD n emptySlot := by
  have hbyte : ∀ j < 3, byte (itemRequest command kind k is) (3 * n + 4 + j) =
      (slotBytes (is.getD n emptySlot)).getD j 0 := fun j hj => by
    rw [itemRequest, byte_request_payload _ _ _ _ (by omega) (by omega), ← getD_flatMap_slotBytes is n hj]
    congr 1; omega
  have h0 := hbyte 0 (by decide)
  have h1 := hbyte 1 (by decide)
  have h2 := hbyte 2 (by decide)
  simp only [Nat.add_zero] at h0
  simp [slot, h0, h1, h2, slotBytes]

/-- The slots that are not empty, among as many slots as hold the list, are its items. -/
theorem filter_slots {is : List Item} (hcode : ∀ i ∈ is, i.code ≠ 0) {n : Nat} (hn : is.length ≤ n) :
    ((List.range n).map (is.getD · emptySlot)).filter (fun i => i.code != 0) = is := by
  induction n generalizing is with
  | zero => simp_all
  | succ n ih =>
    rw [List.range_succ_eq_map, List.map_cons, List.map_map]
    cases is with
    | nil => exact ih (is := []) (by simp) (Nat.zero_le n)
    | cons i is =>
      obtain ⟨hi, his⟩ := List.forall_mem_cons.mp hcode
      have hrest := ih his (Nat.le_of_succ_le_succ hn)
      rw [List.filter_cons_of_pos (by simpa using hi)]
      exact congrArg (i :: ·) hrest

theorem itemsWf_iff (is : List Item) : itemsWf is = true ↔ is.length ≤ 5 ∧ ∀ i ∈ is, i.code ≠ 0 := by
  simp [itemsWf]

theorem items_itemRequest (command : Byte) (kind : RecordKind) (k : Word) {is : List Item} (h : itemsWf is = true) :
    items (itemRequest command kind k is) = is := by
  have hslot := fun n (hn : n < 5) => slot_itemRequest command kind k is hn
  rw [items, hslot 0 (by decide), hslot 1 (by decide), hslot 2 (by decide), hslot 3 (by decide), hslot 4 (by decide)]
  obtain ⟨hlen, hcode⟩ := (itemsWf_iff is).mp h
  exact filter_slots hcode hlen

/-! ### The commands that name a record (R200) -/

theorem decode_write (kind : RecordKind) (k : Word) {is : List Item} (h : itemsWf is = true) :
    decode (itemRequest 2 kind k is) = decodeWrite kind k is (.badCommand 2 (kindCode kind)) := by
  calc decode (itemRequest 2 kind k is)
      = decodeWrite kind k (items (itemRequest 2 kind k is)) (.badCommand 2 (kindCode kind)) := by
        simp [itemRequest, decode_request, decodeRequest]
    _ = _ := by rw [items_itemRequest 2 kind k h]

theorem decode_create (kind : RecordKind) (k : Word) {is : List Item} (h : itemsWf is = true) :
    decode (itemRequest 3 kind k is) = decodeCreate kind k is (.badCommand 3 (kindCode kind)) := by
  calc decode (itemRequest 3 kind k is)
      = decodeCreate kind k (items (itemRequest 3 kind k is)) (.badCommand 3 (kindCode kind)) := by
        simp [itemRequest, decode_request, decodeRequest]
    _ = _ := by rw [items_itemRequest 3 kind k h]

theorem decode_retire (kind : RecordKind) (k : Word) (p : List Byte) :
    decode (request 4 (kindCode kind) k p) = decodeRetire kind k (p.getD 2 0) (.badCommand 4 (kindCode kind)) := by
  simp [decode_request, decodeRequest, byte_request_payload]

/-- READ of a kind other than POINT does not read payload byte 2 (R201). -/
theorem decode_read {kind : RecordKind} {zone : Byte} (h : readWf kind zone = true) (k : Word) (view first : Byte) :
    decode (request 1 (kindCode kind) k [view, first, zone]) = .read kind k view first zone := by
  have hzone : ¬kind = .point → 0 = zone := fun hk => Eq.symm (by simpa [readWf, hk] using h)
  simpa [decode_request, decodeRequest, byte_request_payload] using hzone

/-! ### WRITE of a zone (R7, R8, R9) -/

theorem decodeWriteZone_enable (z : Fin 16) : decodeWriteZone (BitVec.ofNat 16 z.val) [⟨16, 1⟩] = .enable z := by
  revert z; decide

theorem decodeWriteZone_disable (z : Fin 16) : decodeWriteZone (BitVec.ofNat 16 z.val) [⟨16, 0⟩] = .disable z := by
  revert z; decide

/-- A WRITE that does not carry the enable item alone is the row WRITE_ZONE. -/
theorem decodeWriteZone_of_not_enableAlone {k : Word} {is : List Item} (h : enableAlone k is = false) :
    decodeWriteZone k is = .writeZone k is := by
  have hnot : k.toNat ≤ 16 → is ≠ [⟨16, 0⟩] ∧ is ≠ [⟨16, 1⟩] := by simpa [enableAlone] using h
  have hroom (hk : k.toNat < 16) := hnot hk.le
  have hcylinder (hk : k = 16) := hnot (by simp [hk])
  rw [decodeWriteZone, dif_neg fun ⟨hk, his⟩ => (hroom hk).2 his, dif_neg fun ⟨hk, his⟩ => (hroom hk).1 his,
    if_neg fun ⟨hk, his⟩ => (hcylinder hk).2 his, if_neg fun ⟨hk, his⟩ => (hcylinder hk).1 his]

/-! ### BAD_COMMAND (R200) -/

theorem decodeWrite_of_not_takesWrite {kind : RecordKind} (h : takesWrite kind = false) (k : Word) (is : List Item)
    (bad : Instr) : decodeWrite kind k is bad = bad := by
  cases kind <;> simp_all [takesWrite, decodeWrite]

theorem decodeCreate_of_not_takesCreate {kind : RecordKind} (h : takesCreate kind = false) (k : Word) (is : List Item)
    (bad : Instr) : decodeCreate kind k is bad = bad := by
  cases kind <;> simp_all [takesCreate, decodeCreate]

theorem decodeRetire_of_not_takesRetire {kind : RecordKind} (h : takesRetire kind = false) (k : Word) (zone : Byte)
    (bad : Instr) : decodeRetire kind k zone bad = bad := by
  cases kind <;> simp_all [takesRetire, decodeRetire]

/-- A frame whose command and kind bytes fail checks 1 and 2 of R200 is read as BAD_COMMAND. -/
theorem decodeRequest_of_isBadCommand {f : List Byte} (h : isBadCommand (byte f 0) (byte f 1) = true) :
    decodeRequest f = .badCommand (byte f 0) (byte f 1) := by
  unfold isBadCommand at h
  split at h
  next hc => simp [decodeRequest, hc, Option.isNone_iff_eq_none.mp h]
  next hc => simp [decodeRequest, hc, Option.isNone_iff_eq_none.mp h]
  next hc =>
    cases hkind : kindOf (byte f 1) <;> simp_all [decodeRequest, decodeWrite_of_not_takesWrite]
  next hc =>
    cases hkind : kindOf (byte f 1) <;> simp_all [decodeRequest, decodeCreate_of_not_takesCreate]
  next hc =>
    cases hkind : kindOf (byte f 1) <;> simp_all [decodeRequest, decodeRetire_of_not_takesRetire]
  next =>
    have habove : 15 < (byte f 0).toNat := of_decide_eq_true h
    dsimp only [decodeRequest]
    split
    case h_17 => rfl -- the arm of the codes above 15
    all_goals omega

/-! ### The round trip -/

theorem decode_encode {c : Instr} {bytes : List Byte} (hwf : c.wf = true) (h : encode c = some bytes) :
    decode bytes = c := by
  cases c with
  | frameCrcError =>
    cases h
    obtain ⟨hlen, hbad⟩ : bytes.length = 20 ∧ crcGood bytes = false := by simpa [Instr.wf, crcErrorWf] using hwf
    simp [decode, hlen, hbad]
  | shortFrame =>
    cases h
    have hlen : bytes.length < 20 := of_decide_eq_true hwf
    simp [decode, hlen]
  | read kind k view first zone => cases h; exact decode_read hwf k view first
  | writeZone k is =>
    cases h
    obtain ⟨his, hnot⟩ : itemsWf is = true ∧ enableAlone k is = false := by simpa [Instr.wf] using hwf
    exact (decode_write .zone k his).trans (decodeWriteZone_of_not_enableAlone hnot)
  | enable z => cases h; exact (decode_write .zone _ rfl).trans (decodeWriteZone_enable z)
  | disable z => cases h; exact (decode_write .zone _ rfl).trans (decodeWriteZone_disable z)
  | zwEnable | zwDisable => cases h; exact decode_write .zone 16 rfl
  | writePoint k is => cases h; exact decode_write .point k hwf
  | writeHold k is => cases h; exact decode_write .hold k hwf
  | writeHouse k is => cases h; exact decode_write .house k hwf
  | writeBoiler k is => cases h; exact decode_write .boiler k hwf
  | writeDevice k is => cases h; exact decode_write .device k hwf
  | writeMotor k is => cases h; exact decode_write .motor k hwf
  | createPoint k is => cases h; exact decode_create .point k hwf
  | createHold is => cases h; exact decode_create .hold 0 hwf
  | retirePoint k zone => cases h; exact decode_retire .point k [0, 0, zone]
  | retireHold k => cases h; exact decode_retire .hold k []
  | retireDevice k => cases h; exact decode_retire .device k []
  | retireJoin k => cases h; exact decode_retire .join k []
  | badCommand command kind => cases h; exact (decode_request ..).trans (decodeRequest_of_isBadCommand hwf)
  | admitDevice serial zone =>
    cases h; simp [decode_request, decodeRequest, byte_request_payload, serial_of_bytes]
  | nop | seek | next | setClock | setMode | run | stop | boilerReset | readNotices | writeNoticeEnables | warmReset =>
    cases h; simp [decode_request, decodeRequest, byte_request_payload]
  | _ => cases h

/-- Every command but the two bad frames is spelled by a request. -/
theorem encode_eq_request {c : Instr} {bytes : List Byte} (h : encode c = some bytes)
    (hcrc : ∀ b, c ≠ .frameCrcError b) (hshort : ∀ b, c ≠ .shortFrame b) :
    ∃ command kind k p, bytes = request command kind k p := by
  cases c with
  | frameCrcError b => exact absurd rfl (hcrc b)
  | shortFrame b => exact absurd rfl (hshort b)
  | _ => cases h <;> exact ⟨_, _, _, _, rfl⟩

/-- Settles O3: the round trip by cases on the command, and every request is a good frame of 20 bytes. -/
theorem frameRoundTrip : Obligations.FrameRoundTrip := by
  intro c bytes hwf h
  refine ⟨decode_encode hwf h, fun hcrc hshort => ?_⟩
  obtain ⟨command, kind, k, p, rfl⟩ := encode_eq_request h hcrc hshort
  exact ⟨length_request command kind k p, crcGood_request command kind k p⟩

end Frame

end Sys2Proof

/-! What a command or event keeps of the invariants, said for one operation at a time: the relation `Keeps` between the
state before and the state after, its composition, and the registry's invariants as far as they read a record. -/

namespace Sys2Proof.Machine

/-! ### The relation -/

/-- Every invariant of Device Registry and join list. -/
abbrev State.RegistryInv (s : State) : Prop := s.SerialInv ∧ s.AdmissionInv ∧ s.MemberInv ∧ s.DeviceInv

/-- Every grant is one that a valve head in a state for grants holds. -/
abbrev State.GrantsOk (s : State) : Prop := ∀ i : Fin 48, ∀ d ∈ s.device i, grantOk d

/-- `t` meets the invariants of zones, boiler, cylinder channel, bus and registry that `s` meets; those of the registry
under `p`, which stands for what the step knows of grants. -/
structure Keeps (p : Prop) (s t : State) : Prop where
  zones : s.ZoneInv → t.ZoneInv
  boiler : s.BoilerInv → t.BoilerInv
  cylinder : s.CylinderInv → t.CylinderInv
  bus : s.BusInv → t.BusInv
  registry : p → s.RegistryInv → t.RegistryInv

variable {p : Prop} {s t u : State}

theorem Keeps.refl (s : State) : Keeps p s s := ⟨id, id, id, id, fun _ => id⟩

theorem Keeps.trans (h : Keeps p s t) (k : Keeps p t u) : Keeps p s u :=
  ⟨k.zones ∘ h.zones, k.boiler ∘ h.boiler, k.cylinder ∘ h.cylinder, k.bus ∘ h.bus,
    fun hp => k.registry hp ∘ h.registry hp⟩

theorem Keeps.ite {c : Prop} [Decidable c] (h : c → Keeps p s t) (k : ¬ c → Keeps p s u) :
    Keeps p s (if c then t else u) := by
  split
  · next hc => exact h hc
  · next hc => exact k hc

/-- A command with a check: the state it leaves either way. -/
theorem Keeps.ite_fst {c : Prop} [Decidable c] {a b : State × Answer} (h : c → Keeps p s a.1) (k : ¬ c → Keeps p s b.1) :
    Keeps p s (if c then a else b).1 := by
  split
  · next hc => exact h hc
  · next hc => exact k hc

/-- An operation that keeps at each step keeps over a list. -/
theorem Keeps.foldl {α : Type} {f : State → α → State} (h : ∀ (s : State) (a : α), Keeps p s (f s a)) (l : List α)
    (s : State) : Keeps p s (l.foldl f s) := by
  induction l generalizing s with
  | nil => exact Keeps.refl s
  | cons a l ih => exact (h s a).trans (ih _)

/-- No invariant of the five reads the time base, the clock, the house record, the motor block, the link or the queue. -/
theorem Keeps.outside (h : t = { s with
    time := t.time, clock := t.clock, house := t.house, motor := t.motor, link := t.link, pending := t.pending }) :
    Keeps p s t := by
  rw [h]; exact ⟨id, id, id, id, fun _ => id⟩

/-- The boiler block alone is written. -/
theorem Keeps.setBoiler {b : Boiler} (h : s.BoilerInv → (s.setBoiler b).BoilerInv) : Keeps p s (s.setBoiler b) :=
  ⟨id, h, id, id, fun _ => id⟩

/-- The cylinder record alone is written. -/
theorem Keeps.setCylinder {c : Cylinder} (h : s.CylinderInv → State.CylinderInv { s with cylinder := c }) :
    Keeps p s { s with cylinder := c } :=
  ⟨id, id, h, id, fun _ => id⟩

/-- The holds are written, and those of ZW are ones that stood before or lie in range. -/
theorem Keeps.setHolds {l : Holds}
    (h : (∀ g ∈ s.stackOf zw, levelOk zw (.deg g.setpoint)) → ∀ g ∈ l.stack[zw], levelOk zw (.deg g.setpoint)) :
    Keeps p s { s with holds := l } := by
  refine ⟨id, id, ?_, id, fun _ => id⟩
  rintro ⟨ht, ⟨hd, hp, hh⟩, hr⟩
  exact ⟨ht, ⟨hd, hp, h hh⟩, hr⟩

/-- A program list is written, whose levels lie in the range of its zone where those before did. -/
theorem Keeps.setPoints {z : Fin 17} {l : List Point}
    (h : (∀ q ∈ s.pointsOf z, levelOk z q.level) → ∀ q ∈ l, levelOk z q.level) : Keeps p s (s.setPoints z l) := by
  refine ⟨id, id, ?_, id, fun _ => id⟩
  rintro ⟨ht, ⟨hd, hp, hh⟩, hr⟩
  refine ⟨ht, ⟨hd, ?_, hh⟩, hr⟩
  rw [State.setPoints_pointsOf]
  split
  · next e => subst e; exact h hp
  · exact hp

/-! ### What the registry's invariants read -/

/-- A device record less the fields that no invariant of the registry reads. -/
def Device.registered (d : Device) : Device :=
  { d with
    lastTemp := none, commanded := none, target := 0, reported := none, motor := .idle, grant := none, next := none
    exercisePhase := .none, fresh := false }

/-- Two states are the same to the registry's invariants. -/
structure SameRegistry (s t : State) : Prop where
  device : ∀ i : Fin 48, (t.device i).map Device.registered = (s.device i).map Device.registered
  order : t.registry.order = s.registry.order
  lastAssign : t.registry.lastAssign = s.registry.lastAssign
  joins : t.bus.joins = s.bus.joins
  lastEntry : t.bus.lastEntry = s.bus.lastEntry
  valves : ∀ z : Fin 16, (t.zone z).valves = (s.zone z).valves
  sensors : ∀ z : Fin 16, (t.zone z).sensors = (s.zone z).sensors
  units : ∀ z : Fin 16, (t.zone z).units = (s.zone z).units

/-- A field that `Device.registered` keeps reads the same in both states. -/
theorem SameRegistry.map {α : Type} (h : SameRegistry s t) (f : Device → α) (hf : ∀ d, f d.registered = f d) (i : Fin 48) :
    (t.device i).map f = (s.device i).map f := by
  have e : f = f ∘ Device.registered := funext fun d => (hf d).symm
  rw [e, ← Option.map_map, ← Option.map_map, h.device i]

theorem SameRegistry.any (h : SameRegistry s t) (f : Device → Bool) (hf : ∀ d, f d.registered = f d) (i : Fin 48) :
    (t.device i).any f = (s.device i).any f := by
  have := congrArg (Option.any id) (h.map f hf i)
  simpa [Option.any_map] using this

theorem SameRegistry.serials (h : SameRegistry s t) : t.serials = s.serials := by
  simp only [State.serials, h.map Device.serial fun _ => rfl]

theorem SameRegistry.members (h : SameRegistry s t) (z : Fin 16) (k : DeviceKind) : t.members z k = s.members z k := by
  simp only [State.members, h.any (fun d => d.zone == some z && d.kind == k) fun _ => rfl]

theorem SameRegistry.pendingAt (h : SameRegistry s t) (i : Fin 48) : t.pendingAt i ↔ s.pendingAt i := by
  simp only [State.pendingAt, h.map Device.state fun _ => rfl]

theorem SameRegistry.deviceInv (h : SameRegistry s t) (k : s.DeviceInv) : t.DeviceInv := by
  intro i d hd
  have e : (s.device i).map Device.registered = some d.registered := by rw [← h.device i, hd]; rfl
  obtain ⟨d', hd', e'⟩ := Option.map_eq_some_iff.1 e
  have := k i d' hd'
  have : deviceOk d'.registered := this
  rw [e'] at this
  exact this

theorem SameRegistry.registryInv (h : SameRegistry s t) (k : s.RegistryInv) : t.RegistryInv := by
  obtain ⟨hs, ha, hm, hd⟩ := k
  refine ⟨?_, ?_, ?_, h.deviceInv hd⟩
  · simpa only [State.SerialInv, h.serials, h.joins, h.lastEntry] using hs
  · simpa only [State.AdmissionInv, h.order, h.lastAssign, h.pendingAt] using ha
  · simpa only [State.MemberInv, h.members, h.valves, h.sensors, h.units] using hm

/-- Settling writes no field that the registry's invariants read. -/
theorem State.SettlesTo.sameRegistry (h : s.SettlesTo t) : SameRegistry s t := by
  have hz : ∀ z, t.zone z = s.zone z := fun z => by simp only [State.zone, h.zones]
  refine ⟨fun i => ?_, h.order, by rw [h.1], by rw [h.bus], by rw [h.bus], fun z => by rw [hz], fun z => by rw [hz],
    fun z => by rw [hz]⟩
  have e : Device.registered = Device.registered ∘ Device.kept := rfl
  rw [e, ← Option.map_map, ← Option.map_map, h.2 i]

/-- Settling keeps zones, bus and registry; boiler and channel as their parts of the evaluation do. -/
theorem Keeps.settles (h : s.SettlesTo t) (hb : s.BoilerInv → t.BoilerInv) (hc : s.CylinderInv → t.CylinderInv) :
    Keeps p s t := by
  refine ⟨?_, hb, hc, ?_, fun _ => h.sameRegistry.registryInv⟩
  · simp only [State.ZoneInv, State.zone, h.zones]; exact id
  · simp only [State.BusInv, State.driveOn, h.bus]; exact id

/-- Settling that leaves boiler and channel, as a hand does. -/
theorem Keeps.settles_of_eq (h : s.SettlesTo t) (hb : t.boiler = s.boiler) (hc : t.cylinder = s.cylinder) : Keeps p s t := by
  refine Keeps.settles h ?_ ?_
  · simp only [State.BoilerInv, hb]; exact id
  · simp only [State.CylinderInv, State.targetsOk, State.pointsOf, State.stackOf, hc, h.points, h.holds]; exact id

/-- The bus is written, but for the join list. -/
theorem Keeps.setBus {b : Bus} (h : s.BusInv → (s.setBus b).BusInv) (hj : b.joins = s.bus.joins)
    (hn : b.lastEntry = s.bus.lastEntry) : Keeps p s (s.setBus b) :=
  ⟨id, id, id, h, fun _ => SameRegistry.registryInv
    ⟨fun _ => rfl, rfl, rfl, hj, hn, fun _ => rfl, fun _ => rfl, fun _ => rfl⟩⟩

/-- Records and admission order are written, beside blocks that no invariant here reads. -/
theorem Keeps.records (h : t = { s with
      time := t.time, clock := t.clock, house := t.house, registry := t.registry, motor := t.motor, link := t.link
      pending := t.pending })
    (hr : p → s.RegistryInv → t.RegistryInv) : Keeps p s t := by
  refine ⟨?_, ?_, ?_, ?_, hr⟩ <;> (rw [h]; exact id)

/-- Records are written in fields alone that the registry's invariants do not read. -/
theorem Keeps.devices (h : t = { s with
      time := t.time, clock := t.clock, house := t.house
      registry := { s.registry with devices := t.registry.devices }
      motor := t.motor, link := t.link, pending := t.pending })
    (hd : ∀ i : Fin 48, (t.device i).map Device.registered = (s.device i).map Device.registered) : Keeps p s t := by
  refine Keeps.records (by rw [h]) fun _ => SameRegistry.registryInv ⟨hd, ?_, ?_, ?_, ?_, ?_, ?_, ?_⟩
  all_goals rw [h]
  all_goals exact fun _ => rfl

/-- One record is written in fields alone that the registry's invariants do not read. -/
theorem keeps_setDevice_registered {i : Fin 48} {d e : Device} (hd : s.device i = some d) (he : e.registered = d.registered) :
    Keeps p s (s.setDevice i (some e)) := by
  refine Keeps.devices rfl fun j => ?_
  rw [State.setDevice_device]
  split
  · next hj => subst hj; simp [hd, he]
  · rfl

end Sys2Proof.Machine

/-! The evaluations of the Cylinder Channel and the Boiler Controller keep the invariants, each piece by itself; so do
the operations of the Motor Arbiter that hand a target. -/

namespace Sys2Proof.Machine

variable {p : Prop}

/-! ### What a hand leaves -/

/-- What every element of a fold leaves, the fold leaves. -/
theorem foldl_leaves {α β : Type} {f : State → α → State} (π : State → β) (h : ∀ s a, π (f s a) = π s) (l : List α)
    (s : State) : π (l.foldl f s) = π s := by
  induction l generalizing s with
  | nil => rfl
  | cons a l ih => exact (ih _).trans (h s a)

/-- A hand writes the motor queue or a record, and neither boiler nor channel. -/
theorem State.hand_leaves (s : State) (i : Fin 48) (t : Int) (c : Class) :
    (s.hand i t c).boiler = s.boiler ∧ (s.hand i t c).cylinder = s.cylinder := by
  unfold State.hand
  repeat' split
  all_goals exact ⟨rfl, rfl⟩

@[simp] theorem State.hand_boiler (s : State) (i : Fin 48) (t : Int) (c : Class) : (s.hand i t c).boiler = s.boiler :=
  (s.hand_leaves i t c).1

@[simp] theorem State.hand_cylinder (s : State) (i : Fin 48) (t : Int) (c : Class) :
    (s.hand i t c).cylinder = s.cylinder := (s.hand_leaves i t c).2

@[simp] theorem State.setTarget_boiler (s : State) (i : Fin 48) (t : Int) : (s.setTarget i t).boiler = s.boiler := by
  unfold State.setTarget; split <;> rfl

@[simp] theorem State.setTarget_cylinder (s : State) (i : Fin 48) (t : Int) : (s.setTarget i t).cylinder = s.cylinder := by
  unfold State.setTarget; split <;> rfl

@[simp] theorem State.setAndHand_boiler (c : Class) (t : Int) (s : State) (i : Fin 48) :
    (s.setAndHand c t i).boiler = s.boiler := by simp [State.setAndHand]

@[simp] theorem State.setAndHand_cylinder (c : Class) (t : Int) (s : State) (i : Fin 48) :
    (s.setAndHand c t i).cylinder = s.cylinder := by simp [State.setAndHand]

theorem keeps_hand (s : State) (i : Fin 48) (t : Int) (c : Class) : Keeps p s (s.hand i t c) :=
  Keeps.settles_of_eq (s.settlesTo_hand i t c) (s.hand_boiler i t c) (s.hand_cylinder i t c)

theorem keeps_handNext (s : State) (i : Fin 48) (n f : Option NextTarget) : Keeps p s (s.handNext i n f) := by
  unfold State.handNext
  split
  · exact keeps_hand _ _ _ _
  · exact keeps_hand _ _ _ _
  · exact Keeps.refl s

theorem keeps_setTarget (s : State) (i : Fin 48) (t : Int) : Keeps p s (s.setTarget i t) :=
  Keeps.settles_of_eq (s.settlesTo_setTarget i t) (s.setTarget_boiler i t) (s.setTarget_cylinder i t)

theorem keeps_setAndHand (c : Class) (t : Int) (s : State) (i : Fin 48) : Keeps p s (s.setAndHand c t i) :=
  (keeps_setTarget s i t).trans (keeps_hand _ i t c)

theorem keeps_joinForcing (s : State) (i : Fin 48) : Keeps p s (s.joinForcing i) := by
  unfold State.joinForcing
  split
  · exact Keeps.ite (fun _ => keeps_setAndHand _ _ _ _) fun _ => Keeps.refl s
  · exact Keeps.refl s

/-! ### The cylinder channel -/

/-- Both timers of the charging states stop with a move, and the third runs in FAULT alone. -/
theorem keeps_moveTo (s : State) {st : CylinderState} (hc : st ≠ .charging) (hg : st ≠ .gap) :
    Keeps p s { s with cylinder := s.cylinder.moveTo st } := by
  refine Keeps.setCylinder ?_
  rintro ⟨ht, hts, h1, h2, h3, h4, h5, h6, h7, h8, -, -, -⟩
  exact ⟨ht, hts, h1, h2, h3, h4, h5, h6, h7, h8, by simp [Cylinder.moveTo, hc], by simp [Cylinder.moveTo, hg],
    by simp [Cylinder.moveTo]⟩

theorem keeps_startCharge (s : State) : Keeps p s s.startCharge := by
  refine Keeps.setCylinder ?_
  rintro ⟨ht, hts, h1, h2, h3, h4, h5, h6, h7, h8, -, -, -⟩
  exact ⟨ht, hts, h1, h2, h3, h4, h5, h6, h7, h8, by simp [Cylinder.moveTo], by simp [Cylinder.moveTo],
    by simp [Cylinder.moveTo]⟩

theorem keeps_evalIdle (s : State) : Keeps p s s.evalIdle :=
  Keeps.ite (fun _ => keeps_startCharge s) fun _ => Keeps.refl s

theorem keeps_toIdle (s : State) : Keeps p s s.toIdle :=
  (keeps_moveTo s (st := .idle) (by simp) (by simp)).trans (keeps_evalIdle _)

theorem keeps_raise (s : State) (n : Notice) : Keeps p s (s.raise n) := Keeps.outside rfl

theorem keeps_raiseIf (s : State) (b : Bool) (n : Notice) : Keeps p s (s.raiseIf b n) :=
  Keeps.ite (fun _ => keeps_raise s n) fun _ => Keeps.refl s

theorem keeps_cylinderFault (s : State) : Keeps p s s.cylinderFault :=
  (keeps_moveTo s (st := .fault) (by simp) (by simp)).trans (keeps_raise _ _)

theorem keeps_evalCylinder (s : State) : Keeps p s s.evalCylinder := by
  unfold State.evalCylinder
  split
  · exact keeps_evalIdle s
  · exact Keeps.ite (fun _ => keeps_toIdle s) fun _ => Keeps.refl s
  all_goals exact Keeps.refl s

/-! ### The boiler -/

/-- Fields of the boiler block that its invariant does not read are written. -/
theorem keeps_boilerOutside {s : State} {b : Boiler} (h : b = { s.boiler with
      tf := b.tf, tout := b.tout, tc := b.tc, outdoorHold := b.outdoorHold, lastStop := b.lastStop, pump := b.pump
      forcing := b.forcing, reported := b.reported, lockoutPin := b.lockoutPin }) : Keeps p s (s.setBoiler b) := by
  refine Keeps.setBoiler ?_
  rw [h]; exact id

theorem keeps_evalReported (s : State) : Keeps p s s.evalReported := by
  rw [s.evalReported_eq]; exact keeps_boilerOutside rfl

/-- The burner moves to a state that no lockout-reset pulse runs in, out of one that none runs in either, or with none
running; its timers stop, and the last stop may be written. -/
theorem keeps_burnerMove (s : State) (st : Burner) (stop : Nat) (h : s.boiler.burner = .lockedOut → s.boiler.pulse = none ∨ st = .lockedOut) :
    Keeps p s (s.setBoiler { s.boiler.moveTo st with lastStop := stop }) := by
  refine Keeps.setBoiler ?_
  rintro ⟨hc, hl, ha, hn, hp, -, -, -⟩
  refine ⟨hc, hl, ha, hn, fun hp' => ?_, by simp [Boiler.moveTo], by simp [Boiler.moveTo], by simp [Boiler.moveTo]⟩
  have hp' : s.boiler.pulse.isSome := hp'
  exact (h (hp hp')).resolve_left (by rintro e; simp [e] at hp')

theorem startsLimit_le {c : BoilerConfig} (h : boilerConfigOk c) : c.startsLimit ≤ 12 := by
  simp only [boilerConfigOk] at h; omega

/-- A start of the burner the gate lets through leaves at most twelve entries. -/
theorem keeps_startBurner (s : State) (hg : s.startsGate = false) (hb : s.boiler.burner ≠ .lockedOut) :
    Keeps p s s.startBurner := by
  refine Keeps.setBoiler ?_
  rintro ⟨hc, hl, ha, hn, hp, -, -, -⟩
  have hle := startsLimit_le hc
  have hlt : (s.boiler.startList.length : Int) < s.boiler.config.startsLimit := by simpa [State.startsGate] using hg
  refine ⟨hc, ?_, ?_, hn, fun hp' => absurd (hp hp') hb, by simp [Boiler.moveTo], by simp [Boiler.moveTo],
    by simp [Boiler.moveTo]⟩
  · simp only [State.setBoiler_boiler, List.length_append, List.length_singleton]; omega
  · intro a h
    rcases List.mem_append.1 h with h | h
    · exact ha a h
    · simp at h; omega

/-- WAIT is entered from a state without a lockout-reset pulse; a WAIT FLOW stretch is timed in its own state (R111). -/
theorem keeps_waitFor (s : State) (r : WaitReason) (hb : s.boiler.burner ≠ .lockedOut) : Keeps p s (s.waitFor r) := by
  cases r with
  | starts => exact keeps_burnerMove s _ s.boiler.lastStop fun h => absurd h hb
  | flow =>
    refine Keeps.ite (fun _ => Keeps.refl s) fun _ => Keeps.setBoiler ?_
    rintro ⟨hc, hl, ha, hn, hp, -, -, -⟩
    exact ⟨hc, hl, ha, hn, fun hp' => absurd (hp hp') hb, by simp [Boiler.moveTo], by simp [Boiler.moveTo],
      by simp [Boiler.moveTo]⟩

theorem keeps_evalStart (s : State) (hb : s.boiler.burner ≠ .lockedOut) : Keeps p s s.evalStart := by
  unfold State.evalStart
  refine Keeps.ite (fun _ => ?_) fun _ => keeps_burnerMove s _ s.boiler.lastStop fun h => absurd h hb
  refine Keeps.ite (fun _ => keeps_waitFor s _ hb) fun hg => ?_
  exact Keeps.ite (fun _ => keeps_startBurner s (by simpa using hg) hb) fun _ => keeps_waitFor s _ hb

/-- The burner goes OFF out of a state without a lockout-reset pulse. -/
theorem keeps_burnerOff (s : State) (h : s.boiler.burner = .lockedOut → s.boiler.pulse = none) : Keeps p s s.burnerOff :=
  keeps_burnerMove s _ s.time.now fun e => .inl (h e)

theorem keeps_evalBurner (s : State) : Keeps p s s.evalBurner := by
  unfold State.evalBurner
  split
  · next h => exact keeps_evalStart s (by simp [h])
  · next h => exact keeps_evalStart s (by simp [h])
  · next h => exact Keeps.ite (fun _ => keeps_burnerOff s (by simp [h])) fun _ => Keeps.refl s
  all_goals exact Keeps.refl s

theorem keeps_evalPump (s : State) : Keeps p s s.evalPump := by
  unfold State.evalPump
  split
  · exact Keeps.ite (fun _ => keeps_boilerOutside rfl) fun _ => Keeps.refl s
  · exact Keeps.ite (fun _ => keeps_boilerOutside rfl) fun _ => Keeps.refl s
  · exact Keeps.ite (fun _ => Keeps.refl s) fun _ => keeps_boilerOutside rfl

theorem keeps_beginForcing (s : State) : Keeps p s s.beginForcing := by
  unfold State.beginForcing
  split
  · exact (keeps_boilerOutside rfl).trans (Keeps.foldl (keeps_setAndHand _ _) _ _)
  · exact Keeps.refl s

theorem keeps_endForcing (s : State) : Keeps p s s.endForcing := by
  unfold State.endForcing
  split
  · exact (keeps_boilerOutside rfl).trans (Keeps.foldl (keeps_setAndHand _ _) _ _)
  · exact keeps_boilerOutside rfl

theorem keeps_evalForcing (s : State) : Keeps p s s.evalForcing :=
  Keeps.ite (fun _ => Keeps.ite (fun _ => Keeps.refl s) fun _ => keeps_endForcing s)
    fun _ => Keeps.ite (fun _ => keeps_beginForcing s) fun _ => Keeps.refl s

/-! ### All evaluations -/

theorem keeps_evaluate (s : State) : Keeps p s s.evaluate := by
  refine Keeps.ite (fun _ => ?_) fun _ => Keeps.refl s
  exact (((((keeps_evalCylinder s).trans (keeps_evalReported _)).trans (keeps_evalBurner _)).trans
    (keeps_evalReported _)).trans (keeps_evalPump _)).trans (keeps_evalForcing _)

theorem keeps_evaluateFrom (s before : State) : Keeps p s (s.evaluateFrom before) :=
  Keeps.ite (fun _ => Keeps.refl s) fun _ => keeps_evaluate s

end Sys2Proof.Machine

/-! Resolution, the records of zones, the lists of points and holds, and the house record: each operation keeps the
invariants. -/

namespace Sys2Proof.Machine

variable {p : Prop}

/-! ### Resolution -/

/-- Resolution keeps boiler and registry; zones, ZW's target and the announcement queue as said. -/
theorem Keeps.resolves {s t : State} (h : s.ResolvesTo t) (hz : s.ZoneInv → t.ZoneInv)
    (hv : ∀ z, (t.zone z).valves = (s.zone z).valves) (hs : ∀ z, (t.zone z).sensors = (s.zone z).sensors)
    (hu : ∀ z, (t.zone z).units = (s.zone z).units) (hc : s.CylinderInv → levelOk zw t.cylinder.target)
    (ha : s.bus.announce.Nodup → t.bus.announce.Nodup) : Keeps p s t := by
  refine ⟨hz, ?_, ?_, ?_, fun _ => SameRegistry.registryInv ⟨?_, ?_, ?_, ?_, ?_, hv, hs, hu⟩⟩
  · rw [h]; exact id
  · intro k
    have hl := hc k
    rw [h] at hl ⊢
    exact ⟨hl, k.2⟩
  · rintro ⟨h1, h2, h3, h4, h5, h6⟩
    have hn := ha h6
    rw [h] at hn ⊢
    exact ⟨h1, h2, h3, h4, h5, hn⟩
  all_goals rw [h]
  exact fun _ => rfl

theorem keeps_announce (s : State) (z : Fin 16) : Keeps p s (s.announce z) := by
  have hz : ∀ y, (s.announce z).zone y = s.zone y := fun y => by simp [State.zone]
  refine Keeps.resolves (s.resolvesTo_announce z) ?_ (fun y => by rw [hz]) (fun y => by rw [hz]) (fun y => by rw [hz]) ?_
    (State.nodup_announce z)
  · simp only [State.ZoneInv, hz]; exact id
  · unfold State.announce; split <;> exact And.left

theorem keeps_announceAll (s : State) : Keeps p s s.announceAll := Keeps.foldl keeps_announce _ s

theorem keeps_announceIf (b : Bool) (z : Fin 16) (s : State) : Keeps p s (s.announceIf b z) :=
  Keeps.ite (fun _ => keeps_announce s z) fun _ => Keeps.refl s

/-- A room zone record is written that is in its ranges where the one before was, its member counts kept. -/
theorem keeps_setZone (s : State) (z : Fin 16) {r : Zone} (h : zoneOk (s.zone z) → zoneOk r)
    (hv : r.valves = (s.zone z).valves) (hs : r.sensors = (s.zone z).sensors) (hu : r.units = (s.zone z).units) :
    Keeps p s (s.setZone z r) := by
  have hz : ∀ y, (s.setZone z r).zone y = if z = y then r else s.zone y := fun y => s.setZone_zone z y r
  refine Keeps.resolves (s.resolvesTo_setZone z r) (fun k y => ?_) ?_ ?_ ?_ And.left id
  · rw [hz]; split
    · exact h (k z)
    · exact k y
  all_goals
    intro y; rw [hz]; split
    · next e => subst e; assumption
    · rfl

/-- The clamp of R38 brings any setpoint between the zone's floor and ceiling. -/
theorem setpoint_between {c : ZoneConfig} (h : configOk c) (v : Int) :
    c.frostFloor ≤ clamp v c.frostFloor c.comfortCeiling ∧ clamp v c.frostFloor c.comfortCeiling ≤ c.comfortCeiling := by
  refine clamp_bounds ?_
  simp only [configOk] at h; omega

/-- A room zone record with its setpoint aside. -/
abbrev zoneOkButSetpoint (r : Zone) : Prop :=
  configOk r.config ∧ (r.pending.isSome → r.state = .calling) ∧ (∀ c ∈ r.pending, controlOk c) ∧
  perMille r.demand ∧ perMille r.previous ∧ perMille r.integral ∧
  (r.state = .disabled → r.demand = 0 ∧ r.previous = 0 ∧ r.integral = 0 ∧ r.temp = none)

theorem zoneOk_iff {r : Zone} : zoneOk r ↔
    zoneOkButSetpoint r ∧ r.config.frostFloor ≤ r.setpoint ∧ r.setpoint ≤ r.config.comfortCeiling := by
  simp only [zoneOk, zoneOkButSetpoint]; tauto

/-- A resolution brings the setpoint of a record into its ranges. -/
theorem zoneOk_resolved {r : Zone} (h : zoneOkButSetpoint r) (v : Int) (source : Source) :
    zoneOk { r with setpoint := clamp v r.config.frostFloor r.config.comfortCeiling, source := source } :=
  zoneOk_iff.2 ⟨h, setpoint_between h.1 v⟩

/-- A resolution of a zone whose record is in its ranges but for the setpoint. -/
theorem keeps_setZone_resolveRoom (s : State) (z : Fin 16) {r : Zone} (h : zoneOk (s.zone z) → zoneOkButSetpoint r)
    (hv : r.valves = (s.zone z).valves) (hs : r.sensors = (s.zone z).sensors) (hu : r.units = (s.zone z).units) :
    Keeps p s ((s.setZone z r).resolveRoom z) := by
  have hset : ∀ q, (s.setZone z r).setZone z q = s.setZone z q := fun q => by simp [State.setZone]
  have hkeep : Keeps p s ((s.setZone z r).setZone z { (s.setZone z r).zone z with
      setpoint := (s.setZone z r).roomSetpoint z, source := ((s.setZone z r).roomCandidate z).2 }) := by
    rw [hset]
    refine keeps_setZone s z (fun k => ?_) ?_ ?_ ?_
    · simp only [State.roomSetpoint, State.setZone_zone, ↓reduceIte]
      exact zoneOk_resolved (h k) _ _
    all_goals simpa
  exact Keeps.ite (fun _ => hkeep) fun _ => hkeep.trans (keeps_announce _ z)

theorem keeps_resolveRoom (s : State) (z : Fin 16) : Keeps p s (s.resolveRoom z) := by
  have h := keeps_setZone_resolveRoom (p := p) s z (r := s.zone z) (fun k => (zoneOk_iff.1 k).1) rfl rfl rfl
  rwa [show s.setZone z (s.zone z) = s by simp [State.setZone, State.zone]] at h

theorem keeps_resolveRooms (s : State) : Keeps p s s.resolveRooms := Keeps.foldl keeps_resolveRoom _ s

/-- Whatever gives ZW its target is OFF or in range (R39). -/
theorem cylinderResolved_ok {s : State} (h : s.CylinderInv) : levelOk zw s.cylinderResolved.1 := by
  obtain ⟨-, ⟨hd, hp, hh⟩, -⟩ := h
  unfold State.cylinderResolved
  split
  · rfl
  all_goals
    split
    · next g hg => exact hh g (List.mem_of_mem_head? hg)
    · split
      · next q hq => exact hp q (mem_of_inForce hq)
      · exact hd

theorem keeps_resolveCylinder (s : State) : Keeps p s s.resolveCylinder :=
  Keeps.setCylinder fun h => ⟨cylinderResolved_ok h, h.2⟩

theorem keeps_resolve (s : State) (z : Fin 17) : Keeps p s (s.resolve z) := by
  unfold State.resolve
  split
  · exact keeps_resolveRoom s _
  · exact keeps_resolveCylinder s

theorem keeps_resolveIf (b : Bool) (z : Fin 17) (s : State) : Keeps p s (s.resolveIf b z) :=
  Keeps.ite (fun _ => keeps_resolve s z) fun _ => Keeps.refl s

theorem keeps_resolveAll (s : State) : Keeps p s s.resolveAll :=
  (keeps_resolveRooms s).trans (keeps_resolveCylinder _)

/-! ### Points -/

theorem keeps_editPoints (s : State) (z : Fin 17) {l : List Point}
    (h : (∀ q ∈ s.pointsOf z, levelOk z q.level) → ∀ q ∈ l, levelOk z q.level) : Keeps p s (s.editPoints z l) :=
  ((Keeps.setPoints h).trans (keeps_resolve _ z)).trans (keeps_evaluateFrom _ s)

/-- A point of the list leaves it with the rest in range. -/
theorem levels_withoutPoint {z : Fin 17} {l : List Point} (t : Nat) (h : ∀ q ∈ l, levelOk z q.level) :
    ∀ q ∈ withoutPoint l t, levelOk z q.level := fun q hq => h q (List.mem_filter.1 hq).1

theorem levels_insertPoint {z : Fin 17} {l : List Point} {q : Point} (hq : levelOk z q.level)
    (h : ∀ q ∈ l, levelOk z q.level) : ∀ r ∈ insertPoint q l, levelOk z r.level := by
  intro r hr
  rcases mem_insertPoint.1 hr with rfl | hr
  · exact hq
  · exact h r hr

theorem keeps_createPoint (s : State) (key : Word) (items : List Item) : Keeps p s (s.createPoint key items).1 := by
  unfold State.createPoint
  refine Keeps.ite_fst (fun _ => ?_) fun _ => Keeps.refl s
  split
  · refine Keeps.ite_fst (fun _ => Keeps.refl s) fun _ => Keeps.ite_fst (fun _ => Keeps.refl s) fun _ => ?_
    refine Keeps.ite_fst (fun _ => ?_) fun _ => Keeps.refl s
    exact keeps_editPoints s _ fun h => levels_insertPoint (storedLevel_ok _ _) h
  · exact Keeps.refl s

theorem movedPoint_ok {z : Fin 17} {q : Point} (items : List Item) (h : levelOk z q.level) :
    levelOk z (movedPoint z q items).level := by
  unfold movedPoint
  cases item items 3 with
  | none => exact h
  | some v => exact storedLevel_ok z v

theorem keeps_writePoint (s : State) (key : Word) (items : List Item) : Keeps p s (s.writePoint key items).1 := by
  unfold State.writePoint
  split
  · exact Keeps.refl s
  · next z q hfind =>
    refine Keeps.ite_fst (fun _ => Keeps.ite_fst (fun _ => Keeps.refl s) fun _ => ?_) fun _ => Keeps.refl s
    have hq : q ∈ s.pointsOf z := by
      obtain ⟨y, -, hy⟩ := Option.bind_eq_some_iff.1 hfind
      obtain ⟨r, hr, he⟩ := Option.map_eq_some_iff.1 hy
      cases he
      exact List.mem_of_find?_eq_some hr
    exact keeps_editPoints s _ fun h => levels_insertPoint (movedPoint_ok items (h q hq)) (levels_withoutPoint _ h)

theorem keeps_retirePoint (s : State) (key : Word) (zone : Byte) : Keeps p s (s.retirePoint key zone).1 := by
  unfold State.retirePoint
  split
  · exact Keeps.refl s
  · exact keeps_editPoints s _ fun h => levels_withoutPoint _ h

/-! ### Holds -/

/-- A stack is written whose holds carry setpoints that stood on it or, on ZW's, lie in range. -/
theorem keeps_setStack (s : State) (z : Fin 17) {l : List Hold}
    (h : ∀ g ∈ l, (∃ g' ∈ s.stackOf z, g'.setpoint = g.setpoint) ∨ (z = zw → levelOk zw (.deg g.setpoint))) :
    Keeps p s (s.setStack z l) := by
  refine Keeps.setHolds fun hh => ?_
  have e : (s.setStack z l).stackOf zw = if z = zw then l else s.stackOf zw := s.setStack_stackOf z zw l
  change ∀ g ∈ (s.setStack z l).stackOf zw, _
  rw [e]
  split
  · next hz =>
    intro g hg
    rcases h g hg with ⟨g', hg', e'⟩ | hin
    · subst hz; rw [← e']; exact hh g' hg'
    · exact hin hz
  · exact hh

theorem keeps_filterStack (s : State) (z : Fin 17) (f : Hold → Bool) :
    Keeps p s (s.setStack z ((s.stackOf z).filter f)) :=
  keeps_setStack s z fun g hg => .inl ⟨g, (List.mem_filter.1 hg).1, rfl⟩

/-- A setpoint taken into the range of ZW lies in it. -/
theorem holdRange_zw (s : State) (z : Fin 17) (v : Int) (h : z = zw) : levelOk zw (.deg (s.holdRange z v)) := by
  subst h
  have e : s.holdRange zw v = clamp v 300 650 := rfl
  rw [e]
  simpa [levelOk] using clamp_bounds (x := v) (a := 300) (b := 650) (by omega)

theorem keeps_push (s : State) (z : Fin 17) (v : Int) (e : EndKind) (o : Origin) (r : Bool) :
    Keeps p s (s.push z v e o r) := by
  unfold State.push
  refine Keeps.trans ?_ (keeps_raiseIf _ _ _)
  refine Keeps.trans (keeps_setStack s z fun g hg => ?_) (Keeps.setHolds fun h => h)
  rcases List.mem_cons.1 hg with rfl | hg
  · exact .inr fun hz => holdRange_zw s z v hz
  · exact .inl ⟨g, List.mem_of_mem_take hg, rfl⟩

/-- A hold is changed in its place to one whose setpoint stood on the stack or, on ZW's, lies in range. -/
theorem keeps_putHold (s : State) (z : Fin 17) (h : Hold)
    (hh : (∃ g ∈ s.stackOf z, g.setpoint = h.setpoint) ∨ (z = zw → levelOk zw (.deg h.setpoint))) :
    Keeps p s (s.putHold z h) := by
  refine keeps_setStack s z fun g hg => ?_
  obtain ⟨g', hg', rfl⟩ := List.mem_map.1 hg
  split
  · exact hh
  · exact .inl ⟨g', hg', rfl⟩

theorem keeps_mapStacks (s : State) (f : List Hold → List Hold)
    (h : ∀ l, ∀ g ∈ f l, ∃ g' ∈ l, g'.setpoint = g.setpoint) :
    Keeps p s { s with holds := { s.holds with stack := mapTable f s.holds.stack } } := by
  refine Keeps.setHolds fun hh g hg => ?_
  rw [mapTable_get] at hg
  obtain ⟨g', hg', e⟩ := h _ g hg
  rw [← e]; exact hh g' hg'

theorem keeps_countHolds (s : State) : Keeps p s s.countHolds := by
  refine keeps_mapStacks s _ fun l g hg => ?_
  obtain ⟨g', hg', e⟩ := List.mem_filterMap.1 hg
  refine ⟨g', hg', ?_⟩
  rw [(countDown_spec e).1]

theorem keeps_dropUnretained (s : State) : Keeps p s s.dropUnretained :=
  keeps_mapStacks s _ fun _ g hg => ⟨g, (List.mem_filter.1 hg).1, rfl⟩

theorem keeps_afterHold (s : State) (z : Fin 17) (before : State) : Keeps p s (s.afterHold z before) :=
  (keeps_resolve s z).trans (keeps_evaluateFrom _ before)

theorem keeps_createHold (s : State) (items : List Item) : Keeps p s (s.createHold items).1 := by
  unfold State.createHold
  refine Keeps.ite_fst (fun _ => ?_) fun _ => Keeps.refl s
  split
  · refine Keeps.ite_fst (fun _ => Keeps.refl s) fun _ => ?_
    exact (keeps_push s _ _ _ _ _).trans (keeps_afterHold _ _ s)
  · exact Keeps.refl s

/-- The hold of a handle lies on the stack of its zone. -/
theorem mem_of_findHold {s : State} {n : Nat} {z : Fin 17} {h : Hold} (k : s.findHold n = some (z, h)) :
    h ∈ s.stackOf z := by
  unfold State.findHold at k
  split at k
  · obtain ⟨g, hg, e⟩ := Option.map_eq_some_iff.1 k
    cases e
    exact List.mem_of_find?_eq_some hg
  · cases k

theorem keeps_writeHold (s : State) (key : Word) (items : List Item) : Keeps p s (s.writeHold key items).1 := by
  unfold State.writeHold
  split
  · exact Keeps.refl s
  · next z h hfind =>
    refine Keeps.ite_fst (fun _ => ?_) fun _ => Keeps.refl s
    refine (keeps_putHold s z _ ?_).trans (keeps_afterHold _ z s)
    cases hi : item items 3 with
    | none => exact .inl ⟨h, mem_of_findHold hfind, by simp [State.writtenHold, hi]⟩
    | some v => exact .inr fun hz => by simpa [State.writtenHold, hi] using holdRange_zw s z v hz

theorem keeps_retireHold (s : State) (key : Word) : Keeps p s (s.retireHold key).1 := by
  refine Keeps.ite_fst (fun _ => Keeps.refl s) fun _ => ?_
  split
  · exact Keeps.refl s
  · exact (keeps_filterStack s _ _).trans (keeps_afterHold _ _ s)

theorem keeps_takeEarly (s : State) (k : TickTaken) : Keeps p s (s.takeEarly k) := Keeps.outside rfl

theorem keeps_reach (s : State) (n : Nat) : Keeps p s (s.reach n) := Keeps.outside rfl

theorem keeps_tickHolds (s : State) : Keeps p s s.tickHolds :=
  ((keeps_countHolds s).trans (keeps_resolveAll _)).trans (keeps_evaluate _)

theorem keeps_expireHold (s : State) (n : Nat) : Keeps p s (s.expireHold n) := by
  unfold State.expireHold
  split
  · exact Keeps.ite (fun _ => (keeps_takeEarly s _).trans (keeps_tickHolds _)) fun _ => Keeps.refl s
  · exact Keeps.refl s

/-! ### House record -/

theorem keeps_setHouse (s : State) (h : House) : Keeps p s (s.setHouse h) := Keeps.outside rfl

theorem keeps_changeMode (s : State) (m : Mode) (c : Option Nat) : Keeps p s (s.changeMode m c) :=
  (((keeps_setHouse s _).trans (keeps_raise _ _)).trans (keeps_announceAll _)).trans (keeps_resolveAll _)

theorem keeps_wake (s : State) (c : WakeCause) : Keeps p s (s.wake c) :=
  Keeps.ite (fun _ => (keeps_setHouse s _).trans (keeps_changeMode _ _ _)) fun _ => Keeps.refl s

theorem keeps_returnEnds (s : State) : Keeps p s s.returnEnds := (keeps_setHouse s _).trans (keeps_wake _ _)

theorem keeps_tickHouse (s : State) : Keeps p s s.tickHouse := by
  refine Keeps.trans ?_ (keeps_evaluate _)
  unfold State.countReturn
  split
  · exact Keeps.ite (fun _ => keeps_returnEnds s) fun _ => keeps_setHouse s _
  · exact Keeps.refl s

theorem keeps_expireReturn (s : State) : Keeps p s s.expireReturn :=
  Keeps.ite (fun _ => ((keeps_takeEarly s _).trans (keeps_returnEnds _)).trans (keeps_evaluateFrom _ s))
    fun _ => Keeps.refl s

theorem keeps_writeHouse (s : State) (key : Word) (items : List Item) : Keeps p s (s.writeHouse key items).1 := by
  refine Keeps.ite_fst (fun _ => Keeps.refl s) fun _ => Keeps.ite_fst (fun _ => ?_) fun _ => Keeps.refl s
  exact Keeps.ite (fun _ => ((keeps_setHouse s _).trans (keeps_resolveRooms _)).trans (keeps_evaluateFrom _ s))
    fun _ => keeps_setHouse s _

theorem keeps_enterMode (s : State) (m : Mode) (c : Option Nat) : Keeps p s (s.enterMode m c) :=
  Keeps.ite (fun _ => keeps_setHouse s _) fun _ => (keeps_changeMode s m c).trans (keeps_evaluateFrom _ s)

theorem keeps_setMode (s : State) (mode : Byte) (countdown : Word) : Keeps p s (s.setMode mode countdown).1 := by
  unfold State.setMode
  split
  · exact Keeps.refl s
  · exact Keeps.ite_fst (fun _ => (keeps_wake s _).trans (keeps_evaluateFrom _ s)) fun _ => Keeps.refl s
  · exact keeps_enterMode s _ _
  · exact keeps_enterMode s _ _

/-! ### Clock -/

theorem keeps_retireNextPoint (s : State) (z : Fin 17) : Keeps p s (s.retireNextPoint z) := keeps_filterStack s z _

/-- The NEXT_POINT holds of some zones are retired. -/
theorem keeps_retireWhere (f : State → Fin 17 → Bool) (l : List (Fin 17)) (s : State) :
    Keeps p s (l.foldl (fun t z => if f s z then t.retireNextPoint z else t) s) :=
  Keeps.foldl (fun t z => Keeps.ite (fun _ => keeps_retireNextPoint t z) fun _ => Keeps.refl t) l s

theorem keeps_takePointChanges (s : State) (before : Option Nat) : Keeps p s (s.takePointChanges before) := by
  unfold State.takePointChanges
  exact keeps_retireWhere (fun s z => pointChanged (s.pointsOf z) before s.clock.timeOfWeek) _ s

theorem keeps_takeCrossings (s : State) : Keeps p s s.takeCrossings := by
  unfold State.takeCrossings
  exact keeps_retireWhere State.crossed _ s

theorem keeps_setClock (s : State) (time : Word) : Keeps p s (s.setClock time).1 := by
  refine Keeps.ite_fst (fun _ => Keeps.refl s) fun _ => ?_
  have hstart : Keeps p s (s.startClock time.toNat) := Keeps.outside rfl
  have hresolved := (hstart.trans (keeps_takePointChanges _ s.clock.timeOfWeek)).trans (keeps_resolveAll _)
  dsimp only
  exact hresolved.trans (keeps_evaluateFrom _ s)

theorem keeps_tickClock (s : State) : Keeps p s s.tickClock := by
  have hadvance : Keeps p s { s with clock := s.clock.advanced } := Keeps.outside rfl
  exact ((hadvance.trans (keeps_takeCrossings _)).trans (keeps_resolveAll _)).trans (keeps_evaluate _)

end Sys2Proof.Machine

/-! Zone commands, the control tick, the boiler's commands and events and those of the channel: each keeps the
invariants. -/

namespace Sys2Proof.Machine

variable {p : Prop}

/-! ### Zone records as they are written (R8, R9, R13 to R16, R22) -/

/-- A cleared record is in its ranges, whatever its new state. -/
theorem zoneOk_cleared {r : Zone} (st : ZoneState) (h : zoneOk r) : zoneOk (r.cleared st) := by
  obtain ⟨hc, -, -, -, -, -, hf, hceil, -⟩ := h
  have hzero : perMille 0 := ⟨by omega, by omega⟩
  exact ⟨hc, by simp [Zone.cleared], by simp [Zone.cleared], hzero, hzero, hzero, hf, hceil, fun _ => ⟨rfl, rfl, rfl, rfl⟩⟩

/-- The control values after a write lie in their ranges where the stored ones did. -/
theorem controlOk_store {c : Control} (items : List Item) (h : controlOk c) : controlOk (storeControl c items) := by
  obtain ⟨h1, h2, h3, h4, h5, h6⟩ := h
  have hw := takeItem_bounds (items := items) (code := 2) (by omega) ⟨h1, h2⟩
  have hp := takeItem_bounds (items := items) (code := 3) (by omega) ⟨h3, h4⟩
  have hi := takeItem_bounds (items := items) (code := 4) (by omega) ⟨h5, h6⟩
  exact ⟨hw.1, hw.2, hp.1, hp.2, hi.1, hi.2⟩

/-- request_off after a write is at least 0 and at most ten below request_on. -/
theorem requestOffAfter_bounds {c : ZoneConfig} (items : List Item) {on : Int} (hon : 50 ≤ on)
    (h : 0 ≤ c.requestOff) (hk : carries items 11 = false → c.requestOff ≤ on - 10) :
    0 ≤ requestOffAfter c items on ∧ requestOffAfter c items on ≤ on - 10 := by
  unfold requestOffAfter
  split
  · exact clamp_bounds (by omega)
  · split
    · omega
    · next hc => exact ⟨h, hk (by simpa using hc)⟩

/-- The configuration after a write lies in its ranges where the stored one did. -/
theorem configOk_store {c : ZoneConfig} (items : List Item) (h : configOk c) : configOk (storeImmediate c items) := by
  obtain ⟨hc, l1, u1, l2, u2, l3, u3, l4, u4, l5, u5, l6, u6, l7, u7, l8, u8, l9, u9, l10, u10⟩ := h
  have b1 := takeItem_bounds (items := items) (code := 5) (by omega) ⟨l1, u1⟩
  have b2 := takeItem_bounds (items := items) (code := 6) (by omega) ⟨l2, u2⟩
  have b3 := takeItem_bounds (items := items) (code := 7) (by omega) ⟨l3, u3⟩
  have b4 := takeItem_bounds (items := items) (code := 8) (by omega) ⟨l4, u4⟩
  have b5 := takeItem_bounds (items := items) (code := 9) (by omega) ⟨l5, u5⟩
  have b6 := takeItem_bounds (items := items) (code := 10) (by omega) ⟨l6, u6⟩
  have b7 := takeItem_bounds (items := items) (code := 11) (by omega) ⟨l7, u7⟩
  have b9 := takeItem_bounds (items := items) (code := 13) (by omega) ⟨l9, u9⟩
  have b10 := takeItem_bounds (items := items) (code := 14) (by omega) ⟨l10, u10⟩
  have b8 := requestOffAfter_bounds (c := c) items b7.1 l8 fun k => by
    rw [takeItem_of_not_carried _ _ _ k]; exact u8
  exact ⟨hc, b1.1, b1.2, b2.1, b2.2, b3.1, b3.2, b4.1, b4.2, b5.1, b5.2, b6.1, b6.2, b7.1, b7.2, b8.1, b8.2, b9.1,
    b9.2, b10.1, b10.2⟩

/-- The stored record is in its ranges but for the setpoint, which a resolution brings into them. -/
theorem zoneOkButSetpoint_store {r : Zone} (items : List Item) (h : zoneOkButSetpoint r) :
    zoneOkButSetpoint (r.store items) := by
  obtain ⟨hc, hp, hpc, hd, hv, hi, hs⟩ := h
  have hcontrol := controlOk_store items hc.1
  unfold Zone.store
  dsimp only
  split
  · next hg =>
    have hcalling : r.state = .calling := by simpa [goesPending, Zone.isCalling] using (Bool.and_eq_true_iff.1 hg).2
    exact ⟨configOk_store items hc, fun _ => hcalling, fun c hm => Option.some.inj hm ▸ hcontrol, hd, hv, hi, hs⟩
  · exact ⟨⟨hcontrol, (configOk_store items hc).2⟩, hp, hpc, hd, hv, hi, hs⟩

theorem Zone.store_setpoint (r : Zone) (items : List Item) : (r.store items).setpoint = r.setpoint := by
  unfold Zone.store; dsimp only; split <;> rfl

theorem Zone.store_config (r : Zone) (items : List Item) : (r.store items).config =
    { storeImmediate r.config items with control := (r.store items).config.control } := by
  unfold Zone.store; dsimp only; split <;> rfl

theorem Zone.store_counts (r : Zone) (items : List Item) : (r.store items).valves = r.valves ∧
    (r.store items).sensors = r.sensors ∧ (r.store items).units = r.units := by
  unfold Zone.store; dsimp only; split <;> exact ⟨rfl, rfl, rfl⟩

/-- A write that carries no setpoint input keeps floor and ceiling, and with them the setpoint's range. -/
theorem zoneOk_store {r : Zone} {items : List Item} (hno : carriesSetpointInput items = false) (h : zoneOk r) :
    zoneOk (r.store items) := by
  obtain ⟨hbut, hf, hc⟩ := zoneOk_iff.1 h
  simp only [carriesSetpointInput, Bool.or_eq_false_iff] at hno
  obtain ⟨⟨⟨h8, h9⟩, -⟩, -⟩ := hno
  have hfloor : (r.store items).config.frostFloor = r.config.frostFloor := by
    rw [r.store_config]; exact takeItem_of_not_carried _ _ _ h8
  have hceil : (r.store items).config.comfortCeiling = r.config.comfortCeiling := by
    rw [r.store_config]; exact takeItem_of_not_carried _ _ _ h9
  exact zoneOk_iff.2 ⟨zoneOkButSetpoint_store items hbut, by rw [hfloor, r.store_setpoint]; exact hf,
    by rw [hceil, r.store_setpoint]; exact hc⟩

/-! ### WRITE of a zone -/

theorem roomOf_roomIndex (z : Fin 16) : roomOf (roomIndex z) = some z := by
  have h : (roomIndex z).val < 16 := z.isLt
  simp only [roomOf, h, ↓reduceDIte]; rfl

theorem State.resolve_roomIndex (s : State) (z : Fin 16) : s.resolve (roomIndex z) = s.resolveRoom z := by
  simp only [State.resolve, roomOf_roomIndex]

theorem keeps_clearRoom (s : State) (z : Fin 16) (st : ZoneState) :
    Keeps p s (((s.setZone z ((s.zone z).cleared st)).announce z).resolveRoom z) :=
  ((keeps_setZone s z (zoneOk_cleared st) rfl rfl rfl).trans (keeps_announce _ z)).trans (keeps_resolveRoom _ z)

theorem keeps_enableRoom (s : State) (z : Fin 16) : Keeps p s (s.enableRoom z) :=
  Keeps.ite (fun _ => Keeps.refl s) fun _ => keeps_clearRoom s z _

theorem keeps_disableRoom (s : State) (z : Fin 16) : Keeps p s (s.disableRoom z) :=
  Keeps.ite (fun _ => keeps_clearRoom s z _) fun _ => Keeps.refl s

/-- The fields of a write are stored, and the zone resolved where one of them feeds its setpoint (R14). -/
theorem keeps_storeFields (s : State) (z : Fin 16) (items : List Item) :
    Keeps p s ((s.setZone z ((s.zone z).store items)).resolveIf (carriesSetpointInput items) (roomIndex z)) := by
  obtain ⟨hv, hs, hu⟩ := (s.zone z).store_counts items
  refine Keeps.ite (fun _ => ?_) fun hno => ?_
  · rw [State.resolve_roomIndex]
    exact keeps_setZone_resolveRoom s z (fun h => zoneOkButSetpoint_store items (zoneOk_iff.1 h).1) hv hs hu
  · exact keeps_setZone s z (zoneOk_store (by simpa using hno)) hv hs hu

theorem keeps_storeRoom (s : State) (z : Fin 16) (items : List Item) : Keeps p s (s.storeRoom z items) := by
  have hoff : Keeps p s (if itemNat items 16 = some 0 then s.disableRoom z else s) :=
    Keeps.ite (fun _ => keeps_disableRoom s z) fun _ => Keeps.refl s
  have hstored := hoff.trans (keeps_storeFields _ z items)
  exact Keeps.ite (fun _ => hstored.trans (keeps_enableRoom _ z)) fun _ => hstored

theorem keeps_writeRoom (s : State) (z : Fin 16) (items : List Item) : Keeps p s (s.writeRoom z items).1 :=
  Keeps.ite_fst (fun _ => (keeps_storeRoom s z items).trans (keeps_evaluateFrom _ s)) fun _ => Keeps.refl s

/-! ### WRITE of ZW -/

theorem cylinderLevel_ok (v : Int) : levelOk zw (cylinderLevel v) := by
  simpa [storedLevel] using storedLevel_ok zw v

theorem keeps_storeCylinderFields (s : State) (items : List Item) :
    Keeps p s { s with cylinder := s.cylinder.store items } := by
  refine Keeps.setCylinder ?_
  rintro ⟨ht, ⟨hd, hpt, hh⟩, l1, u1, l2, u2, l3, u3, l4, u4, htimers⟩
  have b1 := takeItem_bounds (items := items) (code := 17) (by omega) ⟨l1, u1⟩
  have b2 := takeItem_bounds (items := items) (code := 18) (by omega) ⟨l2, u2⟩
  have b3 := takeItem_bounds (items := items) (code := 19) (by omega) ⟨l3, u3⟩
  have b4 := takeItem_bounds (items := items) (code := 20) (by omega) ⟨l4, u4⟩
  have hlevel : levelOk zw (takeLevel items s.cylinder.defaultTarget) := by
    unfold takeLevel
    split
    · exact cylinderLevel_ok _
    · exact hd
  exact ⟨ht, ⟨hlevel, hpt, hh⟩, b1.1, b1.2, b2.1, b2.2, b3.1, b3.2, b4.1, b4.2, htimers⟩

theorem keeps_prioExpires (s : State) (h : s.cylinder.state = .charging) : Keeps p s s.prioExpires := by
  refine Keeps.ite (fun _ => Keeps.setCylinder ?_) fun _ => Keeps.setCylinder ?_
  · rintro ⟨ht, hts, h1, h2, h3, h4, h5, h6, h7, h8, -, -, -⟩
    exact ⟨ht, hts, h1, h2, h3, h4, h5, h6, h7, h8, by simp [Cylinder.moveTo], by simp [Cylinder.moveTo],
      by simp [Cylinder.moveTo]⟩
  · rintro ⟨ht, hts, h1, h2, h3, h4, h5, h6, h7, h8, -, hg, hr⟩
    exact ⟨ht, hts, h1, h2, h3, h4, h5, h6, h7, h8, by simp [h], hg, hr⟩

theorem keeps_gapExpires (s : State) : Keeps p s s.gapExpires :=
  Keeps.ite (fun _ => keeps_startCharge s) fun _ => keeps_toIdle s

theorem keeps_shortenPrio (items : List Item) (s : State) : Keeps p s (s.shortenPrio items) :=
  Keeps.ite (fun h => keeps_prioExpires s h.2.1) fun _ => Keeps.refl s

theorem keeps_shortenGap (items : List Item) (s : State) : Keeps p s (s.shortenGap items) :=
  Keeps.ite (fun _ => keeps_gapExpires s) fun _ => Keeps.refl s

theorem keeps_enableCylinder (s : State) : Keeps p s s.enableCylinder := by
  refine Keeps.ite (fun _ => Keeps.ite (fun _ => ?_) fun _ => ?_) fun _ => Keeps.refl s
  · exact (keeps_moveTo s (by simp) (by simp)).trans (keeps_resolveCylinder _)
  · exact (keeps_cylinderFault s).trans (keeps_resolveCylinder _)

theorem keeps_disableCylinder (s : State) : Keeps p s s.disableCylinder :=
  Keeps.ite (fun _ => Keeps.refl s) fun _ => (keeps_moveTo s (by simp) (by simp)).trans (keeps_resolveCylinder _)

theorem keeps_storeCylinder (s : State) (items : List Item) : Keeps p s (s.storeCylinder items) := by
  have hoff : Keeps p s (if itemNat items 16 = some 0 then s.disableCylinder else s) :=
    Keeps.ite (fun _ => keeps_disableCylinder s) fun _ => Keeps.refl s
  have hstored := (hoff.trans (keeps_storeCylinderFields _ items)).trans (keeps_resolveIf (carries items 21) zw _)
  have hshort := (hstored.trans (keeps_shortenGap items _)).trans (keeps_shortenPrio items _)
  exact Keeps.ite (fun _ => hshort.trans (keeps_enableCylinder _)) fun _ => hshort

theorem keeps_writeCylinder (s : State) (items : List Item) : Keeps p s (s.writeCylinder items).1 := by
  refine Keeps.ite_fst (fun _ => (keeps_storeCylinder s items).trans ?_) fun _ => Keeps.refl s
  exact Keeps.ite (fun _ => keeps_evaluate _) fun _ => keeps_evaluateFrom _ s

theorem keeps_writeZone (s : State) (key : Word) (items : List Item) : Keeps p s (s.writeZone key items).1 := by
  unfold State.writeZone
  split
  · split
    · exact keeps_writeRoom s _ items
    · exact keeps_writeCylinder s items
  · exact Keeps.refl s

/-! ### The boiler's command -/

theorem clamp_mono {x y a b c d : Int} (hxy : x ≤ y) (hac : a ≤ c) (hbd : b ≤ d) (hab : a ≤ b) (hcd : c ≤ d) :
    clamp x a b ≤ clamp y c d := by
  rw [clamp_eq_max_min hab, clamp_eq_max_min hcd]; omega

/-- A field after a write is the clamp of the value written, or of the stored one. -/
theorem takeItem_eq_clamp {items : List Item} {code : Nat} {lo hi old : Int} (h : lo ≤ old ∧ old ≤ hi) :
    takeItem items code lo hi old = clamp ((item items code).getD old) lo hi := by
  unfold takeItem
  split
  · next hv => rw [hv]; rfl
  · next hv => rw [hv]; exact (clamp_eq_self.2 h).symm

/-- A pair that passes the limit check stays in order when both its fields are stored (R103). -/
theorem takeItem_le_takeItem {items : List Item} {low high : Nat} {a b c d old new : Int}
    (hk : pairOk items low high old new = true) (hle : old ≤ new) (ho : a ≤ old ∧ old ≤ b) (hn : c ≤ new ∧ new ≤ d)
    (hac : a ≤ c) (hbd : b ≤ d) : takeItem items low a b old ≤ takeItem items high c d new := by
  rw [takeItem_eq_clamp ho, takeItem_eq_clamp hn]
  refine clamp_mono ?_ hac hbd (ho.1.trans ho.2) (hn.1.trans hn.2)
  rcases Bool.or_eq_true_iff.1 hk with hno | hk
  · have hcarry : itemWord items low = none ∧ itemWord items high = none := by simpa [carries] using hno
    simpa [item, hcarry.1, hcarry.2] using hle
  · exact of_decide_eq_true hk

/-- The boiler record after an accepted WRITE is in its ranges (R103). -/
theorem boilerConfigOk_store {c : BoilerConfig} {items : List Item} (hk : boilerCheck c items = true)
    (h : boilerConfigOk c) : boilerConfigOk (c.store items) := by
  simp only [boilerCheck, Bool.and_eq_true] at hk
  obtain ⟨⟨-, hfloor⟩, hmax⟩ := hk
  obtain ⟨l1, u1, l2, u2, l3, u3, l7, u7, l9, u9, l10, u10, l15, u15, l16, u16, l4, u4, l5, u5, l6, u6, hmx, hfl, l8, u8,
    l14, u14, l11, u11, l12, u12, l13, u13, l18, u18⟩ := h
  have b1 := takeItem_bounds (items := items) (code := 1) (by omega) ⟨l1, u1⟩
  have b2 := takeItem_bounds (items := items) (code := 2) (by omega) ⟨l2, u2⟩
  have b3 := takeItem_bounds (items := items) (code := 3) (by omega) ⟨l3, u3⟩
  have b4 := takeItem_bounds (items := items) (code := 4) (by omega) ⟨l4, u4⟩
  have b5 := takeItem_bounds (items := items) (code := 5) (by omega) ⟨l5, u5⟩
  have b6 := takeItem_bounds (items := items) (code := 6) (by omega) ⟨l6, u6⟩
  have b7 := takeItem_bounds (items := items) (code := 7) (by omega) ⟨l7, u7⟩
  have b8 := takeItem_bounds (items := items) (code := 8) (by omega) ⟨l8, u8⟩
  have b9 := takeItem_bounds (items := items) (code := 9) (by omega) ⟨l9, u9⟩
  have b10 := takeItem_bounds (items := items) (code := 10) (by omega) ⟨l10, u10⟩
  have b11 := takeItem_bounds (items := items) (code := 11) (by omega) ⟨l11, u11⟩
  have b12 := takeItem_bounds (items := items) (code := 12) (by omega) ⟨l12, u12⟩
  have b13 := takeItem_bounds (items := items) (code := 13) (by omega) ⟨l13, u13⟩
  have b14 := takeItem_bounds (items := items) (code := 14) (by omega) ⟨l14, u14⟩
  have b15 := takeItem_bounds (items := items) (code := 15) (by omega) ⟨l15, u15⟩
  have b16 := takeItem_bounds (items := items) (code := 16) (by omega) ⟨l16, u16⟩
  have b18 := takeItem_bounds (items := items) (code := 18) (by omega) ⟨l18, u18⟩
  have hminmax := takeItem_le_takeItem hmax hmx ⟨l4, u4⟩ ⟨l5, u5⟩ (by omega) (by omega)
  have hminfloor := takeItem_le_takeItem hfloor hfl ⟨l4, u4⟩ ⟨l6, u6⟩ (by omega) (by omega)
  exact ⟨b1.1, b1.2, b2.1, b2.2, b3.1, b3.2, b7.1, b7.2, b9.1, b9.2, b10.1, b10.2, b15.1, b15.2, b16.1, b16.2, b4.1,
    b4.2, b5.1, b5.2, b6.1, b6.2, hminmax, hminfloor, b8.1, b8.2, b14.1, b14.2, b11.1, b11.2, b12.1, b12.2, b13.1,
    b13.2, b18.1, b18.2⟩

/-- Forcing that ends leaves the boiler block else as it was. -/
theorem State.endForcing_boiler (s : State) : s.endForcing.boiler = { s.boiler with forcing := false } := by
  unfold State.endForcing
  split
  · exact foldl_leaves State.boiler (State.setAndHand_boiler _ _) _ _
  · rfl

theorem State.releaseBypass_config (s : State) (items : List Item) :
    (s.releaseBypass items).boiler.config = s.boiler.config := by
  unfold State.releaseBypass
  split
  · rw [s.endForcing_boiler]
  · rfl

theorem keeps_releaseBypass (s : State) (items : List Item) : Keeps p s (s.releaseBypass items) :=
  Keeps.ite (fun _ => keeps_endForcing s) fun _ => Keeps.refl s

/-- A timer of the burner is written that is not running, or runs in its own state. -/
theorem keeps_boilerTimers {s : State} {b : Boiler} (h : b = { s.boiler with
      minOn := b.minOn, waitFlow := b.waitFlow, recovery := b.recovery })
    (hm : b.minOn.isSome → b.minOn = s.boiler.minOn ∨ s.boiler.burner = .firing)
    (hw : b.waitFlow.isSome → b.waitFlow = s.boiler.waitFlow ∨ s.boiler.burner = .wait .flow)
    (hr : b.recovery.isSome → b.recovery = s.boiler.recovery ∨ s.boiler.burner = .sensorFault) :
    Keeps p s (s.setBoiler b) := by
  refine Keeps.setBoiler ?_
  rintro ⟨hc, hl, ha, hn, hp, hmin, hwait, hrec⟩
  rw [h] at hm hw hr ⊢
  exact ⟨hc, hl, ha, hn, hp, fun k => (hm k).elim (fun e => hmin (e ▸ k)) id,
    fun k => (hw k).elim (fun e => hwait (e ▸ k)) id, fun k => (hr k).elim (fun e => hrec (e ▸ k)) id⟩

theorem keeps_shortenMinOn (items : List Item) (s : State) : Keeps p s (s.shortenMinOn items) :=
  Keeps.ite (fun _ => keeps_boilerTimers rfl (by simp) (fun _ => .inl rfl) fun _ => .inl rfl) fun _ => Keeps.refl s

theorem keeps_shortenOff (items : List Item) (s : State) : Keeps p s (s.shortenOff items) :=
  Keeps.ite (fun h => keeps_burnerMove s _ s.boiler.lastStop (by simp [h.2.1])) fun _ => Keeps.refl s

theorem keeps_shortenOverrun (items : List Item) (s : State) : Keeps p s (s.shortenOverrun items) :=
  Keeps.ite (fun _ => keeps_boilerOutside rfl) fun _ => Keeps.refl s

theorem keeps_keepPassing (s : State) : Keeps p s s.keepPassing :=
  Keeps.ite (fun _ => keeps_boilerOutside rfl) fun _ => Keeps.refl s

theorem keeps_storeBoiler (s : State) (items : List Item) (hk : boilerCheck s.boiler.config items = true) :
    Keeps p s (s.storeBoiler items) := by
  have hrelease := keeps_releaseBypass (p := p) s items
  have hconfig : Keeps p (s.releaseBypass items) ((s.releaseBypass items).setBoiler
      { (s.releaseBypass items).boiler with config := (s.releaseBypass items).boiler.config.store items }) := by
    refine Keeps.setBoiler ?_
    rintro ⟨hc, hrest⟩
    exact ⟨boilerConfigOk_store (by rw [s.releaseBypass_config]; exact hk) hc, hrest⟩
  have hstored := (hrelease.trans hconfig).trans (keeps_keepPassing _)
  have htimers := ((hstored.trans (keeps_shortenMinOn items _)).trans (keeps_shortenOff items _)).trans
    (keeps_shortenOverrun items _)
  exact htimers.trans (keeps_evaluate _)

theorem keeps_writeBoiler (s : State) (key : Word) (items : List Item) : Keeps p s (s.writeBoiler key items).1 := by
  refine Keeps.ite_fst (fun _ => Keeps.refl s) fun _ => Keeps.ite_fst (fun hk => ?_) fun _ => Keeps.refl s
  exact Keeps.ite (fun _ => Keeps.refl s) fun _ => keeps_storeBoiler s items hk

/-- A lockout-reset pulse starts in LOCKED_OUT (R116). -/
theorem keeps_boilerReset (s : State) : Keeps p s s.boilerReset.1 := by
  refine Keeps.ite_fst (fun hb => Keeps.ite_fst (fun _ => Keeps.refl s) fun _ => ?_) fun _ => Keeps.refl s
  refine Keeps.ite_fst (fun _ => Keeps.setBoiler ?_) fun _ => Keeps.refl s
  rintro ⟨hc, hl, ha, hn, -, hrest⟩
  exact ⟨hc, hl, ha, hn, fun _ => hb, hrest⟩

/-! ### The boiler's events -/

theorem keeps_burnerSensorFault (s : State) (h : s.boiler.burner = .lockedOut → s.boiler.pulse = none) :
    Keeps p s s.burnerSensorFault :=
  (keeps_burnerMove s _ s.stopTime fun e => .inl (h e)).trans (keeps_raise _ _)

theorem keeps_lockOut (s : State) : Keeps p s s.lockOut :=
  (keeps_burnerMove s _ s.stopTime fun _ => .inr rfl).trans (keeps_raise _ _)

/-- The count of attempts is written within its limit. -/
theorem keeps_attempts (s : State) {n : Nat} (h : s.boiler.attempts ≤ 3 → n ≤ 3) :
    Keeps p s (s.setBoiler { s.boiler with attempts := n }) := by
  refine Keeps.setBoiler ?_
  rintro ⟨hc, hl, ha, hn, hrest⟩
  exact ⟨hc, hl, ha, h hn, hrest⟩

theorem keeps_endLockout (s : State) (h : s.boiler.pulse = none) : Keeps p s s.endLockout :=
  (keeps_attempts s fun _ => by omega).trans
    (Keeps.ite (fun _ => keeps_burnerSensorFault _ fun _ => h) fun _ => keeps_burnerOff _ fun _ => h)

theorem keeps_burnerSample (s : State) (reading : Int) : Keeps p s (s.burnerSample reading) := by
  unfold State.burnerSample
  split
  · exact Keeps.refl s
  · exact keeps_boilerTimers rfl (fun _ => .inl rfl) (fun _ => .inl rfl) (by simp)
  · next hb _ => exact keeps_burnerSensorFault s fun e => absurd e hb
  · exact keeps_boilerTimers rfl (fun _ => .inl rfl) (fun _ => .inl rfl) fun _ => .inr ‹_›
  · next hb _ => exact Keeps.ite (fun _ => keeps_burnerOff s (by simp [hb])) fun _ => Keeps.refl s
  · exact Keeps.refl s

theorem keeps_channelSample (s : State) : Keeps p s s.channelSample := by
  unfold State.channelSample
  split
  · exact keeps_cylinderFault s
  · exact keeps_cylinderFault s
  · exact keeps_cylinderFault s
  · refine Keeps.setCylinder ?_
    rintro ⟨ht, hts, h1, h2, h3, h4, h5, h6, h7, h8, hp, hg, -⟩
    exact ⟨ht, hts, h1, h2, h3, h4, h5, h6, h7, h8, hp, hg, by simp⟩
  · next hf _ =>
    refine Keeps.ite (fun _ => Keeps.refl s) fun _ => Keeps.setCylinder ?_
    rintro ⟨ht, hts, h1, h2, h3, h4, h5, h6, h7, h8, hp, hg, -⟩
    exact ⟨ht, hts, h1, h2, h3, h4, h5, h6, h7, h8, hp, hg, fun _ => hf⟩
  · exact Keeps.refl s

theorem keeps_takeSample (s : State) (tflow tout tcyl : Int) : Keeps p s (s.takeSample tflow tout tcyl) := by
  have hflow : Keeps p s (s.sampleFlow tflow) := (keeps_boilerOutside rfl).trans (keeps_burnerSample _ tflow)
  have hout : Keeps p (s.sampleFlow tflow) ((s.sampleFlow tflow).sampleOutdoor tout) :=
    (keeps_boilerOutside rfl).trans (keeps_raiseIf _ _ _)
  have hcyl : Keeps p ((s.sampleFlow tflow).sampleOutdoor tout)
      (((s.sampleFlow tflow).sampleOutdoor tout).sampleCylinder tcyl) :=
    (keeps_boilerOutside rfl).trans (keeps_channelSample _)
  exact ((hflow.trans hout).trans hcyl).trans (keeps_evaluate _)

/-- An hour's worth of starts grow a minute older (R112). -/
theorem keeps_ageStarts (s : State) : Keeps p s s.ageStarts := by
  refine Keeps.setBoiler ?_
  rintro ⟨hc, hl, -, hrest⟩
  refine ⟨hc, (List.length_filter_le _ _).trans (by simpa using hl), fun a ha => ?_, hrest⟩
  simpa using (List.mem_filter.1 ha).2

theorem keeps_tickStarts (s : State) : Keeps p s s.tickStarts := (keeps_ageStarts s).trans (keeps_evaluate _)

theorem keeps_expireStart (s : State) : Keeps p s s.expireStart :=
  Keeps.ite (fun _ => (keeps_takeEarly s _).trans (keeps_tickStarts _)) fun _ => Keeps.refl s

/-! ### The control tick -/

theorem newIntegral_bounds (c : Control) {i : Int} (e : Int) (h : perMille i) : perMille (newIntegral c i e) := by
  unfold newIntegral
  dsimp only
  split
  · exact h
  · exact clamp_bounds (by omega)

theorem newDemand_bounds (c : Control) {previous : Int} (e i : Int) (h : perMille previous) :
    perMille (newDemand c previous e i) := by
  unfold newDemand
  have hu := clamp_bounds (x := c.kp * e + i) (a := 0) (b := 1000) (by omega)
  obtain ⟨h1, h2⟩ := h
  dsimp only
  split
  · exact hu
  · rw [clamp_eq_max_min (by omega)]
    constructor <;> omega

/-- Stages 1 and 2 write temperature and demand alone. -/
theorem Zone.withTemp_eq (r : Zone) (t : Option Int × TempSource) : r.withTemp t = { r with
    temp := (r.withTemp t).temp, tempSource := (r.withTemp t).tempSource, demand := (r.withTemp t).demand
    previous := (r.withTemp t).previous, integral := (r.withTemp t).integral } := by
  unfold Zone.withTemp; dsimp only; split <;> rfl

/-- The demand values stay per mille over stages 1 and 2. -/
theorem perMille_withTemp {r : Zone} (t : Option Int × TempSource) (h : zoneOk r) :
    perMille (r.withTemp t).demand ∧ perMille (r.withTemp t).previous ∧ perMille (r.withTemp t).integral := by
  obtain ⟨hc, -, -, hd, hv, hi, -⟩ := h
  unfold Zone.withTemp
  dsimp only
  split
  · next v _ =>
    have hint := newIntegral_bounds r.config.control (errorOf r.setpoint v) hi
    have hdem := newDemand_bounds r.config.control (errorOf r.setpoint v)
      (newIntegral r.config.control r.integral (errorOf r.setpoint v)) hv
    exact ⟨hdem, hdem, hint⟩
  · refine ⟨?_, hv, hi⟩
    have hblind : perMille r.config.blindDemand := by simp only [configOk] at hc; exact ⟨by omega, by omega⟩
    simp only [Zone.blind]
    split
    · exact hblind
    · exact ⟨by omega, by omega⟩

end Sys2Proof.Machine

/-! The computation of a zone at its control tick: what it writes, as one settling (R79, R88, R94), and that it keeps the
invariants. -/

namespace Sys2Proof.Machine

variable {p : Prop}

/-! ### Stage 4 settles -/

theorem State.settlesTo_targetValve (h q : Int) (s : State) (i : Fin 48) : s.SettlesTo (s.targetValve h q i) := by
  unfold State.targetValve
  split
  · dsimp only
    split
    · exact (s.settlesTo_setTarget i q).trans (State.settlesTo_hand _ _ _ _)
    · exact s.settlesTo_setTarget i q
  · exact s.settlesTo_refl

theorem State.settlesTo_forceValve (s : State) (i : Fin 48) : s.SettlesTo (s.forceValve i) := by
  unfold State.forceValve
  split
  · split
    · exact s.settlesTo_setAndHand _ _ _
    · exact s.settlesTo_refl
  · exact s.settlesTo_refl

theorem State.targetValve_leaves (h q : Int) (s : State) (i : Fin 48) :
    (s.targetValve h q i).boiler = s.boiler ∧ (s.targetValve h q i).cylinder = s.cylinder := by
  unfold State.targetValve
  split
  · dsimp only; split <;> simp
  · exact ⟨rfl, rfl⟩

theorem State.forceValve_leaves (s : State) (i : Fin 48) :
    (s.forceValve i).boiler = s.boiler ∧ (s.forceValve i).cylinder = s.cylinder := by
  unfold State.forceValve
  split
  · split <;> simp
  · exact ⟨rfl, rfl⟩

theorem State.settlesTo_targetValves (s : State) (z : Fin 16) : s.SettlesTo (s.targetValves z) := by
  unfold State.targetValves
  split
  · exact State.settlesTo_foldl State.settlesTo_forceValve _ _
  · exact State.settlesTo_foldl (State.settlesTo_targetValve _ _) _ _

@[simp] theorem State.targetValves_boiler (s : State) (z : Fin 16) : (s.targetValves z).boiler = s.boiler := by
  unfold State.targetValves
  split
  · exact foldl_leaves State.boiler (fun s i => (s.forceValve_leaves i).1) _ _
  · exact foldl_leaves State.boiler (fun s i => (State.targetValve_leaves _ _ s i).1) _ _

@[simp] theorem State.targetValves_cylinder (s : State) (z : Fin 16) : (s.targetValves z).cylinder = s.cylinder := by
  unfold State.targetValves
  split
  · exact foldl_leaves State.cylinder (fun s i => (s.forceValve_leaves i).2) _ _
  · exact foldl_leaves State.cylinder (fun s i => (State.targetValve_leaves _ _ s i).2) _ _

theorem keeps_targetValves (s : State) (z : Fin 16) : Keeps p s (s.targetValves z) :=
  Keeps.settles_of_eq (s.settlesTo_targetValves z) (s.targetValves_boiler z) (s.targetValves_cylinder z)

/-! ### Settling and the other blocks -/

theorem State.SettlesTo.setZone {s t : State} (h : s.SettlesTo t) (z : Fin 16) (r : Zone) :
    (s.setZone z r).SettlesTo (t.setZone z r) := by
  obtain ⟨h1, h2⟩ := h
  refine ⟨?_, h2⟩
  conv_lhs => rw [h1]
  rfl

theorem State.SettlesTo.raise {s t : State} (h : s.SettlesTo t) (n : Notice) : (s.raise n).SettlesTo (t.raise n) := by
  have := h.setLink { s.link with flags := s.link.flags ||| n.mask }
  unfold State.raise
  rw [h.link]
  exact this

theorem State.SettlesTo.setTime {s t : State} (h : s.SettlesTo t) (k : TimeBase) :
    State.SettlesTo { s with time := k } { t with time := k } := by
  obtain ⟨h1, h2⟩ := h
  refine ⟨?_, h2⟩
  conv_lhs => rw [h1]

theorem State.setZone_announceIf (s : State) (b : Bool) (y z : Fin 16) (r : Zone) :
    (s.announceIf b y).setZone z r = (s.setZone z r).announceIf b y := by
  unfold State.announceIf State.announce
  split
  · split <;> (split <;> first | rfl | contradiction)
  · rfl

theorem State.raise_announceIf (s : State) (b : Bool) (y : Fin 16) (n : Notice) :
    (s.announceIf b y).raise n = (s.raise n).announceIf b y := by
  unfold State.announceIf State.announce
  split
  · split <;> (split <;> first | rfl | contradiction)
  · rfl

theorem State.setZone_setZone (s : State) (z : Fin 16) (q r : Zone) : (s.setZone z q).setZone z r = s.setZone z r := by
  simp [State.setZone]

/-! ### The computation of an enabled zone -/

/-- The computation leaves CALLING with a pending configuration (R17). -/
def Zone.tickApplies (r q : Zone) : Bool := r.state == .calling && q.state == .satisfied && q.pending.isSome

/-- The record a computation leaves, a pending configuration applied (R79, R88). -/
def Zone.afterTick (r : Zone) (t : Option Int × TempSource) : Zone :=
  if r.tickApplies (r.ticked t) then (r.ticked t).applied else r.ticked t

/-- The computation of an enabled zone stores the record, queues a change of state, raises CONFIG_APPLIED where a pending
configuration is applied, and settles valve targets. -/
theorem State.settlesTo_tickEnabled (s : State) (z : Fin 16) :
    (((s.setZone z ((s.zone z).afterTick (s.zoneTemp z))).raiseIf
        ((s.zone z).tickApplies ((s.zone z).ticked (s.zoneTemp z))) .configApplied).announceIf
      (((s.zone z).ticked (s.zoneTemp z)).state != (s.zone z).state) z).SettlesTo (s.tickEnabled z) := by
  unfold State.tickEnabled
  dsimp only
  generalize hq : (s.zone z).ticked (s.zoneTemp z) = q
  generalize hb : (q.state != (s.zone z).state) = b
  have hset := State.settlesTo_targetValves ((s.setZone z q).announceIf b z) z
  have hzone : (((s.setZone z q).announceIf b z).targetValves z).zone z = q := by
    have : ((s.setZone z q).announceIf b z).zones = (s.setZone z q).zones := by
      unfold State.announceIf; split <;> simp
    simp [State.zone, hset.zones, this]
  unfold State.applyPending Zone.afterTick
  rw [hzone, hq]
  by_cases ha : (s.zone z).tickApplies q = true
  · have hc : (s.zone z).state = .calling ∧ q.state = .satisfied ∧ q.pending.isSome := by
      simpa [Zone.tickApplies, and_assoc] using ha
    rw [if_pos hc, if_pos ha, ha]
    have := (hset.setZone z q.applied).raise .configApplied
    rwa [State.setZone_announceIf, State.raise_announceIf, State.setZone_setZone] at this
  · have hn : ¬((s.zone z).state = .calling ∧ q.state = .satisfied ∧ q.pending.isSome) := by
      simpa [Zone.tickApplies, and_assoc] using ha
    rw [if_neg hn, if_neg ha, Bool.eq_false_iff.2 ha]
    exact hset

/-- The record that a computation leaves is in its ranges (R10, R17, R83 to R86). -/
theorem zoneOk_afterTick {r : Zone} (t : Option Int × TempSource) (he : r.enabled = true) (h : zoneOk r) :
    zoneOk (r.afterTick t) := by
  obtain ⟨hd, hv, hi⟩ := perMille_withTemp t h
  obtain ⟨hc, hp, hpc, -, -, -, hf, hceil, -⟩ := h
  have hen : r.state ≠ .disabled := by simpa [Zone.enabled] using he
  have hstate : (r.ticked t).state ≠ .disabled := by
    have e : (r.ticked t).state = requestState r.config (r.withTemp t).demand r.state := by
      simp only [Zone.ticked]; rw [r.withTemp_eq t]
    rw [e]
    cases hs : r.state with
    | disabled => exact absurd hs hen
    | satisfied | calling => simp only [requestState]; split <;> simp
  have hpending : (r.ticked t).pending = r.pending := by simp only [Zone.ticked]; rw [r.withTemp_eq t]
  have hconfig : (r.ticked t).config = r.config := by simp only [Zone.ticked]; rw [r.withTemp_eq t]
  have hsetpoint : (r.ticked t).setpoint = r.setpoint := by simp only [Zone.ticked]; rw [r.withTemp_eq t]
  have hdem : perMille (r.ticked t).demand ∧ perMille (r.ticked t).previous ∧ perMille (r.ticked t).integral :=
    ⟨hd, hv, hi⟩
  unfold Zone.afterTick
  split
  · next ha =>
    obtain ⟨-, c, hpc'⟩ : _ ∧ ∃ c, (r.ticked t).pending = some c := by
      simpa [Zone.tickApplies, Option.isSome_iff_exists] using ha
    have hcontrol : controlOk c := hpc c (by rw [← hpending, hpc']; rfl)
    simp only [Zone.applied, hpc']
    rw [← hsetpoint, ← hconfig] at hf hceil
    rw [← hconfig] at hc
    exact ⟨⟨hcontrol, hc.2⟩, by simp, by simp, hdem.1, hdem.2.1, hdem.2.2, hf, hceil, fun k => absurd k hstate⟩
  · next ha =>
    refine ⟨by rwa [hconfig], fun k => ?_, by rwa [hpending], hdem.1, hdem.2.1, hdem.2.2, by rwa [hconfig, hsetpoint],
      by rwa [hconfig, hsetpoint], fun k => absurd k hstate⟩
    have hcalling := hp (hpending ▸ k)
    by_contra hne
    apply ha
    have hsat : (r.ticked t).state = .satisfied := by
      cases e : (r.ticked t).state <;> simp_all
    simp [Zone.tickApplies, hcalling, hsat, k]

theorem Zone.afterTick_counts (r : Zone) (t : Option Int × TempSource) : (r.afterTick t).valves = r.valves ∧
    (r.afterTick t).sensors = r.sensors ∧ (r.afterTick t).units = r.units := by
  have h : (r.ticked t).valves = r.valves ∧ (r.ticked t).sensors = r.sensors ∧ (r.ticked t).units = r.units := by
    simp only [Zone.ticked]; rw [r.withTemp_eq t]; exact ⟨rfl, rfl, rfl⟩
  unfold Zone.afterTick Zone.applied
  split
  · split <;> exact h
  · exact h

theorem State.tickEnabled_leaves (s : State) (z : Fin 16) :
    (s.tickEnabled z).boiler = s.boiler ∧ (s.tickEnabled z).cylinder = s.cylinder := by
  have h : ∀ (t : State) (b : Bool), (t.announceIf b z).boiler = t.boiler ∧ (t.announceIf b z).cylinder = t.cylinder := by
    intro t b
    unfold State.announceIf State.announce
    split
    · split <;> exact ⟨rfl, rfl⟩
    · exact ⟨rfl, rfl⟩
  unfold State.tickEnabled State.applyPending
  dsimp only
  split <;> simp [h]

theorem keeps_tickEnabled (s : State) (z : Fin 16) (he : (s.zone z).enabled = true) : Keeps p s (s.tickEnabled z) := by
  obtain ⟨hv, hs, hu⟩ := (s.zone z).afterTick_counts (s.zoneTemp z)
  have hzone := keeps_setZone (p := p) s z (zoneOk_afterTick (s.zoneTemp z) he) hv hs hu
  have hraised := hzone.trans (keeps_raiseIf _ ((s.zone z).tickApplies ((s.zone z).ticked (s.zoneTemp z))) .configApplied)
  have hqueued := hraised.trans (keeps_announceIf (((s.zone z).ticked (s.zoneTemp z)).state != (s.zone z).state) z _)
  refine hqueued.trans (Keeps.settles_of_eq (s.settlesTo_tickEnabled z) ?_ ?_)
  · rw [(s.tickEnabled_leaves z).1]
    unfold State.announceIf State.announce State.raiseIf
    repeat' split
    all_goals rfl
  · rw [(s.tickEnabled_leaves z).2]
    unfold State.announceIf State.announce State.raiseIf
    repeat' split
    all_goals rfl

theorem keeps_zoneTick (s : State) (z : Fin 16) : Keeps p s (s.zoneTick z) := by
  refine Keeps.ite (fun he => (keeps_tickEnabled s z he).trans (keeps_evaluate _)) fun _ => ?_
  have hzone : Keeps p s (s.setZone z { s.zone z with ownTarget := 0 }) := keeps_setZone s z id rfl rfl rfl
  exact (hzone.trans (keeps_targetValves _ z)).trans (keeps_evaluateFrom _ s)

end Sys2Proof.Machine

/-! The invariants of Device Registry and join list under one change at a time: records rewritten, the admission order
entered and left, members bound and unbound, join entries dropped. -/

namespace Sys2Proof.Machine

variable {p : Prop} {s t : State}

/-! ### Records rewritten -/

/-- A record is rewritten with its serial, kind and binding kept and its counts in range. -/
abbrev Device.RewrittenTo (d e : Device) : Prop :=
  e.serial = d.serial ∧ e.kind = d.kind ∧ e.zone = d.zone ∧ (deviceOk d → deviceOk e)

theorem Device.rewrittenTo_refl (d : Device) : d.RewrittenTo d := ⟨rfl, rfl, rfl, id⟩

/-- The records of a state are those of another, rewritten. -/
abbrev State.Rewrites (s t : State) : Prop := ∀ i : Fin 48, Option.Rel Device.RewrittenTo (s.device i) (t.device i)

theorem rewrites_setDevice {i : Fin 48} {d e : Device} (hd : s.device i = some d) (he : d.RewrittenTo e) :
    s.Rewrites (s.setDevice i (some e)) := by
  intro j
  rw [State.setDevice_device]
  split
  · next hj => subst hj; rw [hd]; exact .some he
  · cases s.device j with
    | none => exact .none
    | some x => exact .some x.rewrittenTo_refl

theorem rewrites_map {f : Device → Device} (ht : ∀ i, t.device i = (s.device i).map f)
    (hf : ∀ d : Device, d.RewrittenTo (f d)) : s.Rewrites t := by
  intro i
  rw [ht]
  cases s.device i with
  | none => exact .none
  | some d => exact .some (hf d)

/-- What the rewriting of records leaves can be read from either record. -/
theorem State.Rewrites.map {α : Type} (h : s.Rewrites t) (f : Device → α)
    (hf : ∀ d e : Device, d.RewrittenTo e → f e = f d) (i : Fin 48) : (t.device i).map f = (s.device i).map f := by
  have hi := h i
  generalize s.device i = a at hi ⊢
  generalize t.device i = b at hi ⊢
  cases hi with
  | none => rfl
  | some hde => exact congrArg some (hf _ _ hde)

theorem State.Rewrites.serials (h : s.Rewrites t) : t.serials = s.serials := by
  simp only [State.serials, h.map Device.serial fun d e k => k.1]

theorem State.Rewrites.members (h : s.Rewrites t) (z : Fin 16) (k : DeviceKind) : t.members z k = s.members z k := by
  have hany : ∀ i, (t.device i).any (fun d => d.zone == some z && d.kind == k) =
      (s.device i).any (fun d => d.zone == some z && d.kind == k) := fun i => by
    have := congrArg (Option.any id) (h.map (fun d => d.zone == some z && d.kind == k)
      (fun d e hde => by rw [hde.2.1, hde.2.2.1]) i)
    simpa [Option.any_map] using this
  simp only [State.members, hany]

theorem State.Rewrites.deviceInv (h : s.Rewrites t) (k : s.DeviceInv) : t.DeviceInv := by
  intro i e he
  have hi := h i
  have hk := k i
  generalize s.device i = a at hi hk
  generalize t.device i = b at hi he
  cases hi with
  | none => cases he
  | some hde => cases he; exact hde.2.2.2 (hk _ rfl)

/-- The invariants of the registry after records are rewritten, the admission order aside. -/
theorem registryInv_of_rewrites (h : s.Rewrites t) (hz : t.zones = s.zones) (hj : t.bus.joins = s.bus.joins)
    (hn : t.bus.lastEntry = s.bus.lastEntry) (ha : s.AdmissionInv → t.AdmissionInv) (k : s.RegistryInv) :
    t.RegistryInv := by
  obtain ⟨hs, hadm, hm, hd⟩ := k
  refine ⟨?_, ha hadm, ?_, h.deviceInv hd⟩
  · simpa only [State.SerialInv, h.serials, hj, hn] using hs
  · simpa only [State.MemberInv, h.members, State.zone, hz] using hm

/-! ### The admission order (R168) -/

theorem admissionInv_same (ho : t.registry.order = s.registry.order) (hl : t.registry.lastAssign = s.registry.lastAssign)
    (hp : ∀ i, t.pendingAt i ↔ s.pendingAt i) (k : s.AdmissionInv) : t.AdmissionInv := by
  simpa only [State.AdmissionInv, ho, hl, hp] using k

/-- A record enters the order as it becomes ADMITTED. -/
theorem admissionInv_enter {i : Fin 48} (hl : t.registry.lastAssign = s.registry.lastAssign)
    (ho : t.registry.order = if i ∈ s.registry.order then s.registry.order else s.registry.order ++ [i])
    (hp : ∀ j, t.pendingAt j ↔ j = i ∨ s.pendingAt j) (k : s.AdmissionInv) : t.AdmissionInv := by
  obtain ⟨hnodup, hmem, hlast⟩ := k
  have hin : ∀ j, j ∈ t.registry.order ↔ j = i ∨ j ∈ s.registry.order := by
    intro j; rw [ho]; split
    · next hi => exact ⟨.inr, fun h => h.elim (fun e => e ▸ hi) id⟩
    · simp [or_comm]
  refine ⟨?_, fun j => by rw [hin, hp, hmem], fun j hj => (hin j).2 (.inr (hlast j (hl ▸ hj)))⟩
  rw [ho]; split
  · exact hnodup
  · next hi => exact List.Nodup.append hnodup (List.nodup_singleton i) (by simpa using hi)

theorem State.enterOrder_order (s : State) (i : Fin 48) : (s.enterOrder i).registry.order =
    if i ∈ s.registry.order then s.registry.order else s.registry.order ++ [i] := by
  unfold State.enterOrder; split <;> rfl

theorem precedes_mem {order : List (Fin 48)} {i j : Fin 48} (h : precedes order i = some j) : j ∈ order ∧ j ≠ i := by
  have hj := List.mem_of_getLast? h
  refine ⟨(List.takeWhile_subset _) hj, ?_⟩
  simpa using List.mem_takeWhile_imp hj

/-- A record leaves the order as it is ADMITTED no more. -/
theorem admissionInv_leave {i : Fin 48} (h : t.registry.order = s.registry.order.filter (fun j => j != i))
    (hl : t.registry.lastAssign =
      if s.registry.lastAssign = some i then precedes s.registry.order i else s.registry.lastAssign)
    (hp : ∀ j, t.pendingAt j ↔ j ≠ i ∧ s.pendingAt j) (k : s.AdmissionInv) : t.AdmissionInv := by
  obtain ⟨hnodup, hmem, hlast⟩ := k
  refine ⟨by rw [h]; exact hnodup.filter _, fun j => ?_, fun j hj => ?_⟩
  · rw [h, hp, List.mem_filter, hmem]; simp [and_comm]
  · rw [hl] at hj
    rw [h, List.mem_filter]
    split at hj
    · have := precedes_mem hj; simpa using this
    · next hne =>
      refine ⟨hlast j hj, ?_⟩
      have : j ≠ i := fun e => hne (e ▸ hj)
      simpa using this

/-- The state of a record in the list of ADMITTED ones after it is written. -/
theorem pendingAt_setDevice (s : State) (i j : Fin 48) (e : Device) :
    (s.setDevice i (some e)).pendingAt j ↔ if i = j then e.state = .admitted else s.pendingAt j := by
  simp only [State.pendingAt, State.setDevice_device]
  split <;> simp

/-! ### Keeping, one record at a time -/

theorem State.pendingAt_of_device {i : Fin 48} {d : Device} (h : s.device i = some d) :
    s.pendingAt i ↔ d.state = .admitted := by
  simp [State.pendingAt, h]

/-- A record is rewritten that stays ADMITTED or stays out of it. -/
theorem keeps_rewrite {i : Fin 48} {d e : Device} (hd : s.device i = some d) (he : p → d.RewrittenTo e)
    (ha : e.state = .admitted ↔ d.state = .admitted) : Keeps p s (s.setDevice i (some e)) := by
  refine Keeps.records rfl fun hp => ?_
  refine registryInv_of_rewrites (rewrites_setDevice hd (he hp)) rfl rfl rfl (admissionInv_same rfl rfl fun j => ?_)
  rw [pendingAt_setDevice]
  split
  · next hj => subst hj; rw [State.pendingAt_of_device hd, ha]
  · rfl

/-- A record is rewritten to a state other than ADMITTED and leaves the order. -/
theorem keeps_rewrite_leave {i : Fin 48} {d e : Device} (hd : s.device i = some d) (he : p → d.RewrittenTo e)
    (ha : e.state ≠ .admitted) : Keeps p s ((s.setDevice i (some e)).leaveOrder i) := by
  refine Keeps.records rfl fun hp => ?_
  have hrewrites : s.Rewrites ((s.setDevice i (some e)).leaveOrder i) := rewrites_setDevice hd (he hp)
  refine registryInv_of_rewrites hrewrites rfl rfl rfl (admissionInv_leave (i := i) rfl rfl fun j => ?_)
  have := pendingAt_setDevice s i j e
  change (s.setDevice i (some e)).pendingAt j ↔ _
  rw [this]
  split
  · next hj => subst hj; simp [ha]
  · next hj => simp [Ne.symm hj]

/-- A record is rewritten to ADMITTED and enters the order. -/
theorem keeps_rewrite_enter {i : Fin 48} {d e : Device} (hd : s.device i = some d) (he : p → d.RewrittenTo e)
    (ha : e.state = .admitted) : Keeps p s ((s.setDevice i (some e)).enterOrder i) := by
  refine Keeps.records (by rw [State.enterOrder_eq]; rfl) fun hp => ?_
  have hdev : ∀ j, ((s.setDevice i (some e)).enterOrder i).device j = (s.setDevice i (some e)).device j := fun j => by
    rw [State.enterOrder_eq]; rfl
  have hrewrites : s.Rewrites ((s.setDevice i (some e)).enterOrder i) := fun j => by
    rw [hdev]; exact rewrites_setDevice hd (he hp) j
  refine registryInv_of_rewrites hrewrites ?_ ?_ ?_ (admissionInv_enter (i := i) ?_ ?_ fun j => ?_)
  · rw [State.enterOrder_eq]; rfl
  · rw [State.enterOrder_eq]; rfl
  · rw [State.enterOrder_eq]; rfl
  · rw [State.enterOrder_eq]; rfl
  · exact State.enterOrder_order _ i
  · have := pendingAt_setDevice s i j e
    simp only [State.pendingAt, hdev] at this ⊢
    rw [this]
    split
    · next hj => subst hj; simp [ha]
    · next hj => simp [Ne.symm hj]

/-! ### Members (R20) -/

/-- The count that a zone record keeps of a kind. -/
def Zone.tally (r : Zone) : DeviceKind → Nat
  | .valveHead => r.valves
  | .roomSensor => r.sensors
  | .roomUnit => r.units

/-- The record at a slot counts for a zone and a kind. -/
def countsFor (z : Fin 16) (k : DeviceKind) (d : Option Device) : Bool := d.any (fun d => d.zone == some z && d.kind == k)

@[simp] theorem countsFor_some (z : Fin 16) (k : DeviceKind) (d : Device) :
    (countsFor z k (some d)).toNat = if d.zone = some z ∧ d.kind = k then 1 else 0 := by
  simp only [countsFor, Option.any_some]
  split
  · next h => simp [h.1, h.2]
  · next h => simpa using h

@[simp] theorem countsFor_none (z : Fin 16) (k : DeviceKind) : (countsFor z k none).toNat = 0 := rfl

theorem memberInv_iff : s.MemberInv ↔ (∀ z k, (s.zone z).tally k = s.members z k) ∧
    ∀ z, (s.zone z).valves ≤ 6 ∧ (s.zone z).sensors + (s.zone z).units ≤ 2 := by
  constructor
  · intro h
    refine ⟨fun z k => ?_, fun z => ⟨(h z).2.2.2.1, (h z).2.2.2.2⟩⟩
    cases k
    · exact (h z).1
    · exact (h z).2.1
    · exact (h z).2.2.1
  · rintro ⟨h, hl⟩ z
    exact ⟨h z .valveHead, h z .roomSensor, h z .roomUnit, (hl z).1, (hl z).2⟩

theorem Zone.tally_count (r : Zone) (k k' : DeviceKind) (up down : Nat) :
    (r.count k up down).tally k' = if k = k' then r.tally k' + up - down else r.tally k' := by
  cases k <;> cases k' <;> rfl

/-- One place of a list without duplicates changes a count by what it held and what it holds. -/
theorem length_filter_update {α : Type} [DecidableEq α] {l : List α} {a : α} {f g : α → Bool} (hl : l.Nodup) (ha : a ∈ l)
    (h : ∀ b, b ≠ a → g b = f b) :
    (l.filter g).length + (f a).toNat = (l.filter f).length + (g a).toNat := by
  induction l with
  | nil => cases ha
  | cons b l ih =>
    obtain ⟨hb, hl⟩ := List.nodup_cons.1 hl
    have hstep : ∀ (e : α → Bool), ((b :: l).filter e).length = (l.filter e).length + (e b).toNat := fun e => by
      cases he : e b <;> simp [he]
    rw [hstep, hstep]
    rcases List.mem_cons.1 ha with rfl | ha
    · have hrest : l.filter g = l.filter f := List.filter_congr fun c hc => h c fun e => hb (e ▸ hc)
      rw [hrest]; omega
    · have hne : b ≠ a := fun e => hb (e ▸ ha)
      have := ih hl ha
      rw [h b hne]; omega

/-- What a record written at a slot changes in the member counts. -/
theorem members_update {i : Fin 48} {x : Option Device} (h : ∀ j, t.device j = if i = j then x else s.device j)
    (z : Fin 16) (k : DeviceKind) :
    t.members z k + (countsFor z k (s.device i)).toNat = s.members z k + (countsFor z k x).toNat := by
  have hi : countsFor z k x = countsFor z k (t.device i) := by rw [h i, if_pos rfl]
  rw [hi]
  refine length_filter_update (f := fun j => countsFor z k (s.device j)) (g := fun j => countsFor z k (t.device j))
    (List.nodup_finRange 48) (List.mem_finRange i) fun j hj => ?_
  rw [h j, if_neg (Ne.symm hj)]

theorem State.addMember_zone (s : State) (z : Option (Fin 16)) (k : DeviceKind) (y : Fin 16) :
    (s.addMember z k).zone y = if z = some y then (s.zone y).count k 1 0 else s.zone y := by
  cases z with
  | none => simp [State.addMember]
  | some x =>
    simp only [State.addMember, State.setZone_zone, Option.some.injEq]
    split
    · next h => rw [h]
    · rfl

theorem State.dropMember_zone (s : State) (z : Option (Fin 16)) (k : DeviceKind) (y : Fin 16) :
    (s.dropMember z k).zone y = if z = some y then (s.zone y).count k 0 1 else s.zone y := by
  cases z with
  | none => simp [State.dropMember]
  | some x =>
    simp only [State.dropMember, State.setZone_zone, Option.some.injEq]
    split
    · next h => rw [h]
    · rfl

/-- A member count is no part of a zone record's ranges. -/
theorem zoneOk_count {r : Zone} (k : DeviceKind) (up down : Nat) (h : zoneOk r) : zoneOk (r.count k up down) := by
  cases k <;> exact h

theorem zoneInv_addMember (z : Option (Fin 16)) (k : DeviceKind) (h : s.ZoneInv) : (s.addMember z k).ZoneInv := by
  intro y
  rw [State.addMember_zone]
  split
  · exact zoneOk_count k 1 0 (h y)
  · exact h y

theorem zoneInv_dropMember (z : Option (Fin 16)) (k : DeviceKind) (h : s.ZoneInv) : (s.dropMember z k).ZoneInv := by
  intro y
  rw [State.dropMember_zone]
  split
  · exact zoneOk_count k 0 1 (h y)
  · exact h y

/-- A zone that is not full takes one more device of the kind within its limits. -/
theorem limits_count {r : Zone} {k : DeviceKind} (hfull : r.atLimit k = false)
    (h : r.valves ≤ 6 ∧ r.sensors + r.units ≤ 2) :
    (r.count k 1 0).valves ≤ 6 ∧ (r.count k 1 0).sensors + (r.count k 1 0).units ≤ 2 := by
  cases k <;> (simp [Zone.atLimit] at hfull; simp [Zone.count]; omega)

theorem limits_count_down {r : Zone} (k : DeviceKind) (h : r.valves ≤ 6 ∧ r.sensors + r.units ≤ 2) :
    (r.count k 0 1).valves ≤ 6 ∧ (r.count k 0 1).sensors + (r.count k 0 1).units ≤ 2 := by
  cases k <;> (simp [Zone.count]; omega)

end Sys2Proof.Machine

/-! Admission, rebinding, retirement, release and the join list: what each keeps of the registry's invariants. -/

namespace Sys2Proof.Machine

variable {p : Prop} {s t : State}

/-! ### Serials and join entries (R161, R163) -/

/-- Distinct serials over records and join list, said record by record. -/
theorem serialsNodup_iff : (s.serials ++ s.bus.joins.map JoinEntry.serial).Nodup ↔
    (∀ i j d e, s.device i = some d → s.device j = some e → d.serial = e.serial → i = j) ∧
    (s.bus.joins.map JoinEntry.serial).Nodup ∧
    ∀ i d, s.device i = some d → ∀ e ∈ s.bus.joins, d.serial ≠ e.serial := by
  have hserials : s.serials.Nodup ↔
      ∀ i j d e, s.device i = some d → s.device j = some e → d.serial = e.serial → i = j := by
    rw [State.serials, List.Nodup, List.pairwise_filterMap]
    constructor
    · intro h i j d e hi hj hde
      have hlt : ∀ a b : Fin 48, a < b → ∀ x, (s.device a).map Device.serial = some x →
          ∀ y, (s.device b).map Device.serial = some y → x ≠ y := fun a b hab => by
        simpa [slots] using List.pairwise_iff_getElem.1 h a b (by simp [slots]) (by simp [slots]) hab
      rcases lt_trichotomy i j with hij | hij | hij
      · exact absurd hde (hlt i j hij d.serial (by simp [hi]) e.serial (by simp [hj]))
      · exact hij
      · exact absurd hde.symm (hlt j i hij e.serial (by simp [hj]) d.serial (by simp [hi]))
    · intro h
      refine (List.nodup_finRange 48).imp fun {a b} hab x hx y hy e => hab ?_
      obtain ⟨d, hd, rfl⟩ := Option.map_eq_some_iff.1 hx
      obtain ⟨f, hf, rfl⟩ := Option.map_eq_some_iff.1 hy
      exact h a b d f hd hf e
  rw [List.nodup_append, hserials]
  refine and_congr_right fun _ => and_congr_right fun _ => ?_
  constructor
  · intro h i d hd e he
    exact h d.serial (List.mem_filterMap.2 ⟨i, List.mem_finRange i, by simp [hd]⟩) e.serial (List.mem_map_of_mem he)
  · intro h x hx y hy
    obtain ⟨i, -, hi⟩ := List.mem_filterMap.1 hx
    obtain ⟨d, hd, rfl⟩ := Option.map_eq_some_iff.1 hi
    obtain ⟨e, he, rfl⟩ := List.mem_map.1 hy
    exact h i d hd e he

/-- A join list thinned out, its entries' numbers and sightings kept and their ages in range, stays in range (R163). -/
theorem serialInv_setJoins {l : List JoinEntry} (hs : (l.map JoinEntry.serial).Sublist (s.bus.joins.map JoinEntry.serial))
    (hn : (l.map JoinEntry.number).Sublist (s.bus.joins.map JoinEntry.number))
    (he : ∀ e ∈ l, ∃ f ∈ s.bus.joins, e.number = f.number ∧ e.sightings = f.sightings ∧ (f.age ≤ 9 → e.age ≤ 9))
    (h : s.SerialInv) : (s.setJoins l).SerialInv := by
  obtain ⟨hnodup, hlen, hrise, hentry, hlast⟩ := h
  refine ⟨(List.Sublist.append_left hs _).nodup hnodup, ?_, hrise.sublist hn, fun e hel => ?_, ?_⟩
  · have := hs.length_le
    simp only [List.length_map] at this
    exact this.trans hlen
  · obtain ⟨f, hf, h1, h2, h3⟩ := he e hel
    obtain ⟨h4, h5, h6, h7⟩ := hentry f hf
    have hne : (s.setJoins l).bus.lastEntry = s.bus.lastEntry := if_neg fun k => by
      rw [k.1] at hel; cases hel
    rw [hne, h1, h2]
    exact ⟨h4, h5, h3 h6, h7⟩
  · change (if _ then _ else _) ≤ 65535
    split
    · omega
    · exact hlast

theorem keeps_setJoins {l : List JoinEntry} (hs : (l.map JoinEntry.serial).Sublist (s.bus.joins.map JoinEntry.serial))
    (hn : (l.map JoinEntry.number).Sublist (s.bus.joins.map JoinEntry.number))
    (he : ∀ e ∈ l, ∃ f ∈ s.bus.joins, e.number = f.number ∧ e.sightings = f.sightings ∧ (f.age ≤ 9 → e.age ≤ 9)) :
    Keeps p s (s.setJoins l) :=
  ⟨id, id, id, id, fun _ ⟨h, hrest⟩ => ⟨serialInv_setJoins hs hn he h, hrest⟩⟩

theorem keeps_dropJoin (s : State) (n : Nat) : Keeps p s (s.dropJoin n) :=
  keeps_setJoins (List.filter_sublist.map _) (List.filter_sublist.map _)
    fun e he => ⟨e, (List.mem_filter.1 he).1, rfl, rfl, id⟩

/-- An entry a minute older keeps everything but its age. -/
theorem JoinEntry.aged_spec {e f : JoinEntry} (h : e.aged = some f) :
    f.serial = e.serial ∧ f.number = e.number ∧ f.sightings = e.sightings ∧ f.age ≤ 9 := by
  unfold JoinEntry.aged at h
  split at h
  · cases h; exact ⟨rfl, rfl, rfl, by dsimp only; omega⟩
  · cases h

theorem map_filterMap_sublist {α β : Type} {f : α → Option α} {g : α → β} (h : ∀ a b, f a = some b → g b = g a)
    (l : List α) : ((l.filterMap f).map g).Sublist (l.map g) := by
  induction l with
  | nil => exact .slnil
  | cons a l ih =>
    cases hf : f a with
    | none => rw [List.filterMap_cons_none hf]; exact ih.cons _
    | some b => rw [List.filterMap_cons_some hf, List.map_cons, List.map_cons, h a b hf]; exact ih.cons_cons _

theorem keeps_ageJoins (s : State) : Keeps p s s.ageJoins := by
  refine keeps_setJoins (map_filterMap_sublist (fun _ _ h => (JoinEntry.aged_spec h).1) _)
    (map_filterMap_sublist (fun _ _ h => (JoinEntry.aged_spec h).2.1) _) fun e he => ?_
  obtain ⟨f, hf, hfe⟩ := List.mem_filterMap.1 he
  obtain ⟨-, h2, h3, h4⟩ := JoinEntry.aged_spec hfe
  exact ⟨f, hf, h2, h3, fun _ => h4⟩

theorem keeps_expireJoin (s : State) (n : Nat) : Keeps p s (s.expireJoin n) := by
  unfold State.expireJoin
  split
  · exact Keeps.ite (fun _ => (keeps_takeEarly s _).trans (keeps_ageJoins _)) fun _ => Keeps.refl s
  · exact Keeps.refl s

/-- The number names one entry of a list whose numbers rise. -/
theorem eq_of_number_eq {l : List JoinEntry} (h : (l.map JoinEntry.number).Pairwise (· < ·)) {e f : JoinEntry}
    (he : e ∈ l) (hf : f ∈ l) (hn : e.number = f.number) : e = f :=
  List.inj_on_of_nodup_map (h.imp fun hlt => Nat.ne_of_lt hlt) he hf hn

/-- A sighting keeps serials and numbers, and its entry in range (R164, case 4). -/
theorem serialInv_sighted {e : JoinEntry} (he : e ∈ s.bus.joins) (k : DeviceKind) (h : s.SerialInv) :
    (s.setBus { s.bus with
      joins := s.bus.joins.map (fun x => if x.number = e.number then e.sighted k else x) }).SerialInv := by
  obtain ⟨hnodup, hlen, hrise, hentry, hlast⟩ := h
  have hsame : ∀ x ∈ s.bus.joins, x.number = e.number → x = e := fun x hx hn => eq_of_number_eq hrise hx he hn
  have hserial : (s.bus.joins.map (fun x => if x.number = e.number then e.sighted k else x)).map JoinEntry.serial =
      s.bus.joins.map JoinEntry.serial := by
    rw [List.map_map]
    refine List.map_congr_left fun x hx => ?_
    simp only [Function.comp_apply]
    split
    · next hn => rw [hsame x hx hn]; rfl
    · rfl
  have hnumber : (s.bus.joins.map (fun x => if x.number = e.number then e.sighted k else x)).map JoinEntry.number =
      s.bus.joins.map JoinEntry.number := by
    rw [List.map_map]
    refine List.map_congr_left fun x _ => ?_
    simp only [Function.comp_apply]
    split
    · next hn => rw [hn]; rfl
    · rfl
  refine ⟨?_, by simpa using hlen, ?_, fun x hx => ?_, hlast⟩
  · rw [State.setBus_bus, hserial]; exact hnodup
  · rw [State.setBus_bus, hnumber]; exact hrise
  · obtain ⟨y, hy, rfl⟩ := List.mem_map.1 hx
    obtain ⟨h1, h2, -, -, -⟩ := hentry e he
    split
    · refine ⟨h1, h2, ?_, ?_, ?_⟩ <;> simp [JoinEntry.sighted]
    · exact hentry y hy

/-- A new serial enters the list at its tail under a new number (R164, case 5). -/
theorem serialInv_newEntry {serial : BitVec 32} (k : DeviceKind) (hd : ∀ i d, s.device i = some d → d.serial ≠ serial)
    (hj : ∀ e ∈ s.bus.joins, e.serial ≠ serial) (hroom : s.bus.joins.length < 8) (hlast : s.bus.lastEntry < 65535)
    (h : s.SerialInv) : (s.setBus { s.bus with
      joins := s.bus.joins ++ [{ number := s.bus.lastEntry + 1, serial, kind := k, sightings := 1, age := 0 }]
      lastEntry := s.bus.lastEntry + 1 }).SerialInv := by
  obtain ⟨hnodup, -, hrise, hentry, -⟩ := h
  obtain ⟨h1, h2, h3⟩ := serialsNodup_iff.1 hnodup
  refine ⟨serialsNodup_iff.2 ⟨h1, ?_, ?_⟩, by simpa using hroom, ?_, ?_, hlast⟩
  · rw [State.setBus_bus, List.map_append]
    refine List.Nodup.append h2 (List.nodup_singleton _) ?_
    simpa using hj
  · intro i d hdi e he
    rcases List.mem_append.1 he with he | he
    · exact h3 i d hdi e he
    · rw [List.mem_singleton.1 he]; exact hd i d hdi
  · rw [State.setBus_bus, List.map_append, List.pairwise_append]
    refine ⟨hrise, List.pairwise_singleton _ _, fun n hn m hm => ?_⟩
    obtain ⟨e, he, rfl⟩ := List.mem_map.1 hn
    obtain rfl : m = s.bus.lastEntry + 1 := by simpa using hm
    exact Nat.lt_succ_of_le (hentry e he).2.1
  · intro e he
    rcases List.mem_append.1 he with he | he
    · obtain ⟨h4, h5, h6⟩ := hentry e he
      exact ⟨h4, Nat.le_succ_of_le h5, h6⟩
    · rw [List.mem_singleton.1 he]; simp

theorem State.slotOf_none {s : State} {serial : BitVec 32} (h : s.slotOf serial = none) :
    ∀ i d, s.device i = some d → d.serial ≠ serial := by
  intro i d hd
  have := List.find?_eq_none.1 h i (List.mem_finRange i)
  simpa [hd] using this

theorem State.joinOf_spec {s : State} {serial : BitVec 32} {e : JoinEntry} (h : s.joinOf serial = some e) :
    e ∈ s.bus.joins ∧ e.serial = serial :=
  ⟨List.mem_of_find?_eq_some h, by simpa using List.find?_some h⟩

theorem State.joinOf_none {s : State} {serial : BitVec 32} (h : s.joinOf serial = none) :
    ∀ e ∈ s.bus.joins, e.serial ≠ serial := by
  simpa [State.joinOf] using h

/-! ### Re-find (R170, R188) -/

theorem Device.refound_valve {d : Device} (h : d.kind = .valveHead) : d.refound =
    { d with state := .admitted, misses := 0, lastSeq := 0, commanded := none, failureRun := 0 } := by
  simp only [Device.refound, h]

theorem Device.refound_other {d : Device} (h : d.kind ≠ .valveHead) : d.refound =
    { d with state := .admitted, misses := 0, lastSeq := 0 } := by
  unfold Device.refound; dsimp only; split <;> [exact absurd ‹_› h; rfl; rfl]

theorem Device.refound_leaves (d : Device) :
    d.refound.serial = d.serial ∧ d.refound.kind = d.kind ∧ d.refound.zone = d.zone ∧ d.refound.state = .admitted := by
  unfold Device.refound; dsimp only; split <;> exact ⟨rfl, rfl, rfl, rfl⟩

/-- The record that a re-find leaves is in range where it was not RETIRING. -/
theorem deviceOk_refound {d : Device} (hr : d.state ≠ .retiring) (h : deviceOk d) :
    deviceOk { d.refound with grant := none, next := none, exercisePhase := .none } := by
  obtain ⟨-, hbad, -, hfail, hage, hfaulted, hrun⟩ := h
  by_cases hk : d.kind = .valveHead
  · rw [Device.refound_valve hk]
    exact ⟨by simp, hbad, by simp, by simp, hage, by simp, by simp⟩
  · rw [Device.refound_other hk]
    exact ⟨by simp, hbad, by simp, hfail, hage, by simp, fun _ _ => hrun (fun e => hk (hfaulted e)) hr⟩

/-- An order and the motor block are written apart from each other. -/
theorem State.enterOrder_withMotor (s : State) (i : Fin 48) (m : Motor) :
    State.enterOrder { s with motor := m } i = { s.enterOrder i with motor := m } := by
  unfold State.enterOrder; dsimp only; split <;> rfl

theorem keeps_refind {i : Fin 48} {d : Device} (hd : s.device i = some d) (hr : d.state ≠ .retiring) :
    Keeps p s (s.refind i d) := by
  obtain ⟨h1, h2, h3, h4⟩ := d.refound_leaves
  have hentered : Keeps p s ((s.endGrant i d.refound).enterOrder i) := by
    rw [State.endGrant_eq, State.enterOrder_withMotor]
    have hwritten := keeps_rewrite_enter (p := p) (e := { d.refound with grant := none, next := none, exercisePhase := .none })
      hd (fun _ => ⟨h1, h2, h3, deviceOk_refound hr⟩) h4
    exact hwritten.trans (Keeps.outside rfl)
  exact Keeps.ite (fun _ => hentered.trans (keeps_joinForcing _ i)) fun _ => hentered

theorem keeps_takeJoin (s : State) (serial : BitVec 32) (k : DeviceKind) : Keeps p s (s.takeJoin serial k) := by
  unfold State.takeJoin
  split
  · unfold State.knownJoin
    split
    · next d hd => exact Keeps.ite (fun _ => Keeps.refl s) fun hn => keeps_refind hd fun e => hn (.inl e)
    · exact Keeps.refl s
  · next e _ he =>
    exact ⟨id, id, id, id, fun _ ⟨h, hrest⟩ => ⟨serialInv_sighted (State.joinOf_spec he).1 k h, hrest⟩⟩
  · next hslot hjoin =>
    refine Keeps.ite (fun hroom => ?_) fun _ => keeps_raise s _
    refine ⟨id, id, id, id, fun _ ⟨h, hrest⟩ => ⟨?_, hrest⟩⟩
    exact serialInv_newEntry k (State.slotOf_none hslot) (State.joinOf_none hjoin) hroom.1 hroom.2 h

/-! ### Retirement and release (R172, R173) -/

theorem Device.endGrant_rewrites {d : Device} {st : DeviceState} (hst : st = .retiring) :
    d.RewrittenTo { d with state := st, grant := none, next := none, exercisePhase := .none } := by
  subst hst
  refine ⟨rfl, rfl, rfl, ?_⟩
  rintro ⟨h1, h2, h3, h4, h5, -, -⟩
  exact ⟨h1, h2, h3, h4, h5, by simp, by simp⟩

theorem keeps_retire {i : Fin 48} {d : Device} (hd : s.device i = some d) : Keeps p s (s.retire i d) := by
  have hqueue : Keeps p s (s.setQueue (dequeue s.motor.queue i)) := Keeps.outside rfl
  refine (hqueue.trans ?_).trans (keeps_evaluateFrom _ s)
  generalize hu : s.setQueue (dequeue s.motor.queue i) = u
  have hdu : u.device i = some d := by rw [← hu]; exact hd
  have he : d.RewrittenTo { d with state := .retiring, grant := none, next := none, exercisePhase := .none } :=
    Device.endGrant_rewrites rfl
  rw [State.endGrant_eq]
  refine Keeps.ite (fun _ => ?_) fun hn => ?_
  · exact (keeps_rewrite_leave hdu (fun _ => he) (by simp)).trans (Keeps.outside rfl)
  · exact (keeps_rewrite hdu (fun _ => he) (iff_of_false (by simp) hn)).trans (Keeps.outside rfl)

/-- A slot without a record takes no part in the registry's invariants; its member is counted no more. -/
theorem keeps_release {i : Fin 48} {d : Device} (hd : s.device i = some d) (hr : d.state = .retiring) :
    Keeps p s (s.release i d) := by
  have heq : s.release i d = { s.setDevice i none with zones := (s.release i d).zones } := State.dropMember_eq _ _ _
  have hdev : ∀ j, (s.release i d).device j = if i = j then none else s.device j := fun j => by
    rw [heq]; exact s.setDevice_device i j none
  have hzone : ∀ y, (s.release i d).zone y = if d.zone = some y then (s.zone y).count d.kind 0 1 else s.zone y :=
    fun y => State.dropMember_zone _ _ _ _
  have hsome : ∀ j x, (s.release i d).device j = some x → s.device j = some x := fun j x h => by
    rw [hdev] at h; split at h <;> [cases h; exact h]
  refine ⟨fun h => zoneInv_dropMember _ _ h, ?_, ?_, ?_, fun _ ⟨hs, ha, hm, hdi⟩ => ⟨?_, ?_, ?_, ?_⟩⟩
  · rw [heq]; exact id
  · rw [heq]; exact id
  · rw [heq]; exact id
  · obtain ⟨hn, hrest⟩ := hs
    obtain ⟨h1, h2, h3⟩ := serialsNodup_iff.1 hn
    have hbus : (s.release i d).bus = s.bus := by rw [heq]; rfl
    have hn' : ((s.release i d).serials ++ (s.release i d).bus.joins.map JoinEntry.serial).Nodup :=
      serialsNodup_iff.2 ⟨fun a b x y hx hy => h1 a b x y (hsome a x hx) (hsome b y hy), by rw [hbus]; exact h2,
        fun a x hx => by rw [hbus]; exact h3 a x (hsome a x hx)⟩
    rw [hbus] at hn'
    simp only [State.SerialInv, hbus]
    exact ⟨hn', hrest⟩
  · refine admissionInv_same (by rw [heq]; rfl) (by rw [heq]; rfl) (fun j => ?_) ha
    simp only [State.pendingAt, hdev]
    split
    · next e => subst e; simp [hd, hr]
    · rfl
  · obtain ⟨htally, hlimit⟩ := memberInv_iff.1 hm
    refine memberInv_iff.2 ⟨fun z k => ?_, fun z => ?_⟩
    · have hup := members_update hdev z k
      have hz := htally z k
      rw [hd, countsFor_some, countsFor_none] at hup
      rw [hzone]
      split
      · next hzone =>
        rw [Zone.tally_count]
        simp only [hzone, true_and] at hup
        split <;> (next hk => simp only [hk, ↓reduceIte] at hup; omega)
      · next hzone => simp only [hzone, false_and, ↓reduceIte] at hup; omega
    · rw [hzone]
      split
      · exact limits_count_down _ (hlimit z)
      · exact hlimit z
  · exact fun j x hx => hdi j x (hsome j x hx)

/-! ### Rebinding and admission (R167, R171) -/

/-- A record moves to another zone with room for it, and the member counts with it. -/
theorem keeps_moveMember {i : Fin 48} {d : Device} {zone : Option (Fin 16)} (hd : s.device i = some d)
    (hne : zone ≠ d.zone) (hfull : s.zoneFull zone d.kind = false) :
    Keeps p s (((s.setDevice i (some { d with zone := zone })).dropMember d.zone d.kind).addMember zone d.kind) := by
  generalize ht : ((s.setDevice i (some { d with zone := zone })).dropMember d.zone d.kind).addMember zone d.kind = t
  have heq : t = { s.setDevice i (some { d with zone := zone }) with zones := t.zones } := by
    rw [← ht, State.addMember_eq, State.dropMember_eq]
  have hdev : ∀ j, t.device j = if i = j then some { d with zone := zone } else s.device j := fun j => by
    rw [heq]; exact s.setDevice_device i j _
  have hzone : ∀ y, t.zone y = if zone = some y then (s.zone y).count d.kind 1 0
      else if d.zone = some y then (s.zone y).count d.kind 0 1 else s.zone y := fun y => by
    rw [← ht, State.addMember_zone, State.dropMember_zone]
    split
    · next hz => rw [if_neg fun e => hne (hz.trans e.symm)]; rfl
    · rfl
  have hrewritten : ∀ (f : Device → BitVec 32) , (∀ e z, f { e with zone := z } = f e) →
      ∀ j, (t.device j).map f = (s.device j).map f := fun f hf j => by
    rw [hdev]; split
    · next e => subst e; simp [hd, hf]
    · rfl
  have hbus : t.bus = s.bus := by rw [heq]; rfl
  refine ⟨fun h => ?_, ?_, ?_, ?_, fun _ ⟨hs, ha, hm, hdi⟩ => ⟨?_, ?_, ?_, ?_⟩⟩
  · rw [← ht]; exact zoneInv_addMember _ _ (zoneInv_dropMember _ _ h)
  · rw [heq]; exact id
  · rw [heq]; exact id
  · rw [heq]; exact id
  · have hserials : t.serials = s.serials := by
      simp only [State.serials, hrewritten Device.serial fun _ _ => rfl]
    simpa only [State.SerialInv, hserials, hbus] using hs
  · refine admissionInv_same (by rw [heq]; rfl) (by rw [heq]; rfl) (fun j => ?_) ha
    simp only [State.pendingAt, hdev]
    split
    · next e => subst e; simp [hd]
    · rfl
  · obtain ⟨htally, hlimit⟩ := memberInv_iff.1 hm
    refine memberInv_iff.2 ⟨fun z k => ?_, fun z => ?_⟩
    · have hup := members_update hdev z k
      have hz := htally z k
      rw [hd, countsFor_some, countsFor_some] at hup
      rw [hzone]
      split
      · next hnew =>
        have hold : d.zone ≠ some z := fun e => hne (hnew.trans e.symm)
        rw [Zone.tally_count]
        simp only [hnew, hold, true_and, false_and, ↓reduceIte] at hup
        split <;> (next hk => simp only [hk, ↓reduceIte] at hup; omega)
      · next hnew =>
        simp only [hnew, false_and, ↓reduceIte] at hup
        split
        · next hold =>
          rw [Zone.tally_count]
          simp only [hold, true_and] at hup
          split <;> (next hk => simp only [hk, ↓reduceIte] at hup; omega)
        · next hold => simp only [hold, false_and, ↓reduceIte] at hup; omega
    · rw [hzone]
      split
      · next hz => exact limits_count (by simpa [State.zoneFull, hz] using hfull) (hlimit z)
      · split
        · exact limits_count_down _ (hlimit z)
        · exact hlimit z
  · intro j x hx
    rw [hdev] at hx
    split at hx
    · next e => cases hx; exact hdi i d hd
    · exact hdi j x hx

theorem keeps_rebind {i : Fin 48} {d : Device} {zone : Option (Fin 16)} (hd : s.device i = some d)
    (hne : zone ≠ d.zone) (hfull : s.zoneFull zone d.kind = false) : Keeps p s (s.rebind i d zone) :=
  ((keeps_moveMember hd hne hfull).trans (keeps_joinForcing _ i)).trans (keeps_evaluateFrom _ s)

end Sys2Proof.Machine

/-! ADMIT, the line and its cycle, the slots, the hour count advance: each keeps the invariants. -/

namespace Sys2Proof.Machine

variable {p : Prop} {s t : State}

/-! ### ADMIT (R167) -/

/-- What an accepted ADMIT makes before the evaluations: the record, its member, the join list and the order. -/
def State.admitRecord (s : State) (i : Fin 48) (e : JoinEntry) (zone : Option (Fin 16)) : State :=
  (((s.setDevice i (some (Device.admitted e zone))).addMember zone e.kind).dropJoin e.number).enterOrder i

theorem State.admitRecord_eq (s : State) (i : Fin 48) (e : JoinEntry) (zone : Option (Fin 16)) :
    s.admitRecord i e zone = { (s.setDevice i (some (Device.admitted e zone))) with
      zones := (s.addMember zone e.kind).zones
      bus := (s.dropJoin e.number).bus
      registry := { (s.setDevice i (some (Device.admitted e zone))).registry with
        order := if i ∈ s.registry.order then s.registry.order else s.registry.order ++ [i] } } := by
  have hmember : (s.setDevice i (some (Device.admitted e zone))).addMember zone e.kind =
      { s.setDevice i (some (Device.admitted e zone)) with zones := (s.addMember zone e.kind).zones } := by
    unfold State.addMember; split <;> rfl
  unfold State.admitRecord
  rw [hmember]
  unfold State.enterOrder
  split
  · next h =>
    have h : i ∈ s.registry.order := h
    rw [if_pos h]; rfl
  · next h =>
    have h : i ∉ s.registry.order := h
    rw [if_neg h]; rfl

theorem keeps_admitRecord {i : Fin 48} {e : JoinEntry} {zone : Option (Fin 16)} (hd : s.device i = none)
    (he : e ∈ s.bus.joins) (hfull : s.zoneFull zone e.kind = false) : Keeps p s (s.admitRecord i e zone) := by
  have heq := s.admitRecord_eq i e zone
  generalize s.admitRecord i e zone = t at heq
  have hdev : ∀ j, t.device j = if i = j then some (Device.admitted e zone) else s.device j := fun j => by
    rw [heq]; exact s.setDevice_device i j _
  have hzone : ∀ y, t.zone y = if zone = some y then (s.zone y).count e.kind 1 0 else s.zone y := fun y => by
    rw [heq]; exact State.addMember_zone s zone e.kind y
  have hjoins : t.bus.joins = s.bus.joins.filter (fun x => x.number != e.number) := by rw [heq]; rfl
  refine ⟨fun h y => ?_, ?_, ?_, ?_, fun _ ⟨hs, ha, hm, hdi⟩ => ⟨?_, ?_, ?_, ?_⟩⟩
  · rw [hzone]; split
    · exact zoneOk_count _ _ _ (h y)
    · exact h y
  · rw [heq]; exact id
  · rw [heq]; exact id
  · rw [heq]; exact id
  · have hdrop : (s.dropJoin e.number).SerialInv := serialInv_setJoins (List.filter_sublist.map _)
      (List.filter_sublist.map _) (fun x hx => ⟨x, (List.mem_filter.1 hx).1, rfl, rfl, id⟩) hs
    obtain ⟨h1, h2, h3⟩ := serialsNodup_iff.1 hs.1
    obtain ⟨-, hrest⟩ := hdrop
    have hbus : t.bus = (s.dropJoin e.number).bus := by rw [heq]
    have hrise := hs.2.2.1
    refine ⟨serialsNodup_iff.2 ⟨fun a b x y hx hy hxy => ?_, ?_, fun a x hx y hy => ?_⟩, by rw [hbus]; exact hrest⟩
    · rw [hdev] at hx hy
      split at hx <;> split at hy
      · next ha hb => rw [← ha, hb]
      · cases hx; exact absurd hxy.symm (h3 b y hy e he)
      · cases hy; exact absurd hxy (h3 a x hx e he)
      · exact h1 a b x y hx hy hxy
    · rw [hjoins]; exact (List.filter_sublist.map _).nodup h2
    · rw [hjoins] at hy
      obtain ⟨hyj, hyn⟩ := List.mem_filter.1 hy
      rw [hdev] at hx
      split at hx
      · cases hx
        intro hxy
        have : e = y := List.inj_on_of_nodup_map h2 he hyj hxy
        simp [this] at hyn
      · exact h3 a x hx y hyj
  · refine admissionInv_enter (i := i) (by rw [heq]; rfl) (by rw [heq]) (fun j => ?_) ha
    simp only [State.pendingAt, hdev]
    split
    · next h => subst h; simp [Device.admitted]
    · next h => simp [Ne.symm h]
  · obtain ⟨htally, hlimit⟩ := memberInv_iff.1 hm
    refine memberInv_iff.2 ⟨fun z k => ?_, fun z => ?_⟩
    · have hup := members_update hdev z k
      have hz := htally z k
      rw [hd, countsFor_some, countsFor_none] at hup
      simp only [Device.admitted] at hup
      rw [hzone]
      split
      · next hzone =>
        rw [Zone.tally_count]
        simp only [hzone, true_and] at hup
        split <;> (next hk => simp only [hk, ↓reduceIte] at hup; omega)
      · next hzone => simp only [hzone, false_and, ↓reduceIte] at hup; omega
    · rw [hzone]
      split
      · next hz => exact limits_count (by simpa [State.zoneFull, hz] using hfull) (hlimit z)
      · exact hlimit z
  · intro j x hx
    rw [hdev] at hx
    split at hx
    · cases hx; simp [Device.admitted]
    · exact hdi j x hx

theorem State.freeSlot_spec {s : State} {i : Fin 48} (h : s.freeSlot = some i) : s.device i = none := by
  simpa using List.find?_some h

theorem keeps_admitDevice (s : State) (serial : BitVec 32) (zone : Byte) : Keeps p s (s.admitDevice serial zone).1 := by
  unfold State.admitDevice
  split
  · exact Keeps.refl s
  split
  · exact Keeps.refl s
  split
  · exact Keeps.refl s
  next e hjoin _ i hslot =>
  refine Keeps.ite_fst (fun _ => Keeps.refl s) fun hfull => ?_
  have hrecord := keeps_admitRecord (p := p) (zone := ‹_›) (State.freeSlot_spec hslot) (State.joinOf_spec hjoin).1
    (by simpa using hfull)
  exact (hrecord.trans (keeps_joinForcing _ i)).trans (keeps_evaluateFrom _ s)

theorem keeps_rebindOr {i : Fin 48} {d : Device} (hd : s.device i = some d) (items : List Item) :
    Keeps p s (s.rebindOr i d items).1 := by
  unfold State.rebindOr
  split
  · exact Keeps.refl s
  · refine Keeps.ite_fst (fun _ => Keeps.refl s) fun _ => Keeps.ite_fst (fun _ => Keeps.refl s) fun hne => ?_
    refine Keeps.ite_fst (fun _ => Keeps.refl s) fun hfull => ?_
    exact keeps_rebind hd hne (by simpa using hfull)

theorem State.deviceOf_spec {s : State} {key : Word} {i : Fin 48} {d : Device} (h : s.deviceOf key = some (i, d)) :
    s.device i = some d := by
  obtain ⟨j, -, hj⟩ := Option.bind_eq_some_iff.1 h
  obtain ⟨e, he, hpair⟩ := Option.map_eq_some_iff.1 hj
  cases hpair
  exact he

theorem keeps_writeDevice (s : State) (key : Word) (items : List Item) : Keeps p s (s.writeDevice key items).1 := by
  unfold State.writeDevice
  split
  · next i d h => exact keeps_rebindOr (State.deviceOf_spec h) items
  · exact Keeps.refl s

theorem keeps_retireDevice (s : State) (key : Word) : Keeps p s (s.retireDevice key).1 := by
  unfold State.retireDevice
  split
  · next i d h => exact Keeps.ite_fst (fun _ => Keeps.refl s) fun _ => keeps_retire (State.deviceOf_spec h)
  · exact Keeps.refl s

theorem keeps_retireJoin (s : State) (key : Word) : Keeps p s (s.retireJoin key).1 := by
  unfold State.retireJoin
  split
  · exact keeps_dropJoin s _
  · exact Keeps.refl s

theorem keeps_writeMotor (s : State) (key : Word) (items : List Item) : Keeps p s (s.writeMotor key items).1 := by
  refine Keeps.ite_fst (fun _ => Keeps.refl s) fun _ => Keeps.ite_fst (fun _ => ?_) fun _ => Keeps.refl s
  exact Keeps.ite_fst (fun _ => Keeps.refl s) fun _ => Keeps.outside rfl

/-! ### The line (R141 to R144) -/

theorem Device.revoked_registered (d : Device) : d.revoked.registered = d.registered := by
  unfold Device.revoked; split <;> rfl

theorem keeps_revoke (s : State) : Keeps p s s.revoke := by
  refine Keeps.ite (fun _ => Keeps.refl s) fun _ => Keeps.devices rfl fun i => ?_
  have : ∀ (o : Option Device), (o.map Device.revoked).map Device.registered = o.map Device.registered := fun o => by
    cases o <;> simp [Device.revoked_registered]
  rw [← this (s.device i)]
  exact congrArg _ (mapTable_get _ _ i)

theorem keeps_leaveRunning (s : State) : Keeps p s s.leaveRunning :=
  Keeps.ite (fun _ => keeps_revoke s) fun _ => Keeps.refl s

/-- A cycle begun while the drive is on keeps the line's items in range (R142, R146). -/
theorem busInv_newCycle (h : s.driveOn = true) (now : Nat) (k : s.BusInv) :
    (s.setBus (s.bus.newCycle now).countStart).BusInv := by
  obtain ⟨-, hstart, hrec, -, -, hnodup⟩ := k
  have hline : s.bus.line = .starting ∨ s.bus.line = .running := by simpa [State.driveOn] using h
  have hcycle : (s.bus.cycle + 1) % 256 < 256 := Nat.mod_lt _ (by omega)
  have hnone : s.bus.recovery = none := by
    have := hrec.not.2 (by rcases hline with e | e <;> simp [e])
    simpa using this
  have hon : s.driveOn ≠ false := by simp [h]
  unfold Bus.countStart
  split
  · split
    · exact ⟨hcycle, by simp, by simp [Bus.newCycle, hnone], fun _ => ⟨rfl, rfl⟩, by simp [State.driveOn], hnodup⟩
    · next hlt =>
      have hlt : ¬ 3 ≤ s.bus.starting := hlt
      refine ⟨hcycle, ?_, by simpa [Bus.newCycle] using hrec, fun _ => ⟨rfl, rfl⟩, fun hd => absurd hd hon, hnodup⟩
      simp only [State.setBus_bus, Bus.newCycle]; omega
  · exact ⟨hcycle, hstart, hrec, fun _ => ⟨rfl, rfl⟩, fun hd => absurd hd hon, hnodup⟩

theorem Bus.countStart_leaves (b : Bus) : b.countStart.joins = b.joins ∧ b.countStart.lastEntry = b.lastEntry := by
  unfold Bus.countStart; repeat' split
  all_goals exact ⟨rfl, rfl⟩

theorem keeps_newCycle (h : s.driveOn = true) : Keeps p s s.newCycle := by
  obtain ⟨hj, hn⟩ := Bus.countStart_leaves (s.bus.newCycle s.time.now)
  have hbus : Keeps p s (s.setBus (s.bus.newCycle s.time.now).countStart) :=
    Keeps.setBus (busInv_newCycle h _) hj hn
  refine hbus.trans (Keeps.devices rfl fun i => ?_)
  change Option.map _ (s.newCycle.device i) = (s.device i).map Device.registered
  rw [s.newCycle_device, Option.map_map]
  rfl

/-- STARTING is entered from a line that was not RUNNING (R141, R143). -/
theorem keeps_startLine (h : s.bus.line ≠ .running) : Keeps p s s.startLine := by
  have hbus : Keeps p s (s.setBus { s.bus with line := .starting, starting := 0, recovery := none }) := by
    refine Keeps.setBus ?_ rfl rfl
    rintro ⟨hc, -, -, hq, -, hn⟩
    exact ⟨hc, by simp, by simp, fun _ => hq h, by simp [State.driveOn], hn⟩
  exact hbus.trans (keeps_newCycle rfl)

theorem keeps_stopLine (s : State) : Keeps p s s.stopLine := by
  refine (keeps_leaveRunning s).trans (Keeps.setBus ?_ rfl rfl)
  rintro ⟨hc, -, -, -, -, hn⟩
  exact ⟨hc, by simp [Bus.abandoned], by simp, fun _ => ⟨rfl, rfl⟩, fun _ => rfl, hn⟩

theorem keeps_faultLine (s : State) : Keeps p s s.faultLine := by
  refine Keeps.trans ?_ (keeps_raise _ _)
  refine (keeps_leaveRunning s).trans (Keeps.setBus ?_ rfl rfl)
  rintro ⟨hc, -, -, -, -, hn⟩
  exact ⟨hc, by simp [Bus.abandoned], by simp, fun _ => ⟨rfl, rfl⟩, fun _ => rfl, hn⟩

theorem keeps_runLine (s : State) : Keeps p s s.runLine.1 := by
  unfold State.runLine
  split
  · next h => exact keeps_startLine (by simp [h])
  all_goals exact Keeps.refl s

theorem keeps_stop (s : State) : Keeps p s s.stop.1 := by
  unfold State.stop
  split
  · exact Keeps.refl s
  all_goals exact (keeps_stopLine s).trans (keeps_evaluateFrom _ s)

/-! ### The window boundary (R182) -/

theorem keeps_issue (s : State) (e : Entry) : Keeps p s (s.issue e) := by
  unfold State.issue
  split
  · next d hd =>
    have hgrant := keeps_setDevice_registered (p := p) (e := { d with grant := some (s.grantOf e) }) hd rfl
    exact hgrant.trans (Keeps.outside rfl)
  · exact Keeps.refl s

theorem keeps_takeBoundary (s : State) : Keeps p s s.takeBoundary := by
  have hflag : Keeps p s { s with motor := { s.motor with grantFlag := false } } := Keeps.outside rfl
  refine Keeps.ite (fun _ => ?_) fun _ => hflag
  split
  · exact hflag.trans (keeps_issue _ _)
  · exact hflag

/-! ### The parts of a RUNNING cycle -/

theorem Bus.partAhead_running {b : Bus} {q : Part} (h : b.partAhead q = true) : b.line = .running := by
  simp only [Bus.partAhead, Bool.and_eq_true, beq_iff_eq] at h
  exact h.1

theorem keeps_beginPart (h : s.bus.line = .running) (q : Part) (sent : Option Telegram) (answer : Option (Fin 48))
    (invited : Bool) : Keeps p s (s.beginPart q sent answer invited) := by
  refine Keeps.setBus ?_ rfl rfl
  rintro ⟨hc, hs, hr, -, -, hn⟩
  exact ⟨hc, hs, hr, fun k => absurd h k, fun k => by simp [State.driveOn, h] at k, hn⟩

theorem keeps_endPart (s : State) : Keeps p s s.endPart := by
  refine Keeps.setBus ?_ rfl rfl
  rintro ⟨hc, hs, hr, -, -, hn⟩
  exact ⟨hc, hs, hr, fun _ => ⟨rfl, rfl⟩, fun _ => rfl, hn⟩

theorem keeps_serveSlot (h : s.bus.line = .running) (i : Fin 48) : Keeps p s (s.serveSlot i) := by
  unfold State.serveSlot
  split
  · next d hd =>
    refine Keeps.ite (fun _ => keeps_beginPart h _ _ _ _) fun _ => ?_
    refine Keeps.ite (fun hr => (keeps_beginPart h _ _ _ _).trans (keeps_release hd hr)) fun _ => ?_
    split
    · refine Keeps.ite (fun _ => keeps_beginPart h _ _ _ _) fun _ => ?_
      exact (keeps_beginPart h _ _ _ _).trans (keeps_setDevice_registered hd rfl)
    · exact keeps_beginPart h _ _ _ _
  · exact keeps_beginPart h _ _ _ _

theorem keeps_serveGroup (h : s.bus.line = .running) : Keeps p s s.serveGroup := by
  unfold State.serveGroup
  split
  · next z l hl =>
    have hqueue : Keeps p s (s.setBus { s.bus with announce := l }) := by
      refine Keeps.setBus ?_ rfl rfl
      rintro ⟨hc, hs, hr, hq, hd, hn⟩
      exact ⟨hc, hs, hr, hq, hd, (List.nodup_cons.1 (hl ▸ hn)).2⟩
    exact hqueue.trans (keeps_beginPart (s := s.setBus { s.bus with announce := l }) h _ _ _ _)
  · exact keeps_beginPart h _ _ _ _

/-- The record whose turn it is stands in the order (R168). -/
theorem turn_mem {i : Fin 48} (h : s.turn = some i) : i ∈ s.registry.order := by
  unfold State.turn at h
  split at h
  · rcases Option.or_eq_some_iff.1 h with h | ⟨-, h⟩
    · exact (List.dropWhile_suffix _).subset (List.mem_of_mem_tail (List.mem_of_mem_head? h))
    · exact List.mem_of_mem_head? h
  · exact List.mem_of_mem_head? h

theorem keeps_serveJoin (h : s.bus.line = .running) : Keeps p s s.serveJoin := by
  unfold State.serveJoin
  split
  · next i hi =>
    refine Keeps.trans (Keeps.records (t := s.setRegistry { s.registry with lastAssign := some i }) rfl ?_)
      (keeps_beginPart (s := s.setRegistry { s.registry with lastAssign := some i }) h _ _ _ _)
    have hin := turn_mem hi
    rintro - ⟨hs, ⟨hn, hm, -⟩, hmem, hd⟩
    exact ⟨hs, ⟨hn, hm, fun j hj => by cases hj; exact hin⟩, hmem, hd⟩
  · exact keeps_beginPart h _ _ _ _

/-! ### What a report does (R151 to R153, R184 to R186) -/

theorem missState_admitted (st : DeviceState) (n : Nat) : missState st n = .admitted ↔ st = .admitted := by
  cases st <;> simp only [missState] <;> (try split) <;> simp

theorem Device.missed_rewrites (d : Device) (bad : Bool) : d.RewrittenTo (d.missed bad) := by
  refine ⟨rfl, rfl, rfl, ?_⟩
  rintro ⟨-, hb, hq, hf, ha, hk, hr⟩
  have hstate : ∀ st, st = .faulted ∨ st = .retiring → (missState d.state (saturate d.misses) = st ↔ d.state = st) := by
    intro st hst
    cases hd : d.state <;> rcases hst with rfl | rfl <;> simp only [missState] <;> (try split) <;> simp
  refine ⟨by simp only [Device.missed, saturate]; omega, ?_, hq, hf, ha, fun k => ?_, fun k1 k2 => ?_⟩
  · simp only [Device.missed]; split
    · simp only [saturate]; omega
    · exact hb
  · exact hk ((hstate _ (.inl rfl)).1 k)
  · exact hr (fun e => k1 ((hstate _ (.inl rfl)).2 e)) fun e => k2 ((hstate _ (.inr rfl)).2 e)

theorem keeps_takeMiss {i : Fin 48} {d : Device} (hd : s.device i = some d) (bad : Bool) :
    Keeps p s (s.takeMiss i d bad) :=
  (keeps_rewrite hd (fun _ => d.missed_rewrites bad) (missState_admitted _ _)).trans (keeps_raiseIf _ _ _)

theorem reportState_ne_admitted (st : DeviceState) : reportState st ≠ .admitted := by
  cases st <;> simp [reportState]

theorem Device.reported3_rewrites (d : Device) (temp : Int) : d.RewrittenTo (d.reported3 temp) := by
  refine ⟨rfl, rfl, rfl, ?_⟩
  rintro ⟨-, hb, hq, hf, ha, hk, hr⟩
  have hstate : ∀ st, st = .faulted ∨ st = .retiring → (reportState d.state = st ↔ d.state = st) := by
    intro st hst
    cases d.state <;> rcases hst with rfl | rfl <;> simp [reportState]
  exact ⟨by simp [Device.reported3], hb, hq, hf, ha, fun k => hk ((hstate _ (.inl rfl)).1 k),
    fun k1 k2 => hr (fun e => k1 ((hstate _ (.inl rfl)).2 e)) fun e => k2 ((hstate _ (.inr rfl)).2 e)⟩

theorem keeps_takeReading {i : Fin 48} {d : Device} (hd : s.device i = some d) (temp : Int) :
    Keeps p s (s.takeReading i d temp) := by
  have hne : (d.reported3 temp).state ≠ .admitted := reportState_ne_admitted _
  have hcomm : ∀ (u : State) (b : Bool), (u.raiseIf b .deviceState).leaveOrder i = (u.leaveOrder i).raiseIf b .deviceState :=
    fun u b => by cases b <;> rfl
  refine Keeps.ite (fun _ => ?_) fun hn => ?_
  · rw [hcomm]
    exact (keeps_rewrite_leave hd (fun _ => d.reported3_rewrites temp) hne).trans (keeps_raiseIf _ _ _)
  · exact (keeps_rewrite hd (fun _ => d.reported3_rewrites temp) (iff_of_false hne hn)).trans (keeps_raiseIf _ _ _)

theorem State.takeReading_device (s : State) (i : Fin 48) (d : Device) (temp : Int) :
    (s.takeReading i d temp).device i = some (d.reported3 temp) := by
  have h : (s.setDevice i (some (d.reported3 temp))).device i = some (d.reported3 temp) := by simp
  unfold State.takeReading State.raiseIf
  dsimp only
  repeat' split
  all_goals exact h

theorem keeps_returnToken (s : State) : Keeps p s s.returnToken := Keeps.outside rfl

theorem keeps_endDone {i : Fin 48} {d : Device} (hd : s.device i = some d) (g : Grant) : Keeps p s (s.endDone i d g) := by
  have hdone : d.RewrittenTo { d with grant := none, next := none, failureRun := 0 } := by
    refine ⟨rfl, rfl, rfl, ?_⟩
    rintro ⟨h1, h2, h3, -, h5, h6, -⟩
    exact ⟨h1, h2, h3, by simp, h5, h6, by simp⟩
  have hexercised : d.RewrittenTo { d with
      grant := none, next := none, failureRun := 0, exerciseAge := 0, exercisePhase := .none } := by
    refine ⟨rfl, rfl, rfl, ?_⟩
    rintro ⟨h1, h2, h3, -, -, h6, -⟩
    exact ⟨h1, h2, h3, by simp, by simp, h6, by simp⟩
  unfold State.endDone
  split
  · exact ((keeps_rewrite hd (fun _ => hdone) Iff.rfl).trans (keeps_returnToken _)).trans (keeps_handNext _ _ _ _)
  · exact ((keeps_rewrite hd (fun _ => hexercised) Iff.rfl).trans (keeps_returnToken _)).trans (keeps_handNext _ _ _ _)

/-- A failed run: under what the step knows of grants, the record is a valve head that was neither FAULTED nor RETIRING,
so the third failure in a row is the first to reach 3 (R186). -/
theorem keeps_endFailed {i : Fin 48} {d : Device} (hd : s.device i = some d) (g : Grant)
    (hg : p → d.kind = .valveHead ∧ d.state ≠ .faulted ∧ d.state ≠ .retiring) : Keeps p s (s.endFailed i d g) := by
  unfold State.endFailed
  dsimp only
  refine Keeps.ite (fun hlt => ?_) fun _ => ?_
  · have hok : d.RewrittenTo { d with
        grant := none, next := none, failureRun := d.failureRun + 1, commanded := none, exercisePhase := .none } := by
      refine ⟨rfl, rfl, rfl, ?_⟩
      rintro ⟨h1, h2, h3, -, h5, h6, -⟩
      exact ⟨h1, h2, h3, by dsimp only; omega, h5, h6, fun _ _ => by dsimp only; omega⟩
    exact ((keeps_rewrite hd (fun _ => hok) Iff.rfl).trans (keeps_returnToken _)).trans (keeps_handNext _ _ _ _)
  · have hok : p → d.RewrittenTo { d with
        grant := none, next := none, failureRun := d.failureRun + 1, commanded := none, exercisePhase := .none
        state := .faulted } := by
      intro hp
      obtain ⟨hk, hf, hr⟩ := hg hp
      refine ⟨rfl, rfl, rfl, ?_⟩
      rintro ⟨h1, h2, h3, -, h5, -, h7⟩
      have := h7 hf hr
      exact ⟨h1, h2, h3, by dsimp only; omega, h5, fun _ => hk, by simp⟩
    refine Keeps.ite (fun _ => ?_) fun hn => ?_
    · exact ((keeps_rewrite_leave hd hok (by simp)).trans (keeps_returnToken _)).trans (keeps_raise _ .deviceState)
    · exact ((keeps_rewrite hd hok (iff_of_false (by simp) hn)).trans (keeps_returnToken _)).trans (keeps_raise _ _)

theorem keeps_takePosition {i : Fin 48} {d : Device} (hd : s.device i = some d) (position : Int) (motor : MotorState)
    (hg : p → d.grant.isSome → d.kind = .valveHead ∧ d.state ≠ .faulted ∧ d.state ≠ .retiring) :
    Keeps p s (s.takePosition i d position motor) := by
  have hstored : Keeps p s (s.setDevice i (some { d with reported := some position, motor })) :=
    keeps_setDevice_registered hd rfl
  have hdev : (s.setDevice i (some { d with reported := some position, motor })).device i =
      some { d with reported := some position, motor } := by simp
  unfold State.takePosition
  dsimp only
  split
  · next g hgrant =>
    refine Keeps.ite (fun _ => hstored.trans ?_) fun _ => hstored
    unfold State.takeOutcome
    split
    · exact keeps_setDevice_registered hdev rfl
    · exact Keeps.ite (fun _ => keeps_endDone hdev g) fun _ => Keeps.refl _
    · exact keeps_endFailed hdev g fun hp => hg hp (by simp [hgrant])
  · exact hstored

/-! ### Buttons (R58 to R61) -/

theorem roomIndex_ne_zw (z : Fin 16) : roomIndex z ≠ zw := by
  intro h
  have := congrArg Fin.val h
  have hz : z.val < 16 := z.isLt
  simp only [roomIndex, zw, Fin.val_castSucc] at this
  omega

theorem keeps_setRoomStack (s : State) (z : Fin 16) (l : List Hold) : Keeps p s (s.setStack (roomIndex z) l) :=
  keeps_setStack s _ fun _ _ => .inr fun h => absurd h (roomIndex_ne_zw z)

theorem keeps_pressAt (s : State) (z : Fin 16) (address : Nat) (b : Button) : Keeps p s (s.pressAt z address b) := by
  have hpush : ∀ d, Keeps p s (s.pushStep z address d) := fun d =>
    Keeps.ite (fun _ => Keeps.refl s) fun _ => ((keeps_push s _ _ _ _ _).trans (keeps_raise _ _)).trans (keeps_resolve _ _)
  have hstep : ∀ d, Keeps p s (s.step5 z address d) := fun d => by
    unfold State.step5
    split
    · refine Keeps.ite (fun _ => ?_) fun _ => hpush d
      exact ((keeps_setRoomStack s z _).trans (keeps_raise _ _)).trans (keeps_resolve _ _)
    · exact hpush d
  unfold State.pressAt
  split
  · exact hstep 5
  · exact hstep (-5)
  · unfold State.cancelTop
    split
    · exact ((keeps_setRoomStack s z _).trans (keeps_raise _ _)).trans (keeps_resolve _ _)
    · exact Keeps.refl s
  all_goals exact Keeps.refl s

theorem keeps_press (s : State) (zone : Option (Fin 16)) (address : Nat) (b : Button) :
    Keeps p s (s.press zone address b) := by
  refine Keeps.ite (fun _ => keeps_wake s _) fun _ => ?_
  split
  · exact keeps_pressAt s _ address b
  · exact Keeps.refl s

theorem keeps_takeButton {i : Fin 48} {d : Device} (hd : s.device i = some d) (b : Button) {sequence : Nat}
    (hq : sequence ≤ 7) : Keeps p s (s.takeButton i d b sequence) := by
  have hok : d.RewrittenTo { d with lastSeq := sequence } := by
    refine ⟨rfl, rfl, rfl, ?_⟩
    rintro ⟨h1, h2, -, h4, h5, h6, h7⟩
    exact ⟨h1, h2, hq, h4, h5, h6, h7⟩
  exact Keeps.ite (fun _ => Keeps.refl s) fun _ => (keeps_rewrite hd (fun _ => hok) Iff.rfl).trans (keeps_press _ _ _ _)

/-- A report of a room unit carries a sequence of three bits (R148). -/
theorem sequence_le {kind : DeviceKind} {address : Nat} {body : List Byte} {temp : Int} {b : Button} {q : Nat}
    (h : readReport kind address body = some (.unit temp b q)) : q ≤ 7 := by
  unfold readReport at h
  split at h
  · split at h
    · obtain ⟨m, -, hm⟩ := Option.map_eq_some_iff.1 h; cases hm
    · cases h
  · split at h <;> cases h
  · split at h
    · next hq => obtain ⟨m, -, hm⟩ := Option.map_eq_some_iff.1 h; cases hm; exact hq.2
    · cases h
  · cases h

theorem reception_good {kind : DeviceKind} {address : Nat} {received : Option (List Byte)} {r : Report}
    (h : reception kind address received = .good r) : ∃ body, readReport kind address body = some r := by
  unfold reception at h
  split at h
  · cases h
  · next bytes =>
    split at h
    · cases h
    · split at h
      · split at h
        · next r' hr =>
          split at h
          · cases h; exact ⟨_, hr⟩
          · cases h
        · cases h
      · cases h

theorem keeps_takeReport {i : Fin 48} {d : Device} (hd : s.device i = some d) (hr : d.state ≠ .retiring) {r : Report}
    (hq : ∀ temp b q, r = .unit temp b q → q ≤ 7) (hg : p → grantOk d) : Keeps p s (s.takeReport i d r) := by
  have hread := keeps_takeReading (p := p) hd r.temp
  have hdev := s.takeReading_device i d r.temp
  unfold State.takeReport
  dsimp only
  cases r with
  | valve temp position motor =>
    refine hread.trans (keeps_takePosition hdev position motor fun hp hgrant => ?_)
    obtain ⟨hk, hf, -⟩ := hg hp hgrant
    refine ⟨hk, ?_, ?_⟩ <;> (cases hs : d.state <;> simp_all [Device.reported3, reportState])
  | sensor temp => exact hread
  | unit temp b q => exact hread.trans (keeps_takeButton hdev b (hq temp b q rfl))

theorem keeps_takeSlot (s : State) (i : Fin 48) (received : Option (List Byte)) (hg : p → s.GrantsOk) :
    Keeps p s (s.takeSlot i received) := by
  unfold State.takeSlot
  split
  · next d hd =>
    refine Keeps.ite (fun _ => Keeps.refl s) fun hr => ?_
    split
    · next r hgood =>
      obtain ⟨body, hbody⟩ := reception_good hgood
      exact keeps_takeReport hd hr (fun temp b q e => sequence_le (e ▸ hbody)) fun hp => hg hp i d hd
    · exact keeps_takeMiss hd false
    · exact keeps_takeMiss hd true
  · exact Keeps.refl s

/-! ### The hour count advance (R190) -/

theorem Device.aged_rewrites (d : Device) : d.RewrittenTo d.aged ∧ d.aged.state = d.state := by
  unfold Device.aged
  split
  · refine ⟨⟨rfl, rfl, rfl, ?_⟩, rfl⟩
    rintro ⟨h1, h2, h3, h4, -, h6, h7⟩
    exact ⟨h1, h2, h3, h4, by simp, h6, h7⟩
  all_goals exact ⟨d.rewrittenTo_refl, rfl⟩

theorem keeps_ageValves (s : State) : Keeps p s s.ageValves := by
  have hdev : ∀ i, s.ageValves.device i = (s.device i).map Device.aged := fun i => mapTable_get _ _ i
  refine Keeps.records rfl fun _ => ?_
  refine registryInv_of_rewrites (rewrites_map hdev fun d => d.aged_rewrites.1) rfl rfl rfl
    (admissionInv_same rfl rfl fun i => ?_)
  simp only [State.pendingAt, hdev]
  cases s.device i with
  | none => rfl
  | some d => simp [d.aged_rewrites.2]

theorem keeps_exerciseAt (s : State) (i : Fin 48) : Keeps p s (s.exerciseAt i) := by
  unfold State.exerciseAt
  split
  · next d hd =>
    have hopen : ∀ q, Keeps p s (s.openExercise i d q) := fun q =>
      Keeps.trans (Keeps.outside (t := s.setQueue q) rfl) (keeps_setDevice_registered hd rfl)
    refine Keeps.ite (fun _ => ?_) fun _ => Keeps.refl s
    unfold State.exerciseFree
    split
    · exact Keeps.ite (fun _ => hopen _) fun _ => Keeps.refl s
    · exact Keeps.ite (fun _ => hopen _) fun _ => Keeps.refl s
  · exact Keeps.refl s

theorem keeps_advanceHour (s : State) : Keeps p s s.advanceHour := by
  unfold State.advanceHour
  exact (keeps_ageValves s).trans (Keeps.foldl keeps_exerciseAt _ _)

end Sys2Proof.Machine

/-! Resets, the minute tick, and every command and event: each keeps the invariants; so does every step. -/

namespace Sys2Proof.Machine

variable {p : Prop} {s t : State}

/-! ### The state while RESETn is held low (R207) -/

theorem reset_zone (z : Fin 16) : State.reset.zone z = Zone.reset := by simp [State.zone, State.reset]
theorem reset_device (i : Fin 48) : State.reset.device i = none := by simp [State.device, State.reset]
theorem reset_stackOf (z : Fin 17) : State.reset.stackOf z = [] := by simp [State.stackOf, State.reset]
theorem reset_pointsOf (z : Fin 17) : State.reset.pointsOf z = [] := by simp [State.pointsOf, State.reset]

theorem reset_zoneInv : State.reset.ZoneInv := fun z => by
  rw [reset_zone]; decide

theorem reset_boilerInv : State.reset.BoilerInv := by decide

theorem reset_cylinderInv : State.reset.CylinderInv :=
  ⟨rfl, ⟨rfl, by simp [reset_pointsOf], by simp [reset_stackOf]⟩, by decide⟩

theorem reset_busInv : State.reset.BusInv := by decide

theorem reset_serials : State.reset.serials = [] := by
  simp [State.serials, reset_device]

theorem reset_registryInv : State.reset.RegistryInv := by
  refine ⟨⟨?_, by decide, by decide, by decide, by decide⟩, ⟨by decide, fun i => ?_, by decide⟩, fun z => ?_, fun i d hd => ?_⟩
  · rw [reset_serials]; exact List.nodup_nil
  · have hpending : ¬ State.reset.pendingAt i := by simp [State.pendingAt, reset_device]
    exact iff_of_false List.not_mem_nil hpending
  · simp [reset_zone, Zone.reset, State.members, reset_device]
  · rw [reset_device] at hd; cases hd

theorem reset_storesInv : State.reset.ProgramInv ∧ State.reset.HoldInv ∧ State.reset.HouseInv := by
  refine ⟨⟨fun z => ?_, by decide⟩, ⟨fun z => ?_, by decide, by decide, by decide, by decide, by decide⟩, by decide⟩
  · rw [reset_pointsOf]; exact ⟨.nil, by simp, by simp⟩
  · rw [reset_stackOf]; simp

theorem reset_granted : State.reset.granted = [] := by
  simp [State.granted, reset_device]

theorem reset_motorInv : State.reset.MotorInv := by
  refine ⟨by decide, by decide, by rw [reset_granted]; rfl, by decide, by decide, fun i d hd => ?_, by decide, by decide,
    by decide, by decide⟩
  rw [reset_device] at hd; cases hd

theorem reset_bypassInv : State.reset.BypassInv := ⟨by decide, by decide, by decide⟩

theorem reset_reportedInv : State.reset.ReportedInv := fun h => by cases h

/-- POWER_ON_RESET keeps the invariants: what it takes over of the state before is read by none of them. -/
theorem keeps_powerOn (s : State) : Keeps p s { State.reset with
    time := { TimeBase.reset with now := s.time.now }
    boiler := { Boiler.reset with lockoutPin := s.boiler.lockoutPin }
    link := { Link.reset with frame := s.link.frame.filter FrameOpen.notReady }
    pending := s.pending } :=
  ⟨fun _ => reset_zoneInv, fun _ => reset_boilerInv, fun _ => reset_cylinderInv, fun _ => reset_busInv,
    fun _ _ => reset_registryInv⟩

/-! ### The warm reset (R22, R63, R126, R139, R160, R176) -/

theorem State.warmZones_zone (s : State) (z : Fin 16) : s.warmZones.zone z = (s.zone z).warm := mapTable_get _ _ z

theorem keeps_warmZones (s : State) : Keeps p s s.warmZones := by
  have hz : ∀ z, s.warmZones.zone z = (s.zone z).warm := s.warmZones_zone
  refine ⟨fun h z => by rw [hz]; exact zoneOk_cleared _ (h z), id, id, id, fun _ => SameRegistry.registryInv ?_⟩
  exact ⟨fun _ => rfl, rfl, rfl, rfl, rfl, fun z => by rw [hz]; rfl, fun z => by rw [hz]; rfl, fun z => by rw [hz]; rfl⟩

/-- The channel stops its timers, and a charge and a gap with them (R139). -/
theorem Cylinder.warm_eq (c : Cylinder) : c.warm = { c with
    state := if c.state = .charging ∨ c.state = .gap then .idle else c.state
    prio := none, gap := none, recovery := none } := by
  unfold Cylinder.warm
  split <;> rename_i h <;> simp [h, Cylinder.moveTo]

theorem keeps_warmCylinder (s : State) : Keeps p s { s with cylinder := s.cylinder.warm } := by
  rw [Cylinder.warm_eq]
  refine Keeps.setCylinder ?_
  rintro ⟨ht, hts, h1, h2, h3, h4, h5, h6, h7, h8, -, -, -⟩
  refine ⟨ht, hts, h1, h2, h3, h4, h5, h6, h7, h8, ?_, ?_, by simp⟩ <;> cases s.cylinder.state <;> simp

/-- The burner is left without timers and without a pulse (R126). -/
theorem keeps_warmBoiler (s : State) : Keeps p s (s.setBoiler s.boiler.warm) := by
  refine Keeps.setBoiler ?_
  rintro ⟨hc, hl, ha, hn, -⟩
  exact ⟨hc, hl, ha, hn, by simp [Boiler.warm], by simp [Boiler.warm, Boiler.moveTo],
    by simp [Boiler.warm, Boiler.moveTo], by simp [Boiler.warm, Boiler.moveTo]⟩

theorem Device.warm_rewrites (d : Device) : d.RewrittenTo d.warm ∧ d.warm.state ≠ .admitted := by
  refine ⟨⟨?_, ?_, ?_, ?_⟩, ?_⟩
  all_goals unfold Device.warm; dsimp only
  · split <;> split <;> rfl
  · split <;> split <;> rfl
  · split <;> split <;> rfl
  · rintro ⟨h1, h2, h3, h4, h5, h6, h7⟩
    split
    · next hr => split <;> exact ⟨h1, h2, h3, by simp [h4], h5, h6, by simp [hr]⟩
    · next hr =>
      split
      · exact ⟨by simp, h2, h3, by simp, h5, by simp, by simp⟩
      all_goals
        next hk =>
        have hf : d.state ≠ .faulted := fun e => by simp [h6 e] at hk
        exact ⟨by simp, h2, h3, h4, h5, by simp, fun _ _ => h7 hf hr⟩
  · split
    · next hr => split <;> simp [hr]
    · simp

theorem registryInv_warm {b : Bus} (hj : b.joins = []) (hn : b.lastEntry = 0) (h : s.RegistryInv) :
    State.RegistryInv { s with registry := s.registry.warm, bus := b } := by
  have hdev : ∀ i, State.device { s with registry := s.registry.warm, bus := b } i = (s.device i).map Device.warm :=
    fun i => mapTable_get _ _ i
  generalize ht : State.mk .. = t at hdev ⊢
  have hrewrites : s.Rewrites t := rewrites_map hdev fun d => d.warm_rewrites.1
  obtain ⟨hs, -, hm, hd⟩ := h
  have hbus : t.bus = b := by rw [← ht]
  refine ⟨⟨?_, ?_, ?_, ?_, ?_⟩, ⟨?_, fun i => ?_, ?_⟩, ?_, hrewrites.deviceInv hd⟩
  · rw [hrewrites.serials, hbus, hj]
    exact (List.sublist_append_left _ _).nodup hs.1 |> fun k => by simpa using k
  · rw [hbus, hj]; simp
  · rw [hbus, hj]; simp
  · rw [hbus, hj]; simp
  · rw [hbus, hn]; omega
  · rw [← ht]; exact List.nodup_nil
  · have : i ∉ t.registry.order := by rw [← ht]; exact List.not_mem_nil
    refine iff_of_false this ?_
    simp only [State.pendingAt, hdev]
    cases s.device i with
    | none => simp
    | some d => simp [d.warm_rewrites.2]
  · rw [← ht]; simp [Registry.warm]
  · have hz : t.zones = s.zones := by rw [← ht]
    simpa only [State.MemberInv, hrewrites.members, State.zone, hz] using hm

theorem keeps_warm (s : State) : Keeps p s s.warm := by
  have hzones := (keeps_warmZones (p := p) s).trans (keeps_dropUnretained _)
  generalize hu : s.warmZones.dropUnretained = u at hzones
  have hheat := (keeps_warmCylinder (p := p) u).trans (keeps_warmBoiler _)
  have hline : Keeps p u { u with registry := u.registry.warm, bus := u.bus.warm } := by
    refine ⟨id, id, id, ?_, fun _ => registryInv_warm rfl rfl⟩
    rintro -
    exact ⟨by simp [Bus.warm], by simp [Bus.warm, Bus.abandoned], by simp [Bus.warm], fun _ => ⟨rfl, rfl⟩, fun _ => rfl,
      List.nodup_nil⟩
  refine hzones.trans ?_
  unfold State.warm
  rw [hu]
  exact ⟨hheat.zones, hheat.boiler, hheat.cylinder, hline.bus, hline.registry⟩

/-! ### READY (R100, R126, R207) and the minute tick (R24) -/

theorem keeps_tickUnless (taken : Bool) {f : State → State} (h : ∀ s, Keeps p s (f s)) (s : State) :
    Keeps p s (s.tickUnless taken f) :=
  Keeps.ite (fun _ => Keeps.refl s) fun _ => h s

theorem keeps_minuteTick (s : State) : Keeps p s s.minuteTick :=
  ((((keeps_tickClock s).trans (keeps_tickUnless _ keeps_tickHolds _)).trans
    (keeps_tickUnless _ keeps_tickHouse _)).trans (keeps_tickUnless _ keeps_tickStarts _)).trans
      (keeps_tickUnless _ keeps_ageJoins _)

theorem keeps_stopAtReady (s : State) : Keeps p s s.stopAtReady :=
  Keeps.ite (fun _ => keeps_boilerOutside rfl) fun _ => Keeps.refl s

theorem keeps_readyLockout (s : State) : Keeps p s s.readyLockout :=
  Keeps.ite (fun _ => Keeps.ite (fun _ => Keeps.refl s) fun _ => keeps_lockOut s)
    fun _ => Keeps.ite (fun h => keeps_endLockout s h.2) fun _ => Keeps.refl s

theorem keeps_readyFault (s : State) : Keeps p s s.readyFault :=
  Keeps.ite (fun h => keeps_burnerSensorFault s (by simp [h.2])) fun _ => Keeps.refl s

theorem keeps_setTime (s : State) (k : TimeBase) : Keeps p s { s with time := k } := Keeps.outside rfl

theorem keeps_firstReady (s : State) (tflow tout tcyl : Int) : Keeps p s (s.firstReady tflow tout tcyl) := by
  have hblocks : ∀ u : State, Keeps p u (u.stopAtReady.readyLockout.takeSample tflow tout tcyl) := fun u =>
    ((keeps_stopAtReady u).trans (keeps_readyLockout _)).trans (keeps_takeSample _ _ _ _)
  exact Keeps.trans (Keeps.outside rfl) (hblocks _)

theorem keeps_refill (s before : State) : Keeps p s (s.refill before) := by
  refine Keeps.setBus ?_ rfl rfl
  rintro ⟨hc, hs, hr, hq, hd, -⟩
  exact ⟨hc, hs, hr, hq, hd, List.Nodup.filter _ (List.nodup_finRange 16 : rooms.Nodup)⟩

theorem keeps_dueSample (s : State) (tflow tout tcyl : Int) : Keeps p s (s.dueSample tflow tout tcyl) :=
  Keeps.ite (fun _ => (keeps_setTime s _).trans (keeps_takeSample _ _ _ _)) fun _ => Keeps.refl s

theorem keeps_dueMinute (s : State) : Keeps p s s.dueMinute :=
  Keeps.ite (fun _ => (keeps_setTime s _).trans (keeps_minuteTick _)) fun _ => Keeps.refl s

theorem keeps_dueControl (s : State) : Keeps p s s.dueControl :=
  Keeps.ite (fun _ => (keeps_setTime s _).trans (keeps_setTime _ _)) fun _ => Keeps.refl s

theorem keeps_warmReady (s : State) (tflow tout tcyl : Int) : Keeps p s (s.warmReady tflow tout tcyl) := by
  have hzones : Keeps p s ((s.setReady.resolveAll).refill s) :=
    ((keeps_setTime s _).trans (keeps_resolveAll s.setReady)).trans (keeps_refill _ s)
  have hboiler := ((hzones.trans (keeps_stopAtReady _)).trans (keeps_readyLockout _)).trans (keeps_readyFault _)
  exact (((hboiler.trans (keeps_evaluate _)).trans (keeps_dueSample _ tflow tout tcyl)).trans (keeps_dueMinute _)).trans
    (keeps_dueControl _)

/-! ### The host link -/

theorem keeps_setLink (s : State) (l : Link) : Keeps p s (s.setLink l) := Keeps.outside rfl

/-- A frame begun, forgotten or closed touches the link alone. -/
theorem keeps_takeFrame (s : State) {f : State → State} (h : ∀ s, Keeps p s (f s)) : Keeps p s (s.takeFrame f) :=
  Keeps.ite (fun _ => keeps_setLink s _) fun _ => (keeps_setLink s _).trans (h _)

/-- A command keeps what its body keeps. -/
theorem keeps_command (s : State) (c : Instr) {body : State → State × Answer} (h : ∀ s, Keeps p s (body s).1) :
    Keeps p s (s.command c body) :=
  keeps_takeFrame s fun t => ((keeps_setLink t _).trans (h _)).trans (keeps_setLink _ _)

theorem keeps_seek (s : State) (kind : RecordKind) : Keeps p s (s.seek kind).1 :=
  Keeps.ite_fst (fun _ => keeps_setLink s _) fun _ => Keeps.refl s

theorem keeps_afterRead (s : State) (kind : RecordKind) (key : Word) : Keeps p s (s.afterRead kind key) := by
  unfold State.afterRead
  split
  · next i _ =>
    unfold State.clearBad
    split
    · next d hd =>
      have hok : d.RewrittenTo { d with bad := 0 } := by
        refine ⟨rfl, rfl, rfl, ?_⟩
        rintro ⟨h1, -, h3, h4, h5, h6, h7⟩
        exact ⟨h1, by simp, h3, h4, h5, h6, h7⟩
      exact keeps_rewrite hd (fun _ => hok) Iff.rfl
    · exact Keeps.refl s
  · exact Keeps.refl s

theorem keeps_readRecord (s : State) (kind : RecordKind) (key : Word) (view first zone : Byte) :
    Keeps p s (s.readRecord kind key view first zone).1 := by
  unfold State.readRecord
  split
  · exact Keeps.refl s
  · exact Keeps.refl s
  · exact Keeps.ite_fst (fun _ => keeps_afterRead s kind key) fun _ => Keeps.refl s

theorem keeps_nextRecord (s : State) (view first : Byte) : Keeps p s (s.nextRecord view first).1 := by
  unfold State.nextRecord
  split
  · exact Keeps.refl s
  split
  · unfold State.returnNext
    split
    · exact Keeps.ite_fst (fun _ => (keeps_afterRead s _ _).trans (keeps_setLink _ _)) fun _ => Keeps.refl s
    all_goals exact Keeps.refl s
  · exact Keeps.refl s

/-! ### The events of time base, boiler and channel -/

theorem keeps_sensorSample (s : State) (t : Nat) (tflow tout tcyl : Int) :
    Keeps p s ((s.advanceSample t).takeSample tflow tout tcyl) :=
  Keeps.trans (Keeps.outside rfl) (keeps_takeSample (s.advanceSample t) tflow tout tcyl)

/-- The pulse has ended. -/
theorem keeps_pulseEnds (s : State) : Keeps p s (s.setBoiler { s.boiler with pulse := none }) := by
  refine Keeps.setBoiler ?_
  rintro ⟨hc, hl, ha, hn, -, hrest⟩
  exact ⟨hc, hl, ha, hn, by simp, hrest⟩

theorem keeps_failedAttempt (s : State) : Keeps p s s.failedAttempt :=
  (keeps_attempts s fun _ => by omega).trans (keeps_raise _ _)

theorem keeps_clearMinOn (s : State) : Keeps p s (s.setBoiler { s.boiler with minOn := none }) :=
  keeps_boilerTimers rfl (by simp) (fun _ => .inl rfl) fun _ => .inl rfl

theorem keeps_clearWaitFlow (s : State) : Keeps p s (s.setBoiler { s.boiler with waitFlow := none }) :=
  keeps_boilerTimers rfl (fun _ => .inl rfl) (by simp) fun _ => .inl rfl

theorem keeps_setPump (s : State) (x : Pump) : Keeps p s (s.setBoiler { s.boiler with pump := x }) :=
  keeps_boilerOutside rfl

theorem keeps_clearOutdoorHold (s : State) : Keeps p s (s.setBoiler { s.boiler with outdoorHold := none }) :=
  keeps_boilerOutside rfl

theorem exec_boilerTimer_keeps (s : State) {c : Instr} (h : c = .outdoorHoldExpiry ∨ c = .sensorRecoveryExpiry ∨ c = .tboffExpiry ∨
    c = .tbonExpiry ∨ c = .waitFlowExpiry ∨ c = .pumpOverrunExpiry) : ∃ t, exec c s = .next t ∧ Keeps p s t := by
  rcases h with rfl | rfl | rfl | rfl | rfl | rfl <;> refine ⟨_, rfl, ?_⟩
  · split
    · exact ((keeps_reach s _).trans (keeps_clearOutdoorHold _)).trans (keeps_evaluate _)
    · exact Keeps.refl s
  · split
    · next t hb _ => exact ((keeps_reach s _).trans (keeps_burnerOff _ (by simp [State.reach, hb]))).trans (keeps_evaluate _)
    · exact Keeps.refl s
  · refine Keeps.ite (fun h => ?_) fun _ => Keeps.refl s
    have hready := keeps_burnerMove (p := p) (s.reach (s.boiler.lastStop + minutes s.boiler.config.tBoff)) .ready
      s.boiler.lastStop (by simp [State.reach, h.2])
    exact ((keeps_reach s _).trans hready).trans (keeps_evaluate _)
  · split
    · exact ((keeps_reach s _).trans (keeps_clearMinOn _)).trans (keeps_evaluate _)
    · exact Keeps.refl s
  · split
    · exact (((keeps_reach s _).trans (keeps_clearWaitFlow _)).trans (keeps_raise _ _)).trans (keeps_evaluate _)
    · exact Keeps.refl s
  · split
    · exact Keeps.ite (fun _ => (keeps_reach s _).trans (keeps_evaluate _)) fun _ =>
        ((keeps_reach s _).trans (keeps_setPump _ _)).trans (keeps_evaluate _)
    · exact Keeps.refl s

theorem exec_lockout_keeps (s : State) {c : Instr} (h : c = .lockoutAssert ∨ c = .lockoutRelease ∨ c = .lockoutResetPulseEnd) :
    ∃ t, exec c s = .next t ∧ Keeps p s t := by
  rcases h with rfl | rfl | rfl <;> refine ⟨_, rfl, ?_⟩
  · have hpin : Keeps p s (s.setBoiler { s.boiler with lockoutPin := true }) := keeps_boilerOutside rfl
    exact Keeps.ite (fun _ => (hpin.trans (keeps_lockOut _)).trans (keeps_evaluate _)) fun _ => hpin
  · have hpin : Keeps p s (s.setBoiler { s.boiler with lockoutPin := false }) := keeps_boilerOutside rfl
    exact Keeps.ite (fun h => (hpin.trans (keeps_endLockout _ h.2.2)).trans (keeps_evaluate _)) fun _ => hpin
  · split
    · next t _ =>
      have hpulse := (keeps_reach (p := p) s (t + Config.tRST)).trans (keeps_pulseEnds _)
      exact Keeps.ite (fun _ => hpulse.trans (keeps_failedAttempt _)) fun _ =>
        (hpulse.trans (keeps_endLockout _ rfl)).trans (keeps_evaluate _)
    · exact Keeps.refl s

theorem exec_cylinderTimer_keeps (s : State) {c : Instr} (h : c = .tprioExpiry ∨ c = .tgapExpiry ∨ c = .cylinderRecoveryExpiry) :
    ∃ t, exec c s = .next t ∧ Keeps p s t := by
  rcases h with rfl | rfl | rfl <;> refine ⟨_, rfl, ?_⟩
  · split
    · next t hc _ => exact ((keeps_reach s _).trans (keeps_prioExpires _ hc)).trans (keeps_evaluate _)
    · exact Keeps.refl s
  · split
    · exact ((keeps_reach s _).trans (keeps_gapExpires _)).trans (keeps_evaluate _)
    · exact Keeps.refl s
  · split
    · exact ((keeps_reach s _).trans (keeps_toIdle _)).trans (keeps_evaluate _)
    · exact Keeps.refl s

theorem exec_tick_keeps (s : State) {c : Instr} (h : c = .minuteTick ∨ c = .controlTick ∨ (∃ z, c = .zoneControlTick z) ∨
    c = .hourCountAdvance ∨ ∃ a b d, c = .sensorSample a b d) : ∃ t, exec c s = .next t ∧ Keeps p s t := by
  rcases h with rfl | rfl | ⟨z, rfl⟩ | rfl | ⟨a, b, d, rfl⟩ <;> refine ⟨_, rfl, ?_⟩
  · split
    · exact Keeps.refl s
    · exact Keeps.ite (fun _ => Keeps.trans (Keeps.outside rfl) (keeps_minuteTick (s.advanceMinute _)))
        fun _ => Keeps.outside rfl
  · split
    · exact Keeps.refl s
    · exact Keeps.ite (fun _ => Keeps.outside rfl) fun _ => Keeps.outside rfl
  · exact Keeps.ite (fun _ => (keeps_zoneTick s z).trans (keeps_setTime _ _)) fun _ => Keeps.refl s
  · exact Keeps.ite (fun _ => Keeps.trans (Keeps.outside rfl) (keeps_advanceHour
      { s with clock := { s.clock with hourDue := false } })) fun _ => Keeps.refl s
  · split
    · exact Keeps.refl s
    · exact Keeps.ite (fun _ => keeps_sensorSample s _ a b d) fun _ => Keeps.outside rfl

/-! ### The events of the field bus -/

theorem exec_slot_keeps (s : State) {c : Instr} (h : (∃ i, c = .deviceSlotBegin i) ∨ (∃ i r, c = .deviceSlotEnd i r) ∨
    (∃ i, c = .grantTimeout i) ∨ c = .groupSlot ∨ c = .joinSlot ∨ ∃ r, c = .joinReq r) :
    ∃ t, exec c s = .next t ∧ Keeps s.GrantsOk s t := by
  rcases h with ⟨i, rfl⟩ | ⟨i, r, rfl⟩ | ⟨i, rfl⟩ | rfl | rfl | ⟨r, rfl⟩ <;> refine ⟨_, rfl, ?_⟩
  · exact Keeps.ite (fun h => ((keeps_reach s _).trans
      (keeps_serveSlot (s := s.reachPart _) (Bus.partAhead_running h) i)).trans (keeps_evaluateFrom _ s)) fun _ => Keeps.refl s
  · exact Keeps.ite (fun _ => (((keeps_reach s _).trans (keeps_endPart _)).trans (keeps_takeSlot _ i r id)).trans
      (keeps_evaluateFrom _ s)) fun _ => Keeps.refl s
  · split
    · next d hd =>
      split
      · next g hg =>
        have hvalve : s.GrantsOk → d.kind = .valveHead ∧ d.state ≠ .faulted ∧ d.state ≠ .retiring := fun hok =>
          hok i d hd (by simp [hg])
        exact ((keeps_reach s _).trans (keeps_endFailed (s := s.reach _) hd g hvalve)).trans (keeps_evaluateFrom _ s)
      · exact Keeps.refl s
    · exact Keeps.refl s
  · exact Keeps.ite (fun h => (keeps_reach s _).trans (keeps_serveGroup (s := s.reachPart _) (Bus.partAhead_running h)))
      fun _ => Keeps.refl s
  · exact Keeps.ite (fun h => (keeps_reach s _).trans (keeps_serveJoin (s := s.reachPart _) (Bus.partAhead_running h)))
      fun _ => Keeps.refl s
  · refine Keeps.ite (fun _ => ?_) fun _ => Keeps.refl s
    have hend := (keeps_reach (p := s.GrantsOk) s (s.bus.cycleStart + Config.tCYC)).trans (keeps_endPart _)
    dsimp only
    split
    · exact (hend.trans (keeps_takeJoin _ _ _)).trans (keeps_evaluateFrom _ s)
    · exact hend

theorem exec_line_keeps (s : State) {c : Instr} (h : c = .overcurrent ∨ c = .lineFaultRecoveryExpiry ∨ c = .cycleBegin ∨
    ∃ k, c = .windowBoundary k) : ∃ t, exec c s = .next t ∧ Keeps p s t := by
  rcases h with rfl | rfl | rfl | ⟨k, rfl⟩ <;> refine ⟨_, rfl, ?_⟩
  · exact Keeps.ite (fun _ => (keeps_faultLine s).trans (keeps_evaluateFrom _ s)) fun _ => Keeps.refl s
  · split
    · next t hl _ =>
      exact (keeps_reach s _).trans (keeps_startLine (s := s.reach _) (by simp [State.reach, hl]))
    · exact Keeps.refl s
  · exact Keeps.ite (fun h => (keeps_reach s _).trans (keeps_newCycle (s := s.reachPart _) h)) fun _ => Keeps.refl s
  · refine Keeps.ite (fun _ => ?_) fun _ => Keeps.refl s
    have hwindow : ∀ t : State, Keeps p t (t.setBus { t.bus with window := k.val + 1 }) := fun t =>
      Keeps.setBus id rfl rfl
    exact ((keeps_reach s _).trans (hwindow _)).trans (keeps_takeBoundary _)

/-! ### Every command and event, and every step -/

/-- Every command and event answers a next state, which meets the invariants that the state before meets. -/
theorem exec_keeps (c : Instr) (s : State) : ∃ t, exec c s = .next t ∧ Keeps s.GrantsOk s t := by
  cases c with
  | powerOnReset => exact ⟨_, rfl, keeps_powerOn s⟩
  | readySet a b d => exact ⟨_, rfl, Keeps.ite (fun _ => Keeps.refl s) fun _ =>
      Keeps.ite (fun _ => keeps_warmReady s a b d) fun _ => keeps_firstReady s a b d⟩
  | frameCrcError bytes => exact ⟨_, rfl, keeps_takeFrame s fun t => (keeps_setLink t _).trans (keeps_raiseIf _ _ _)⟩
  | shortFrame bytes => exact ⟨_, rfl, Keeps.ite (fun _ => keeps_setLink s _) fun _ => keeps_takeFrame s fun t => keeps_setLink t _⟩
  | frameWhileNotReady => exact ⟨_, rfl, Keeps.ite (fun _ => keeps_setLink s _) fun _ => Keeps.refl s⟩
  | nop => exact ⟨_, rfl, keeps_takeFrame s fun t => keeps_setLink t _⟩
  | read kind key view first zone => exact ⟨_, rfl, keeps_command s _ fun t => keeps_readRecord t kind key view first zone⟩
  | writeZone key items => exact ⟨_, rfl, keeps_command s _ fun t => keeps_writeZone t key items⟩
  | enable z => exact ⟨_, rfl, keeps_command s _ fun t => keeps_writeRoom t z _⟩
  | disable z => exact ⟨_, rfl, keeps_command s _ fun t => keeps_writeRoom t z _⟩
  | zwEnable => exact ⟨_, rfl, keeps_command s _ fun t => keeps_writeCylinder t _⟩
  | zwDisable => exact ⟨_, rfl, keeps_command s _ fun t => keeps_writeCylinder t _⟩
  | createPoint key items => exact ⟨_, rfl, keeps_command s _ fun t => keeps_createPoint t key items⟩
  | writePoint key items => exact ⟨_, rfl, keeps_command s _ fun t => keeps_writePoint t key items⟩
  | retirePoint key zone => exact ⟨_, rfl, keeps_command s _ fun t => keeps_retirePoint t key zone⟩
  | createHold items => exact ⟨_, rfl, keeps_command s _ fun t => keeps_createHold t items⟩
  | writeHold key items => exact ⟨_, rfl, keeps_command s _ fun t => keeps_writeHold t key items⟩
  | retireHold key => exact ⟨_, rfl, keeps_command s _ fun t => keeps_retireHold t key⟩
  | writeHouse key items => exact ⟨_, rfl, keeps_command s _ fun t => keeps_writeHouse t key items⟩
  | writeBoiler key items => exact ⟨_, rfl, keeps_command s _ fun t => keeps_writeBoiler t key items⟩
  | writeDevice key items => exact ⟨_, rfl, keeps_command s _ fun t => keeps_writeDevice t key items⟩
  | retireDevice key => exact ⟨_, rfl, keeps_command s _ fun t => keeps_retireDevice t key⟩
  | retireJoin key => exact ⟨_, rfl, keeps_command s _ fun t => keeps_retireJoin t key⟩
  | writeMotor key items => exact ⟨_, rfl, keeps_command s _ fun t => keeps_writeMotor t key items⟩
  | seek kind => exact ⟨_, rfl, keeps_command s _ fun t => keeps_seek t kind⟩
  | next view first => exact ⟨_, rfl, keeps_command s _ fun t => keeps_nextRecord t view first⟩
  | admitDevice serial zone => exact ⟨_, rfl, keeps_command s _ fun t => keeps_admitDevice t serial zone⟩
  | setClock time => exact ⟨_, rfl, keeps_command s _ fun t => keeps_setClock t time⟩
  | setMode mode countdown => exact ⟨_, rfl, keeps_command s _ fun t => keeps_setMode t mode countdown⟩
  | run => exact ⟨_, rfl, keeps_command s _ fun t => keeps_runLine t⟩
  | stop => exact ⟨_, rfl, keeps_command s _ fun t => keeps_stop t⟩
  | boilerReset => exact ⟨_, rfl, keeps_command s _ fun t => keeps_boilerReset t⟩
  | readNotices => exact ⟨_, rfl, keeps_command s _ fun t => keeps_setLink t _⟩
  | writeNoticeEnables mask => exact ⟨_, rfl, keeps_command s _ fun t => keeps_setLink t _⟩
  | warmReset => exact ⟨_, rfl, keeps_command s _ fun t => keeps_warm t⟩
  | minuteTick => exact exec_tick_keeps s (by simp)
  | holdCountdownExpiry handle => exact ⟨_, rfl, Keeps.ite (fun _ => keeps_expireHold s handle) fun _ => Keeps.refl s⟩
  | returnCountdownExpiry => exact ⟨_, rfl, Keeps.ite (fun _ => keeps_expireReturn s) fun _ => Keeps.refl s⟩
  | hourCountAdvance => exact exec_tick_keeps s (by simp)
  | startListEntryExpiry => exact ⟨_, rfl, Keeps.ite (fun _ => keeps_expireStart s) fun _ => Keeps.refl s⟩
  | joinEntryExpiry number => exact ⟨_, rfl, Keeps.ite (fun _ => keeps_expireJoin s number) fun _ => Keeps.refl s⟩
  | controlTick => exact exec_tick_keeps s (by simp)
  | zoneControlTick z => exact exec_tick_keeps s (by simp)
  | sensorSample a b d => exact exec_tick_keeps s (by simp)
  | outdoorHoldExpiry => exact exec_boilerTimer_keeps s (by simp)
  | sensorRecoveryExpiry => exact exec_boilerTimer_keeps s (by simp)
  | tboffExpiry => exact exec_boilerTimer_keeps s (by simp)
  | tbonExpiry => exact exec_boilerTimer_keeps s (by simp)
  | waitFlowExpiry => exact exec_boilerTimer_keeps s (by simp)
  | lockoutAssert => exact exec_lockout_keeps s (by simp)
  | lockoutRelease => exact exec_lockout_keeps s (by simp)
  | lockoutResetPulseEnd => exact exec_lockout_keeps s (by simp)
  | pumpOverrunExpiry => exact exec_boilerTimer_keeps s (by simp)
  | tprioExpiry => exact exec_cylinderTimer_keeps s (by simp)
  | tgapExpiry => exact exec_cylinderTimer_keeps s (by simp)
  | cylinderRecoveryExpiry => exact exec_cylinderTimer_keeps s (by simp)
  | wakeInputEdge => exact ⟨_, rfl, Keeps.ite (fun _ => (keeps_wake s _).trans (keeps_evaluateFrom _ s)) fun _ => Keeps.refl s⟩
  | cycleBegin => exact exec_line_keeps s (by simp)
  | windowBoundary k => exact exec_line_keeps s (by simp)
  | deviceSlotBegin i => exact exec_slot_keeps s (by simp)
  | deviceSlotEnd i r => exact exec_slot_keeps s (by simp)
  | grantTimeout i => exact exec_slot_keeps s (by simp)
  | groupSlot => exact exec_slot_keeps s (by simp)
  | joinSlot => exact exec_slot_keeps s (by simp)
  | joinReq r => exact exec_slot_keeps s (by simp)
  | overcurrent => exact exec_line_keeps s (by simp)
  | lineFaultRecoveryExpiry => exact exec_line_keeps s (by simp)
  | frameBegin => exact ⟨_, rfl, keeps_setLink s _⟩
  | resetnRelease => exact ⟨_, rfl, Keeps.ite (fun _ => Keeps.refl s) fun _ => Keeps.outside rfl⟩
  | badCommand command kind => exact ⟨_, rfl, keeps_command s _ fun t => Keeps.refl t⟩

theorem step_keeps {s t : State} (h : step s = .next t) : Keeps s.GrantsOk s t := by
  unfold step at h
  split at h
  · cases h; exact keeps_reach s _
  · next c rest _ =>
    obtain ⟨u, hu, hkeeps⟩ := exec_keeps c { s with pending := rest }
    cases hu.symm.trans h
    exact Keeps.trans (Keeps.outside rfl) hkeeps

/-- Settles O53: the part holds no record, no hold and no point while RESETn is held low, and its configurations are the
defaults. -/
theorem resetInvariants : Obligations.ResetInvariants := by
  obtain ⟨hprogram, hhold, hhouse⟩ := reset_storesInv
  obtain ⟨hserial, hadmission, hmember, hdevice⟩ := reset_registryInv
  exact ⟨hprogram, hhold, hhouse, reset_zoneInv, reset_boilerInv, reset_cylinderInv, reset_busInv, hadmission, hserial,
    hmember, hdevice, reset_motorInv, reset_bypassInv, reset_reportedInv⟩

/-- Settles O56, from what each operation keeps of the zone records. -/
theorem stepKeepsZones : Obligations.StepKeepsZones := fun _ _ hzones h => (step_keeps h).zones hzones

/-- Settles O57, from what each operation keeps of the boiler, the channel and the line. -/
theorem stepKeepsHeatAndLine : Obligations.StepKeepsHeatAndLine := fun _ _ hboiler hcylinder hbus h =>
  have hkeeps := step_keeps h
  ⟨hkeeps.boiler hboiler, hkeeps.cylinder hcylinder, hkeeps.bus hbus⟩

/-- Settles O58: what the step has to know of the motor arbiter is that a grant is a healthy valve head's. -/
theorem stepKeepsRegistry : Obligations.StepKeepsRegistry := by
  rintro s t hserial hadmission hmember hdevice ⟨-, -, -, -, -, hgrants, -⟩ h
  exact (step_keeps h).registry hgrants ⟨hserial, hadmission, hmember, hdevice⟩

end Sys2Proof.Machine

/-! Control ticks (R78 to R94): what a zone's computation stores, in the words of the statement. -/

namespace Sys2Proof.Machine

/-! ### Temperature and demand -/

/-- A device gives a reading to one of the two sets while it is bound, ACTIVE and holds a temperature (R81). -/
theorem Device.reading_eq (d : Device) (z : Fin 16) (room : Bool) : d.reading z room =
    if (d.zone = some z ∧ d.state = .active ∧ d.lastTemp.isSome) ∧ (d.kind != .valveHead) = room then d.lastTemp else none := by
  unfold Device.reading
  cases hl : d.lastTemp with
  | none => simp
  | some v => simp [and_assoc]

theorem State.readings_room (s : State) (z : Fin 16) : s.readings z true = slots.filterMap (fun i => (s.device i).bind (fun d =>
    if (d.zone = some z ∧ d.state = .active ∧ d.lastTemp.isSome) ∧ d.kind ≠ .valveHead then d.lastTemp else none)) := by
  simp only [State.readings, Device.reading_eq, bne_iff_ne]

theorem State.readings_heads (s : State) (z : Fin 16) : s.readings z false = slots.filterMap (fun i => (s.device i).bind (fun d =>
    if (d.zone = some z ∧ d.state = .active ∧ d.lastTemp.isSome) ∧ d.kind = .valveHead then d.lastTemp else none)) := by
  simp only [State.readings, Device.reading_eq, bne_eq_false_iff_eq]

/-- The demand stage of a computation (R83 to R86), temperature and source stored apart. -/
def Zone.demanded (r : Zone) (v : Option Int) : Zone :=
  match v with
  | some v => r.computed v
  | none => { r with demand := if r.config.frostFloor < r.setpoint then r.config.blindDemand else 0 }

theorem Zone.demanded_keeps (r : Zone) (v : Option Int) : r.demanded v = { r with
    integral := (r.demanded v).integral, demand := (r.demanded v).demand, previous := (r.demanded v).previous } := by
  cases v <;> rfl

/-- A computation stores temperature and source, the demand stage, the request state and the own target (R79). -/
theorem Zone.ticked_eq (r : Zone) (t : Option Int × TempSource) : r.ticked t = { r.demanded t.1 with
    temp := t.1, tempSource := t.2
    state := requestState r.config (r.demanded t.1).demand r.state
    ownTarget := valveTarget r.config.minLift (r.demanded t.1).demand } := by
  obtain ⟨v, source⟩ := t
  cases v <;> rfl

/-- The record a computation leaves: as `ticked`, with a pending configuration applied where the zone leaves CALLING
(R17). -/
theorem Zone.afterTick_eq (r : Zone) (t : Option Int × TempSource) : r.afterTick t = { r.ticked t with
    config := { r.config with
      control := if r.tickApplies (r.ticked t) then r.pending.getD r.config.control else r.config.control }
    pending := if r.tickApplies (r.ticked t) then none else r.pending } := by
  have hkept : (r.ticked t).pending = r.pending ∧ (r.ticked t).config = r.config := by
    rw [r.ticked_eq t, r.demanded_keeps t.1]; exact ⟨rfl, rfl⟩
  unfold Zone.afterTick
  generalize r.ticked t = q at hkept ⊢
  obtain ⟨hp, hc⟩ := hkept
  rw [← hp, ← hc]
  split
  · next ha =>
    obtain ⟨-, k, hk⟩ : _ ∧ ∃ k, q.pending = some k := by
      simpa [Zone.tickApplies, Option.isSome_iff_exists] using ha
    simp [Zone.applied, hk]
  · rfl

/-! ### The events -/

theorem exec_zoneControlTick (s : State) (z : Fin 16) (hr : s.time.ready = true) (hz : z ∈ s.time.ticking) :
    exec (.zoneControlTick z) s = .next ((s.zoneTick z).tickTaken z) :=
  congrArg Host.Outcome.next (if_pos ⟨hr, hz⟩)

theorem State.SettlesTo.tickTaken {s t : State} (h : s.SettlesTo t) (z : Fin 16) :
    (s.tickTaken z).SettlesTo (t.tickTaken z) := by
  unfold State.tickTaken
  rw [h.time]
  exact h.setTime _

theorem State.settlesTo_zoneTick_enabled (s : State) (z : Fin 16) (h : (s.zone z).state ≠ .disabled) :
    (((s.setZone z ((s.zone z).afterTick (s.zoneTemp z))).raiseIf
        ((s.zone z).tickApplies ((s.zone z).ticked (s.zoneTemp z))) .configApplied).announceIf
      (((s.zone z).ticked (s.zoneTemp z)).state != (s.zone z).state) z).SettlesTo (s.zoneTick z) := by
  have he : (s.zone z).enabled = true := by simpa [Zone.enabled] using h
  rw [State.zoneTick, if_pos he]
  exact (s.settlesTo_tickEnabled z).trans (State.settlesTo_evaluate _)

theorem State.settlesTo_zoneTick_disabled (s : State) (z : Fin 16) (h : (s.zone z).state = .disabled) :
    (s.setZone z { s.zone z with ownTarget := 0 }).SettlesTo (s.zoneTick z) := by
  rw [State.zoneTick, if_neg (by simp [Zone.enabled, h])]
  exact (State.settlesTo_targetValves _ z).trans (State.settlesTo_evaluateFrom _ s)

/-- The mark that the computation is taken goes through what the computation writes. -/
theorem State.tickTaken_announceIf (s : State) (b c : Bool) (y z : Fin 16) (r : Zone) (n : Notice) :
    (((s.setZone z r).raiseIf b n).announceIf c z).tickTaken y =
      (((s.tickTaken y).setZone z r).raiseIf b n).announceIf c z := by
  have hann : ∀ t : State, (t.announce z).tickTaken y = (t.tickTaken y).announce z := by
    intro t; unfold State.announce; split <;> (split <;> first | rfl | contradiction)
  cases c with
  | true => cases b <;> exact hann _
  | false => cases b <;> rfl

theorem State.announceIf_ne (s : State) (z : Fin 16) (a b : ZoneState) :
    s.announceIf (a != b) z = if a = b then s else s.announce z := by
  unfold State.announceIf
  by_cases h : a = b <;> simp [h]

/-- Settles O38, from `settlesTo_tickEnabled` and the two descriptions of what a computation stores. -/
theorem controlTicks : Obligations.ControlTicks := by
  refine ⟨⟨fun s due hdue => ⟨fun hr => ?_, fun hr => ?_⟩, fun z s hno => ?_⟩, ?_⟩
  · simp only [exec, execControlTick, hdue]; rw [if_pos hr]; rfl
  · simp only [exec, execControlTick, hdue]; rw [if_neg (by simp [hr])]; rfl
  · have : ¬(s.time.ready = true ∧ z ∈ s.time.ticking) := by rintro ⟨h, k⟩; simp [h, k] at hno
    exact congrArg Host.Outcome.next (if_neg this)
  · intro z s hr hz r time bound room heads mean temp q state p applies
    have htemp : s.zoneTemp z = temp := by
      simp only [State.zoneTemp, s.readings_room z, s.readings_heads z]; rfl
    have hq : r.demanded temp.1 = q := rfl
    have hticked : r.ticked temp = { q with temp := temp.1, tempSource := temp.2, state := state, ownTarget := p } := by
      rw [r.ticked_eq temp]
      cases hs : r.state <;> simp [state, hs, requestState, hq] <;> rfl
    have happlies : r.tickApplies (r.ticked temp) = applies := by
      have : q.pending = r.pending := by rw [← hq, r.demanded_keeps]
      rw [hticked, Zone.tickApplies, this]
    refine ⟨fun he => ⟨_, exec_zoneControlTick s z hr hz, ?_⟩, fun hd => ⟨_, exec_zoneControlTick s z hr hz, ?_⟩⟩
    · have hsettles := (s.settlesTo_zoneTick_enabled z he).tickTaken z
      rw [State.tickTaken_announceIf, htemp, Zone.afterTick_eq] at hsettles
      change ((((s.tickTaken z).setZone z { r.ticked temp with
        config := { r.config with control := if r.tickApplies (r.ticked temp) then r.pending.getD r.config.control
          else r.config.control }
        pending := if r.tickApplies (r.ticked temp) then none else r.pending }).raiseIf
          (r.tickApplies (r.ticked temp)) .configApplied).announceIf ((r.ticked temp).state != r.state) z).SettlesTo _ at hsettles
      rw [happlies, hticked, State.announceIf_ne] at hsettles
      exact hsettles
    · exact (s.settlesTo_zoneTick_disabled z hd).tickTaken z

end Sys2Proof.Machine

/-! WRITE of a room zone, ENABLE and DISABLE (R8, R9, R11 to R16): the stores and resolutions of a write brought into one
form, and the answers. -/

namespace Sys2Proof.Machine

/-! ### Resolution of a record as it is stored -/

/-- What a resolution makes of a record stored for the zone (R38). -/
def State.resolvedIn (s : State) (z : Fin 16) (r : Zone) : Zone :=
  { r with setpoint := (s.setZone z r).roomSetpoint z, source := ((s.setZone z r).roomCandidate z).2 }

/-- Of the zone's record a resolution reads four fields of the configuration. -/
theorem State.resolution_congr (s : State) (z : Fin 16) {q r : Zone} (hf : r.config.frostFloor = q.config.frostFloor)
    (hc : r.config.comfortCeiling = q.config.comfortCeiling) (hd : r.config.defaultSetpoint = q.config.defaultSetpoint)
    (hv : r.config.vacantKeep = q.config.vacantKeep) :
    (s.setZone z r).roomCandidate z = (s.setZone z q).roomCandidate z ∧
      (s.setZone z r).roomSetpoint z = (s.setZone z q).roomSetpoint z := by
  have hcandidate : (s.setZone z r).roomCandidate z = (s.setZone z q).roomCandidate z := by
    simp [State.roomCandidate, State.roomScheduled, State.pointInForce, State.pointsOf, State.stackOf, hf, hd, hv]
  refine ⟨hcandidate, ?_⟩
  simp [State.roomSetpoint, hcandidate, hf, hc]

/-- The setpoint and source that stand are overwritten. -/
theorem State.resolvedIn_setpoint (s : State) (z : Fin 16) (r : Zone) (v : Int) (source : Source) :
    s.resolvedIn z { r with setpoint := v, source := source } = s.resolvedIn z r := by
  obtain ⟨hcandidate, hsetpoint⟩ := s.resolution_congr z (q := r) (r := { r with setpoint := v, source := source })
    rfl rfl rfl rfl
  simp only [State.resolvedIn, hcandidate, hsetpoint]

theorem State.setZone_resolveRoom (s : State) (z : Fin 16) (r : Zone) : (s.setZone z r).resolveRoom z =
    (s.setZone z (s.resolvedIn z r)).announceIf (decide ((s.resolvedIn z r).setpoint ≠ r.setpoint)) z := by
  simp only [State.resolveRoom, State.setZone_zone, ↓reduceIte, State.setZone_setZone, State.announceIf, State.resolvedIn]
  by_cases h : (s.setZone z r).roomSetpoint z = r.setpoint <;> simp [h]

/-! ### The announcement queue beside a record -/

theorem State.setZone_announce (s : State) (z : Fin 16) (r : Zone) :
    (s.announce z).setZone z r = (s.setZone z r).announce z := s.setZone_announceIf true z z r

theorem State.announce_of_mem {s : State} {z : Fin 16} (h : z ∈ s.bus.announce) : s.announce z = s := if_pos h

theorem State.announce_announceIf (s : State) (z : Fin 16) (b : Bool) : (s.announce z).announceIf b z = s.announce z := by
  cases b with
  | true => exact State.announce_of_mem ((s.mem_announce z z).2 (.inl rfl))
  | false => rfl

theorem State.announceIf_announce (s : State) (z : Fin 16) (b : Bool) : (s.announceIf b z).announce z = s.announce z := by
  cases b with
  | true => exact s.announce_announceIf z true
  | false => rfl

/-- A queued zone is resolved: the record takes setpoint and source, and the zone stays queued. -/
theorem State.announce_resolveRoom (s : State) (z : Fin 16) (r : Zone) :
    ((s.setZone z r).announce z).resolveRoom z = (s.setZone z (s.resolvedIn z r)).announce z := by
  rw [← State.setZone_announce, State.setZone_resolveRoom, State.setZone_announce, State.announce_announceIf]
  congr 2
  unfold State.resolvedIn
  have e : ((s.announce z).setZone z r) = ((s.setZone z r).announce z) := s.setZone_announce z r
  have h := (s.setZone z r).resolvesTo_announce z
  have hzone : (((s.setZone z r).announce z).zone z).config = ((s.setZone z r).zone z).config := by
    simp [State.zone]
  rw [e, State.roomSetpoint_congr hzone h.house h.holds h.points h.clock,
    State.roomCandidate_congr hzone h.house h.holds h.points h.clock]

/-! ### The fields of a write -/

/-- What a write stores reads neither setpoint nor source. -/
theorem Zone.store_resolved (r : Zone) (items : List Item) (v : Int) (source : Source) :
    Zone.store { r with setpoint := v, source := source } items = { r.store items with setpoint := v, source := source } := by
  unfold Zone.store
  have h : goesPending { r with setpoint := v, source := source } items = goesPending r items := rfl
  dsimp only
  rw [h]
  split <;> rfl

theorem Zone.store_state (r : Zone) (items : List Item) : (r.store items).state = r.state := by
  unfold Zone.store; dsimp only; split <;> rfl

/-- A write without a setpoint input leaves what a resolution reads. -/
theorem State.resolvedIn_store (s : State) (z : Fin 16) (r : Zone) {items : List Item}
    (hno : carriesSetpointInput items = false) : s.resolvedIn z (r.store items) =
      { r.store items with setpoint := (s.resolvedIn z r).setpoint, source := (s.resolvedIn z r).source } := by
  simp only [carriesSetpointInput, Bool.or_eq_false_iff] at hno
  obtain ⟨⟨⟨h8, h9⟩, h10⟩, h15⟩ := hno
  have hkeep : takeFlag items 15 r.config.vacantKeep = r.config.vacantKeep := by
    have : itemNat items 15 = none := by simpa [carries, itemNat] using h15
    simp [takeFlag, this]
  obtain ⟨hcandidate, hsetpoint⟩ := s.resolution_congr z (q := r) (r := r.store items)
    (by rw [r.store_config]; exact takeItem_of_not_carried _ _ _ h8)
    (by rw [r.store_config]; exact takeItem_of_not_carried _ _ _ h9)
    (by rw [r.store_config]; exact takeItem_of_not_carried _ _ _ h10)
    (by rw [r.store_config]; exact hkeep)
  simp only [State.resolvedIn, hcandidate, hsetpoint]

/-! ### The whole write -/

/-- The write disables the zone (R9), or enables it (R8). -/
def Zone.turnedOff (r : Zone) (items : List Item) : Bool := itemNat items 16 == some 0 && r.state != .disabled

def Zone.turnedOn (r : Zone) (items : List Item) : Bool := itemNat items 16 == some 1 && r.state == .disabled

/-- The record after a write, its setpoint still to be resolved: DISABLE first, the fields, ENABLE last (R15). -/
def Zone.disabledFirst (r : Zone) (items : List Item) : Zone := if r.turnedOff items then r.cleared .disabled else r

def Zone.written (r : Zone) (items : List Item) : Zone :=
  let stored := (r.disabledFirst items).store items
  if r.turnedOn items then stored.cleared .satisfied else stored

theorem State.resolveIf_room (s : State) (b : Bool) (z : Fin 16) :
    s.resolveIf b (roomIndex z) = if b then s.resolveRoom z else s := by
  unfold State.resolveIf; rw [State.resolve_roomIndex]

/-- The fields of a write and their resolution write one record, and may queue the zone. -/
theorem State.storeFields_eq (s : State) (z : Fin 16) (r : Zone) (inputs : Bool) :
    ∃ (v : Int) (source : Source) (b : Bool), (s.setZone z r).resolveIf inputs (roomIndex z) =
      (s.setZone z { r with setpoint := v, source := source }).announceIf b z := by
  rw [State.resolveIf_room]
  cases inputs with
  | true => exact ⟨_, _, _, s.setZone_resolveRoom z r⟩
  | false => exact ⟨r.setpoint, r.source, false, rfl⟩

/-- A zone turned off: queued and resolved as its fields stand after the write. -/
theorem State.storeFields_off (s : State) (z : Fin 16) (r : Zone) (items : List Item) :
    State.resolveIf (carriesSetpointInput items) (roomIndex z)
      (((s.setZone z (s.resolvedIn z r)).announce z).setZone z ((s.resolvedIn z r).store items)) =
    (s.setZone z (s.resolvedIn z (r.store items))).announce z := by
  rw [State.setZone_announce, State.setZone_setZone]
  have hstore : (s.resolvedIn z r).store items = { r.store items with
      setpoint := (s.resolvedIn z r).setpoint, source := (s.resolvedIn z r).source } := r.store_resolved items _ _
  rw [hstore, State.resolveIf_room]
  cases hinputs : carriesSetpointInput items with
  | true => rw [if_pos rfl, State.announce_resolveRoom, State.resolvedIn_setpoint]
  | false => rw [if_neg (by simp), s.resolvedIn_store z r hinputs]

/-- A zone turned on: queued and resolved whatever the fields before made of it. -/
theorem State.storeFields_on (s : State) (z : Fin 16) (r : Zone) (inputs : Bool) (hd : r.state = .disabled) :
    ((s.setZone z r).resolveIf inputs (roomIndex z)).enableRoom z =
      (s.setZone z (s.resolvedIn z (r.cleared .satisfied))).announce z := by
  obtain ⟨v, source, b, h⟩ := s.storeFields_eq z r inputs
  have hzone : ((s.setZone z { r with setpoint := v, source := source }).announceIf b z).zone z =
      { r with setpoint := v, source := source } := by
    cases b <;> simp [State.announceIf, State.zone]
  rw [h, State.enableRoom, hzone, if_neg (by simp [Zone.enabled, hd]), State.setZone_announceIf, State.setZone_setZone,
    State.announceIf_announce, State.announce_resolveRoom]
  exact congrArg (fun q => (s.setZone z q).announce z) (s.resolvedIn_setpoint z (r.cleared .satisfied) v source)

/-- The stores of a write are one store, one entry in the queue and one resolution. -/
theorem State.storeRoom_eq (s : State) (z : Fin 16) (items : List Item) : s.storeRoom z items =
    State.resolveIf ((s.zone z).turnedOff items || (s.zone z).turnedOn items || carriesSetpointInput items) (roomIndex z)
      (State.announceIf ((s.zone z).turnedOff items || (s.zone z).turnedOn items) z
        (s.setZone z ((s.zone z).written items))) := by
  by_cases hoff : (s.zone z).turnedOff items = true
  · obtain ⟨h0, hen⟩ : itemNat items 16 = some 0 ∧ (s.zone z).state ≠ .disabled := by simpa [Zone.turnedOff] using hoff
    have hon : (s.zone z).turnedOn items = false := by simp [Zone.turnedOn, h0]
    have hdisable : s.disableRoom z = (s.setZone z (s.resolvedIn z ((s.zone z).cleared .disabled))).announce z := by
      rw [State.disableRoom, if_pos (by simpa [Zone.enabled] using hen), State.announce_resolveRoom]
    have hzone : ((s.setZone z (s.resolvedIn z ((s.zone z).cleared .disabled))).announce z).zone z =
      s.resolvedIn z ((s.zone z).cleared .disabled) := by simp [State.zone]
    simp only [State.storeRoom, h0, hdisable, hzone, Zone.written, Zone.disabledFirst, hoff, hon, ↓reduceIte]
    rw [State.storeFields_off, State.resolveIf_room]
    exact (s.announce_resolveRoom z _).symm
  · have hkeep : (if itemNat items 16 = some 0 then s.disableRoom z else s) = s := by
      split
      · next h0 =>
        refine if_neg ?_
        simpa [Zone.turnedOff, h0, Zone.enabled] using hoff
      · rfl
    have hoff' : (s.zone z).turnedOff items = false := by simpa using hoff
    unfold State.storeRoom
    simp only [hkeep, Zone.written, Zone.disabledFirst, hoff', Bool.false_or]
    by_cases hon : (s.zone z).turnedOn items = true
    · obtain ⟨h1, hdis⟩ : itemNat items 16 = some 1 ∧ (s.zone z).state = .disabled := by simpa [Zone.turnedOn] using hon
      rw [if_pos h1, if_pos hon, hon, s.storeFields_on z _ _ (by rw [Zone.store_state]; simpa using hdis),
        State.resolveIf_room]
      exact (s.announce_resolveRoom z _).symm
    · have hon' : (s.zone z).turnedOn items = false := by simpa using hon
      simp only [hon', Bool.false_eq_true, ↓reduceIte, Bool.false_or]
      split
      · next h1 =>
        obtain ⟨v, source, b, h⟩ := s.storeFields_eq z ((s.zone z).store items) (carriesSetpointInput items)
        have hen : (s.zone z).state ≠ .disabled := by simpa [Zone.turnedOn, h1] using hon'
        have hzone : (((s.setZone z { (s.zone z).store items with setpoint := v, source := source }).announceIf b z).zone z).state =
            (s.zone z).state := by
          rw [← (s.zone z).store_state items]
          cases b <;> simp [State.announceIf, State.zone]
        rw [h, State.enableRoom, if_pos (by simpa [Zone.enabled, hzone] using hen), ← h]
        rfl
      · rfl

end Sys2Proof.Machine

/-! The channel after the evaluations, and WRITE of ZW (R7, R127 to R133). -/

namespace Sys2Proof.Machine

/-! ### The channel after the evaluations -/

@[simp] theorem State.evalReported_cylinder (s : State) : s.evalReported.cylinder = s.cylinder := by
  rw [s.evalReported_eq]; rfl

@[simp] theorem State.evalBurner_cylinder (s : State) : s.evalBurner.cylinder = s.cylinder := by
  unfold State.evalBurner State.evalStart State.waitFor State.startBurner State.burnerOff
  repeat' split
  all_goals rfl

@[simp] theorem State.evalPump_cylinder (s : State) : s.evalPump.cylinder = s.cylinder := by
  unfold State.evalPump
  repeat' split
  all_goals rfl

theorem State.setAndHands_cylinder (s : State) (c : Class) (t : Int) (l : List (Fin 48)) :
    (l.foldl (State.setAndHand c t) s).cylinder = s.cylinder :=
  foldl_leaves State.cylinder (fun s i => s.setAndHand_cylinder c t i) l s

@[simp] theorem State.evalForcing_cylinder (s : State) : s.evalForcing.cylinder = s.cylinder := by
  unfold State.evalForcing State.beginForcing State.endForcing
  repeat' split
  all_goals first
    | rfl
    | exact State.setAndHands_cylinder _ _ _ _

/-- Of the evaluations the channel's own is the one that writes the channel. -/
theorem State.evaluate_cylinder (s : State) :
    s.evaluate.cylinder = if s.time.ready then s.evalCylinder.cylinder else s.cylinder := by
  unfold State.evaluate
  split <;> simp

/-! ### What the channel's evaluation reads (R129, R130, R132) -/

/-- TC is OK and stands at least `k` below the target. -/
def State.coolBy (s : State) (k : Int) : Prop :=
  s.boiler.tc.status = some .ok ∧ ∃ v τ : Int, s.boiler.tc.value = some v ∧ s.cylinder.target = .deg τ ∧ v ≤ τ - k

/-- The target is OFF or reached. -/
def State.warmEnough (s : State) : Prop :=
  s.cylinder.target = .off ∨ ∃ v τ : Int, s.boiler.tc.value = some v ∧ s.cylinder.target = .deg τ ∧ τ ≤ v

theorem State.chargeWanted_iff (s : State) : s.chargeWanted = true ↔ s.coolBy s.cylinder.dhwHyst := by
  unfold State.chargeWanted State.coolBy
  split
  · next v t hs hv ht => simp [hs, hv, ht]
  · next hno =>
    simp only [Bool.false_eq_true, false_iff]
    rintro ⟨hs, v, t, hv, ht, -⟩
    exact hno v t hs hv ht

theorem State.gapResumes_iff (s : State) : s.gapResumes = true ↔ s.coolBy 1 := by
  unfold State.gapResumes State.coolBy
  split
  · next v t hs hv ht => simp [hs, hv, ht]
  · next hno =>
    simp only [Bool.false_eq_true, false_iff]
    rintro ⟨hs, v, t, hv, ht, -⟩
    exact hno v t hs hv ht

theorem State.chargeDone_iff (s : State) : s.chargeDone = true ↔ s.warmEnough := by
  unfold State.chargeDone State.warmEnough
  split
  · next ht => simp [ht]
  · next v t hv ht => simp [hv, ht]
  · next t hv ht => simp [hv, ht]

theorem State.coolBy_mono {s : State} {j k : Int} (h : j ≤ k) (hk : s.coolBy k) : s.coolBy j := by
  obtain ⟨hs, v, t, hv, ht, hle⟩ := hk
  exact ⟨hs, v, t, hv, ht, by omega⟩

/-- Below the target by something the target is not reached. -/
theorem State.not_warmEnough_of_coolBy {s : State} {k : Int} (hk : 1 ≤ k) (h : s.coolBy k) : ¬ s.warmEnough := by
  obtain ⟨-, v, t, hv, ht, hle⟩ := h
  rintro (hoff | ⟨v', t', hv', ht', hle'⟩)
  · simp [ht] at hoff
  · rw [hv] at hv'; rw [ht] at ht'
    cases hv'; cases ht'; omega

/-! ### The channel's evaluation, by state -/

theorem State.toIdle_cylinder (s : State) : s.toIdle.cylinder =
    if s.chargeWanted then { s.cylinder.moveTo .charging with prio := some s.time.now } else s.cylinder.moveTo .idle := by
  have h : State.chargeWanted { s with cylinder := s.cylinder.moveTo .idle } = s.chargeWanted := rfl
  unfold State.toIdle State.evalIdle
  rw [h]
  split <;> rfl

theorem State.evalCylinder_idle {s : State} (h : s.cylinder.state = .idle) : s.evalCylinder.cylinder =
    if s.chargeWanted then { s.cylinder.moveTo .charging with prio := some s.time.now } else s.cylinder := by
  simp only [State.evalCylinder, h, State.evalIdle]
  split <;> rfl

theorem State.evalCylinder_charging {s : State} (h : s.cylinder.state = .charging) : s.evalCylinder.cylinder =
    if s.chargeDone then s.toIdle.cylinder else s.cylinder := by
  simp only [State.evalCylinder, h]
  split <;> rfl

theorem State.evalCylinder_other {s : State} (h : s.cylinder.state ≠ .idle) (k : s.cylinder.state ≠ .charging) :
    s.evalCylinder.cylinder = s.cylinder := by
  unfold State.evalCylinder
  split <;> first | contradiction | rfl

/-- A charge that ends leaves IDLE with no timer: TC is not below the hysteresis of a target that is reached (R130). -/
theorem State.evalCylinder_done {s : State} (h : s.cylinder.state = .charging) (hw : s.warmEnough)
    (hh : 1 ≤ s.cylinder.dhwHyst) : s.evalCylinder.cylinder = s.cylinder.moveTo .idle := by
  rw [State.evalCylinder_charging h, if_pos (s.chargeDone_iff.2 hw), State.toIdle_cylinder, if_neg]
  exact fun hc => State.not_warmEnough_of_coolBy hh (s.chargeWanted_iff.1 hc) hw

end Sys2Proof.Machine

/-! ENABLE and DISABLE (R7 to R9), and WRITE of a zone (R11 to R16, R127). -/

namespace Sys2Proof.Machine

/-! ### WRITE of a room zone -/

theorem State.resolveRoom_config (s : State) (z : Fin 16) : ((s.resolveRoom z).zone z).config = (s.zone z).config := by
  rw [State.resolveRoom_zone]; simp

theorem State.storeRoom_config (s : State) (z : Fin 16) (items : List Item) :
    ((s.storeRoom z items).zone z).config = ((s.zone z).written items).config := by
  have h : ∀ b : Bool, (((s.setZone z ((s.zone z).written items)).announceIf b z).zone z).config =
      ((s.zone z).written items).config := fun b => by cases b <;> simp [State.announceIf, State.zone]
  rw [State.storeRoom_eq, State.resolveIf_room]
  split
  · rw [State.resolveRoom_config]; exact h _
  · exact h _

/-- An accepted WRITE of a room zone (R11). -/
theorem State.writeRoom_of_check {s : State} {z : Fin 16} {items : List Item} (h : roomCheck (s.zone z).config items = true) :
    s.writeRoom z items = ((s.storeRoom z items).evaluateFrom s,
      .record (roomResult (s.zone z) items) (nat z.val) ((s.zone z).written items).configView) := by
  have hzones := ((s.storeRoom z items).settlesTo_evaluateFrom s).zones
  have hview : (((s.storeRoom z items).evaluateFrom s).zone z).configView = ((s.zone z).written items).configView := by
    have hzone : ((s.storeRoom z items).evaluateFrom s).zone z = (s.storeRoom z items).zone z := by
      rw [State.zone, hzones, State.zone]
    simp only [Zone.configView, hzone, s.storeRoom_config z items]
  unfold State.writeRoom
  rw [if_pos h, ← hview]

theorem State.evaluateFrom_self (s : State) : s.evaluateFrom s = s := if_pos ⟨rfl, rfl, rfl, rfl⟩

theorem State.setZone_self (s : State) (z : Fin 16) : s.setZone z (s.zone z) = s := by
  simp [State.setZone, State.zone]

/-- The enable item alone stores no field. -/
theorem Zone.store_enableItem (r : Zone) (v : Word) : r.store (enableItem v) = r := rfl

theorem roomCheck_enableItem (c : ZoneConfig) {v : Word} (h : v = 0 ∨ v = 1) : roomCheck c (enableItem v) = true := by
  rcases h with rfl | rfl <;> rfl

/-- The enable item alone: a zone turned off or on is cleared, queued and resolved; else nothing changes (R8, R9). -/
theorem State.storeRoom_enableItem (s : State) (z : Fin 16) (v : Word) : s.storeRoom z (enableItem v) =
    if (s.zone z).turnedOff (enableItem v) then ((s.setZone z (s.resolvedIn z ((s.zone z).cleared .disabled))).announce z)
    else if (s.zone z).turnedOn (enableItem v) then
      ((s.setZone z (s.resolvedIn z ((s.zone z).cleared .satisfied))).announce z)
    else s := by
  have hinputs : carriesSetpointInput (enableItem v) = false := rfl
  rw [State.storeRoom_eq, hinputs, State.resolveIf_room]
  by_cases hoff : (s.zone z).turnedOff (enableItem v) = true
  · have hon : (s.zone z).turnedOn (enableItem v) = false := by
      have h0 : itemNat (enableItem v) 16 = some 0 := by simp_all [Zone.turnedOff]
      simp [Zone.turnedOn, h0]
    simp only [hoff, hon, Zone.written, Zone.disabledFirst, ↓reduceIte, Bool.true_or]
    exact s.announce_resolveRoom z _
  · have hoff : (s.zone z).turnedOff (enableItem v) = false := by simpa using hoff
    by_cases hon : (s.zone z).turnedOn (enableItem v) = true
    · simp only [hoff, hon, Zone.written, Zone.disabledFirst, ↓reduceIte, Bool.or_true, Bool.true_or]
      exact s.announce_resolveRoom z _
    · have hon : (s.zone z).turnedOn (enableItem v) = false := by simpa using hon
      simp only [hoff, hon, Zone.written, Zone.disabledFirst]
      exact s.setZone_self z

theorem Zone.written_enableItem_config (r : Zone) (v : Word) : (r.written (enableItem v)).config = r.config := by
  unfold Zone.written Zone.disabledFirst
  rw [Zone.store_enableItem]
  dsimp only
  split <;> split <;> rfl

theorem roomClamped_enableItem (c : ZoneConfig) (v : Word) : roomClamped c (enableItem v) = false :=
  decide_eq_false (not_not_intro rfl)

/-- The enable item alone is answered OK with the configuration as it stands (R8, R9). -/
theorem State.writeRoom_enableItem (s : State) (z : Fin 16) {v : Word} (hv : v = 0 ∨ v = 1) :
    s.writeRoom z (enableItem v) = ((s.storeRoom z (enableItem v)).evaluateFrom s,
      { result := .ok, payload := keyedPayload (nat z.val) (s.zone z).configView 1 }) := by
  have hresult : roomResult (s.zone z) (enableItem v) = .ok := by
    have hno : goesPending (s.zone z) (enableItem v) = false := rfl
    simp [roomResult, hno, roomClamped_enableItem, okOrClamped]
  have hview : ((s.zone z).written (enableItem v)).configView = (s.zone z).configView := by
    simp only [Zone.configView, Zone.written_enableItem_config]
  rw [State.writeRoom_of_check (roomCheck_enableItem _ hv), hresult, hview]
  rfl

/-- ENABLE or DISABLE of a room zone (R8, R9). -/
theorem exec_enableItem {s : State} {z : Fin 16} {v : Word} {i : Instr} (ht : s.takes) (hv : v = 0 ∨ v = 1)
    (hi : exec i s = .next (s.command i (fun t => t.writeRoom z (enableItem v)))) :
    exec i s = .next ((((s.received i).storeRoom z (enableItem v)).evaluateFrom (s.received i)).holding i .ok
      (keyedPayload (nat z.val) (s.zone z).configView 1)) := by
  rw [hi, State.command_of_takes ht, State.writeRoom_enableItem _ z hv]
  rfl

/-- A cleared record is resolved as the record before it was (R8, R9). -/
theorem State.resolvedIn_cleared (s : State) (z : Fin 16) (st : ZoneState) : s.resolvedIn z ((s.zone z).cleared st) =
    { (s.zone z).cleared st with setpoint := s.roomSetpoint z, source := (s.roomCandidate z).2 } := by
  obtain ⟨hcandidate, hsetpoint⟩ := s.resolution_congr z (q := s.zone z) (r := (s.zone z).cleared st) rfl rfl rfl rfl
  rw [State.setZone_self] at hcandidate hsetpoint
  simp only [State.resolvedIn, hcandidate, hsetpoint]

theorem State.storeRoom_enable (s : State) (z : Fin 16) : s.storeRoom z (enableItem 1) =
    if (s.zone z).state = .disabled then (s.setZone z { (s.zone z).cleared .satisfied with
      setpoint := s.roomSetpoint z, source := (s.roomCandidate z).2 }).announce z else s := by
  have hoff : (s.zone z).turnedOff (enableItem 1) = false := rfl
  have hon : (s.zone z).turnedOn (enableItem 1) = ((s.zone z).state == .disabled) := rfl
  rw [State.storeRoom_enableItem, State.resolvedIn_cleared, State.resolvedIn_cleared, hoff, hon]
  simp

theorem State.storeRoom_disable (s : State) (z : Fin 16) : s.storeRoom z (enableItem 0) =
    if (s.zone z).state = .disabled then s else (s.setZone z { (s.zone z).cleared .disabled with
      setpoint := s.roomSetpoint z, source := (s.roomCandidate z).2 }).announce z := by
  have hoff : (s.zone z).turnedOff (enableItem 0) = ((s.zone z).state != .disabled) := rfl
  have hon : (s.zone z).turnedOn (enableItem 0) = false := rfl
  rw [State.storeRoom_enableItem, State.resolvedIn_cleared, hoff, hon]
  by_cases h : (s.zone z).state = .disabled <;> simp [h]

/-! ### ENABLE and DISABLE of ZW -/

theorem State.storeCylinder_enable (s : State) : s.storeCylinder (enableItem 1) = s.enableCylinder := rfl

theorem State.storeCylinder_disable (s : State) : s.storeCylinder (enableItem 0) = s.disableCylinder := rfl

theorem exec_zwEnableItem {s : State} {v : Word} {i : Instr} (ht : s.takes) (hv : v = 0 ∨ v = 1)
    (hi : exec i s = .next (s.command i (fun t => t.writeCylinder (enableItem v)))) :
    ∃ p, exec i s = .next ((((s.received i).storeCylinder (enableItem v)).evaluateFrom (s.received i)).holding i .ok p) := by
  rw [hi, State.command_of_takes ht]
  rcases hv with rfl | rfl <;> exact ⟨_, rfl⟩

/-- An event that moves the channel to another state is evaluated. -/
theorem State.evaluateFrom_of_state {s before : State} (h : s.cylinder.state ≠ before.cylinder.state) :
    s.evaluateFrom before = s.evaluate :=
  if_neg fun k => h (by rw [k.2.1])

/-- ENABLE of a DISABLED ZW with TC OK: IDLE, resolved and evaluated (R7, R129). -/
theorem State.enableCylinder_ok {s : State} (hdis : s.cylinder.state = .disabled) (htc : s.boiler.tc.status = some .ok) :
    s.enableCylinder = { s with cylinder := { s.cylinder.moveTo .idle with
      target := s.cylinderResolved.1, source := s.cylinderResolved.2 } } := by
  rw [State.enableCylinder, if_pos hdis, if_pos htc]; rfl

theorem State.enableCylinder_fault {s : State} (hdis : s.cylinder.state = .disabled) (htc : s.boiler.tc.status ≠ some .ok) :
    s.enableCylinder = { s.raise .cylinder with cylinder := { s.cylinder.moveTo .fault with
      target := s.cylinderResolved.1, source := s.cylinderResolved.2 } } := by
  rw [State.enableCylinder, if_pos hdis, if_neg htc]; rfl

theorem State.disableCylinder_enabled {s : State} (hen : s.cylinder.state ≠ .disabled) :
    s.disableCylinder = { s with cylinder := { s.cylinder.moveTo .disabled with
      target := s.cylinderResolved.1, source := s.cylinderResolved.2 } } := by
  rw [State.disableCylinder, if_neg hen]; rfl

/-- IDLE is evaluated once: a charge starts where TC is below the target by the hysteresis, while READY is set (R129). -/
theorem State.evaluate_idle {s : State} (h : s.cylinder.state = .idle) :
    (s.evaluate.cylinder.state = .charging ↔ s.time.ready = true ∧ s.coolBy s.cylinder.dhwHyst) ∧
      (s.evaluate.cylinder.state ≠ .charging → s.evaluate.cylinder.state = .idle) := by
  rw [s.evaluate_cylinder, State.evalCylinder_idle h, ← s.chargeWanted_iff]
  cases hr : s.time.ready <;> cases hc : s.chargeWanted <;> simp [h, Cylinder.moveTo]

/-- A state that waits for an event of its own stays in an evaluation. -/
theorem State.evaluate_waiting {s : State} (h : s.cylinder.state ≠ .idle) (k : s.cylinder.state ≠ .charging) :
    s.evaluate.cylinder = s.cylinder := by
  rw [s.evaluate_cylinder, State.evalCylinder_other h k, ite_self]

/-- Settles O14: the enable item stores no field, so the write is the enable or the disable alone. -/
theorem enableAndDisable : Obligations.EnableAndDisable := by
  refine ⟨fun z s ht => ⟨?_, ?_⟩, fun s ht => ⟨?_, ?_⟩⟩
  · intro i
    have hexec := exec_enableItem (i := i) ht (.inr rfl) rfl
    rw [State.storeRoom_enable] at hexec
    refine ⟨fun hen => ?_, fun hdis => ?_⟩
    · rwa [if_neg (show ((s.received i).zone z).state ≠ .disabled from hen), State.evaluateFrom_self] at hexec
    · rw [if_pos (show ((s.received i).zone z).state = .disabled from hdis)] at hexec
      exact ⟨_, hexec, State.settlesTo_evaluateFrom _ _⟩
  · intro i
    have hexec := exec_enableItem (i := i) ht (.inl rfl) rfl
    rw [State.storeRoom_disable] at hexec
    refine ⟨fun hdis => ?_, fun hen => ?_⟩
    · rwa [if_pos (show ((s.received i).zone z).state = .disabled from hdis), State.evaluateFrom_self] at hexec
    · rw [if_neg (show ((s.received i).zone z).state ≠ .disabled from hen)] at hexec
      exact ⟨_, hexec, State.settlesTo_evaluateFrom _ _⟩
  · intro i
    obtain ⟨p, hexec⟩ := exec_zwEnableItem (i := i) ht (.inr rfl) rfl
    rw [State.storeCylinder_enable] at hexec
    refine ⟨fun hen => ⟨_, p, ?_, rfl⟩, fun hdis htc => ⟨_, p, hexec, ?_⟩, fun hdis htc => ⟨_, p, hexec, ?_⟩⟩
    · rwa [State.enableCylinder, if_neg (show (s.received i).cylinder.state ≠ .disabled from hen),
        State.evaluateFrom_self] at hexec
    · have hmoved : CylinderState.idle ≠ (s.received i).cylinder.state := by
        rw [show (s.received i).cylinder.state = .disabled from hdis]; simp
      refine ⟨?_, ?_⟩
      · rw [State.enableCylinder_ok (s := s.received i) hdis htc]; exact State.settlesTo_evaluateFrom _ _
      · rw [State.enableCylinder_ok (s := s.received i) hdis htc, State.evaluateFrom_of_state hmoved]
        obtain ⟨hcharge, hidle⟩ := State.evaluate_idle (s := { s.received i with cylinder :=
          { (s.received i).cylinder.moveTo .idle with
            target := (s.received i).cylinderResolved.1, source := (s.received i).cylinderResolved.2 } }) rfl
        refine ⟨hcharge.trans ?_, hidle⟩
        exact and_congr_right fun _ => and_iff_right htc
    · have hmoved : CylinderState.fault ≠ (s.received i).cylinder.state := by
        rw [show (s.received i).cylinder.state = .disabled from hdis]; simp
      rw [State.enableCylinder_fault (s := s.received i) hdis htc]
      refine ⟨State.settlesTo_evaluateFrom _ _, ?_⟩
      rw [State.evaluateFrom_of_state hmoved, State.evaluate_waiting (by simp [Cylinder.moveTo]) (by simp [Cylinder.moveTo])]
      rfl
  · intro i
    obtain ⟨p, hexec⟩ := exec_zwEnableItem (i := i) ht (.inl rfl) rfl
    rw [State.storeCylinder_disable] at hexec
    refine ⟨fun hdis => ⟨_, p, ?_, rfl⟩, fun hen => ⟨_, p, hexec, ?_⟩⟩
    · rwa [State.disableCylinder, if_pos (show (s.received i).cylinder.state = .disabled from hdis),
        State.evaluateFrom_self] at hexec
    · have hmoved : CylinderState.disabled ≠ (s.received i).cylinder.state := Ne.symm hen
      rw [State.disableCylinder_enabled (s := s.received i) hen]
      refine ⟨State.settlesTo_evaluateFrom _ _, ?_⟩
      rw [State.evaluateFrom_of_state hmoved, State.evaluate_waiting (by simp [Cylinder.moveTo]) (by simp [Cylinder.moveTo])]
      exact ⟨rfl, rfl, rfl⟩

end Sys2Proof.Machine

/-! WRITE of a room zone in the words of its statement (R11 to R16), and the refusals. -/

namespace Sys2Proof.Machine

/-! ### What a write stores -/

theorem takeItem_elim (items : List Item) (code : Nat) (lo hi old : Int) :
    takeItem items code lo hi old = (item items code).elim old (fun v => clamp v lo hi) := by
  unfold takeItem; split <;> simp [*]

theorem takeFlag_elim (items : List Item) (code : Nat) (old : Bool) :
    takeFlag items code old = (itemNat items code).elim old (fun v => v == 1) := by
  unfold takeFlag; split <;> simp [*]

theorem takeEmitter_elim (items : List Item) (old : Emitter) :
    takeEmitter items old = (itemNat items 1).elim old (fun v => if v = 0 then .radiator else .floor) := by
  unfold takeEmitter; split <;> simp [*]

theorem requestOffAfter_elim (c : ZoneConfig) (items : List Item) (on : Int) : requestOffAfter c items on =
    (item items 12).elim (if carries items 11 then min c.requestOff (on - 10) else c.requestOff)
      (fun v => clamp v 0 (on - 10)) := by
  unfold requestOffAfter; split <;> simp [*]

theorem Zone.store_eq (r : Zone) (items : List Item) : r.store items = { r with
    config := { storeImmediate r.config items with
      control := if goesPending r items then r.config.control else storeControl r.config.control items }
    pending := if goesPending r items then some (storeControl r.config.control items) else r.pending } := by
  unfold Zone.store
  dsimp only
  split <;> rfl

/-- A write pends where it carries a control field and the zone, disabled first, is CALLING. -/
theorem roomResult_eq (r : Zone) (items : List Item) : roomResult r items =
    if goesPending (r.disabledFirst items) items then .pending
    else if roomClamped r.config items then .clamped else .ok := by
  unfold roomResult
  have hgoes : goesPending (r.disabledFirst items) items = true ↔ goesPending r items = true ∧ itemNat items 16 ≠ some 0 := by
    unfold Zone.disabledFirst
    by_cases hoff : r.turnedOff items = true
    · have h0 : itemNat items 16 = some 0 := by simp_all [Zone.turnedOff]
      rw [if_pos hoff]
      simp [goesPending, Zone.isCalling, Zone.cleared, h0]
    · rw [if_neg hoff]
      refine ⟨fun h => ⟨h, fun h0 => hoff ?_⟩, fun h => h.1⟩
      have hcalling : r.state = .calling := by simpa [goesPending, Zone.isCalling] using (Bool.and_eq_true_iff.1 h).2
      simp [Zone.turnedOff, h0, hcalling]
  by_cases h : goesPending (r.disabledFirst items) items = true
  · rw [if_pos h, if_pos (hgoes.1 h)]
  · rw [if_neg h, if_neg fun k => h (hgoes.2 k)]
    rfl

theorem nat_of_toNat {key : Word} {n : Nat} (h : key.toNat = n) : nat n = key := by
  subst h; simp [nat]

theorem zoneKey_room {key : Word} {z : Fin 16} (h : key.toNat = z.val) : zoneKey key.toNat = some (roomIndex z) := by
  have hlt : key.toNat < 17 := by omega
  rw [zoneKey, dif_pos hlt]
  exact congrArg some (Fin.ext h)

theorem State.writeZone_room (s : State) {key : Word} {z : Fin 16} (h : key.toNat = z.val) (items : List Item) :
    s.writeZone key items = s.writeRoom z items := by
  unfold State.writeZone
  rw [zoneKey_room h]
  simp only [roomOf_roomIndex]

theorem roomWrites (key : Word) (z : Fin 16) (items : List Item) (s : State) (ht : s.takes) (hk : key.toNat = z.val)
    (hcheck : roomCheck (s.zone z).config items = true) :
    exec (.writeZone key items) s = .next ((((s.received (.writeZone key items)).storeRoom z items).evaluateFrom
        (s.received (.writeZone key items))).holding (.writeZone key items)
      (if goesPending ((s.zone z).disabledFirst items) items then .pending
        else if roomClamped (s.zone z).config items then .clamped else .ok)
      (keyedPayload key ((s.zone z).written items).configView 1)) := by
  have hexec : exec (.writeZone key items) s =
      .next (s.command (.writeZone key items) (fun t => t.writeZone key items)) := rfl
  have hcheck' : roomCheck ((s.received (.writeZone key items)).zone z).config items = true := hcheck
  rw [hexec, State.command_of_takes ht, State.writeZone_room _ hk, State.writeRoom_of_check hcheck', nat_of_toNat hk,
    ← roomResult_eq]
  rfl

/-! ### Refusals (R11, R12, R203) -/

/-- A command whose body refuses changes nothing but the response held (R203). -/
theorem exec_refused {s : State} {i : Instr} {body : State → State × Answer} {r : Result} (ht : s.takes)
    (hi : exec i s = .next (s.command i body)) (hr : body (s.received i) = refuse r (s.received i)) :
    exec i s = .next ((s.received i).bare i r) := by
  rw [hi, State.command_of_takes ht, hr]; rfl

theorem mem_itemCodes {items : List Item} {x : Item} (hx : x ∈ items) (h : x.code ≠ 0) : x.code.toNat ∈ itemCodes items := by
  have hreal : x ∈ realItems items := List.mem_filter.2 ⟨hx, by simpa using h⟩
  exact List.mem_map_of_mem hreal

theorem codesOk_eq_false {allowed : List Nat} {items : List Item} {x : Item} (hx : x ∈ items) (h : x.code ≠ 0)
    (hno : x.code.toNat ∉ allowed) : codesOk allowed items = false := by
  by_contra hok
  have hall := (Bool.and_eq_true_iff.1 (Bool.not_eq_false _ ▸ hok)).1
  exact hno (by simpa using List.all_eq_true.1 hall _ (mem_itemCodes hx h))

theorem enumOk_eq_false {items : List Item} {k n v : Nat} (h : itemNat items k = some v) (hv : n ≤ v) :
    enumOk items k n = false := by
  simp [enumOk, h, hv]

theorem writeRoom_refused {s : State} {z : Fin 16} {items : List Item} (h : roomCheck (s.zone z).config items = false) :
    s.writeRoom z items = refuse .badValue s := by
  unfold State.writeRoom; rw [if_neg (by simp [h])]

theorem writeCylinder_refused {s : State} {items : List Item}
    (h : codesOk cylinderCodes items = false ∨ enumOk items 16 2 = false) :
    s.writeCylinder items = refuse .badValue s := by
  unfold State.writeCylinder
  rw [if_neg]
  rcases h with h | h <;> simp [h]

theorem roomCheck_eq_false {c : ZoneConfig} {items : List Item}
    (h : (∃ x ∈ items, 16 < x.code.toNat) ∨ (∃ k ∈ [1, 15, 16], ∃ v, itemNat items k = some v ∧ 2 ≤ v) ∨
      ((carries items 8 = true ∨ carries items 9 = true) ∧
        (item items 9).getD c.comfortCeiling < (item items 8).getD c.frostFloor) ∨
      ((carries items 11 = true ∨ carries items 12 = true) ∧
        (item items 11).getD c.requestOn ≤ (item items 12).getD c.requestOff)) : roomCheck c items = false := by
  unfold roomCheck
  simp only [Bool.and_eq_false_iff]
  rcases h with ⟨x, hx, hcode⟩ | ⟨k, hk, v, hv, h2⟩ | ⟨hcarry, hlt⟩ | ⟨hcarry, hle⟩
  · have hno : x.code.toNat ∉ roomCodes := by simp [roomCodes]; omega
    have hne : x.code ≠ 0 := by rintro e; simp [e] at hcode
    exact .inl (.inl (.inl (.inl (.inl (codesOk_eq_false hx hne hno)))))
  · have henum := enumOk_eq_false hv h2
    simp only [List.mem_cons, List.not_mem_nil, or_false] at hk
    rcases hk with rfl | rfl | rfl
    · exact .inl (.inl (.inl (.inl (.inr henum))))
    · exact .inl (.inl (.inl (.inr henum)))
    · exact .inl (.inl (.inr henum))
  · refine .inl (.inr ?_)
    have : (carries items 8 || carries items 9) = true := by simpa using hcarry
    simp [floorLimitOk, this, hlt]
  · refine .inr ?_
    have : (carries items 11 || carries items 12) = true := by simpa using hcarry
    simp [requestLimitOk, this, hle]

theorem State.writeZone_cylinder (s : State) {key : Word} (h : key.toNat = 16) (items : List Item) :
    s.writeZone key items = s.writeCylinder items := by
  unfold State.writeZone
  rw [h]; rfl

theorem State.writeZone_notFound (s : State) {key : Word} (h : 16 < key.toNat) (items : List Item) :
    s.writeZone key items = refuse .notFound s := by
  unfold State.writeZone
  rw [zoneKey, dif_neg (by omega)]

/-- The third part of O13: what a WRITE of a zone refuses. -/
theorem writeZone_refusals :
   (∀ (key : Word) (items : List Item) (s : State), s.takes → 16 < key.toNat →
     exec (.writeZone key items) s =
       .next ((s.received (.writeZone key items)).bare (.writeZone key items) .notFound)) ∧
   (∀ (key : Word) (z : Fin 16) (items : List Item) (s : State), s.takes → key.toNat = z.val →
     roomCheck (s.zone z).config items = false → exec (.writeZone key items) s =
       .next ((s.received (.writeZone key items)).bare (.writeZone key items) .badValue)) ∧
   (∀ (key : Word) (items : List Item) (s : State), s.takes → key.toNat = 16 →
     (∃ x ∈ items, x.code ≠ 0 ∧ (x.code.toNat < 16 ∨ 21 < x.code.toNat)) ∨ (∃ v, itemNat items 16 = some v ∧ 2 ≤ v) →
     exec (.writeZone key items) s =
       .next ((s.received (.writeZone key items)).bare (.writeZone key items) .badValue)) := by
  refine ⟨fun key items s ht hk => ?_, fun key z items s ht hk hcheck => ?_, fun key items s ht hk hbad => ?_⟩
  · exact exec_refused ht rfl (State.writeZone_notFound _ hk items)
  · exact exec_refused ht rfl ((State.writeZone_room _ hk items).trans (writeRoom_refused hcheck))
  · refine exec_refused ht rfl ((State.writeZone_cylinder _ hk items).trans (writeCylinder_refused ?_))
    rcases hbad with ⟨x, hx, hne, hcode⟩ | ⟨v, hv, h2⟩
    · have hno : x.code.toNat ∉ cylinderCodes := by simp [cylinderCodes]; omega
      exact .inl (codesOk_eq_false hx hne hno)
    · exact .inr (enumOk_eq_false hv h2)

end Sys2Proof.Machine

/-! WRITE of ZW (R7, R127): the stores brought into one form, the intervals a write ends, and the channel after its
evaluation. -/

namespace Sys2Proof.Machine

/-! ### The record a write leaves, its state still to be evaluated -/

/-- The write disables ZW, or enables it (R7). -/
def Cylinder.turnedOff (c : Cylinder) (items : List Item) : Bool := itemNat items 16 == some 0 && c.state != .disabled

def Cylinder.turnedOn (c : Cylinder) (items : List Item) : Bool := itemNat items 16 == some 1 && c.state == .disabled

/-- The fields of a write on the channel, disabled first where the write does so (R7). -/
def Cylinder.written (c : Cylinder) (items : List Item) : Cylinder :=
  (if c.turnedOff items then c.moveTo .disabled else c).store items

/-- The record resolved with a channel in place of its own (R39). -/
def State.resolvedChannel (s : State) (c : Cylinder) : Cylinder :=
  { c with
    target := State.cylinderResolved { s with cylinder := c } |>.1
    source := State.cylinderResolved { s with cylinder := c } |>.2 }

/-- The channel after a write, its state still to be evaluated. -/
def State.channelWritten (s : State) (items : List Item) : Cylinder :=
  if s.cylinder.turnedOff items || s.cylinder.turnedOn items || carries items 21 then
    s.resolvedChannel (s.cylinder.written items)
  else s.cylinder.written items

/-- Of the channel a resolution reads the default target. -/
theorem State.cylinderResolved_congr (s : State) {a b : Cylinder} (h : a.defaultTarget = b.defaultTarget) :
    State.cylinderResolved { s with cylinder := a } = State.cylinderResolved { s with cylinder := b } := by
  simp only [State.cylinderResolved, State.stackOf, State.pointInForce, State.pointsOf, h]

theorem State.resolveIf_zw (s : State) (b : Bool) : s.resolveIf b zw = if b then s.resolveCylinder else s := rfl

/-- The default target that no item carries stays. -/
theorem Cylinder.store_defaultTarget {c : Cylinder} {items : List Item} (h : carries items 21 = false) :
    (c.store items).defaultTarget = c.defaultTarget := by
  have : item items 21 = none := by
    have : itemWord items 21 = none := by simpa [carries] using h
    simp [item, this]
  simp [Cylinder.store, takeLevel, this]

/-- DISABLE and the fields leave one channel record. -/
theorem State.storeFields_cylinder (s : State) (items : List Item) (hon : s.cylinder.turnedOn items = false) :
    State.resolveIf (carries items 21) zw
      { (if itemNat items 16 = some 0 then s.disableCylinder else s) with
        cylinder := (if itemNat items 16 = some 0 then s.disableCylinder else s).cylinder.store items } =
      { s with cylinder := s.channelWritten items } := by
  rw [State.resolveIf_zw]
  by_cases hoff : s.cylinder.turnedOff items = true
  · obtain ⟨h0, hen⟩ : itemNat items 16 = some 0 ∧ s.cylinder.state ≠ .disabled := by simpa [Cylinder.turnedOff] using hoff
    rw [if_pos h0, State.disableCylinder_enabled hen, State.channelWritten, hoff, Bool.true_or, Bool.true_or, if_pos rfl,
      Cylinder.written, if_pos hoff]
    split
    · rfl
    · next hno =>
      have hdefault := Cylinder.store_defaultTarget (c := s.cylinder.moveTo .disabled) (items := items) (by simpa using hno)
      have hresolved := s.cylinderResolved_congr (a := (s.cylinder.moveTo .disabled).store items) (b := s.cylinder) hdefault
      simp only [State.resolvedChannel, hresolved]
      rfl
  · have hkeep : (if itemNat items 16 = some 0 then s.disableCylinder else s) = s := by
      split
      · next h0 =>
        refine if_pos ?_
        simpa [Cylinder.turnedOff, h0] using hoff
      · rfl
    rw [hkeep, State.channelWritten, hon, Cylinder.written, if_neg hoff, Bool.eq_false_iff.2 hoff]
    simp only [Bool.false_or]
    split <;> rfl

/-! ### The intervals a write ends -/

/-- A tPRIO written no longer than the time it has run (R127). -/
def State.prioEnds (s : State) (items : List Item) : Prop :=
  carries items 19 = true ∧ s.cylinder.state = .charging ∧
    ∃ a, s.cylinder.prio = some a ∧ s.cylinder.tPrio.toNat * 60000 ≤ s.time.now - a

/-- A tGAP written no longer than the time it has run (R127). -/
def State.gapEnds (s : State) (items : List Item) : Prop :=
  carries items 20 = true ∧ s.cylinder.state = .gap ∧
    ∃ a, s.cylinder.gap = some a ∧ s.cylinder.tGap.toNat * 60000 ≤ s.time.now - a

theorem State.overdue_iff (s : State) (start : Option Nat) (m : Int) : s.overdue start (minutes m) = true ↔
    ∃ a, start = some a ∧ m.toNat * 60000 ≤ s.time.now - a := by
  cases start with
  | none => simp [State.overdue]
  | some a =>
    simp only [State.overdue, State.since, minutes, Config.minute, Option.any_some, Option.some.injEq, exists_eq_left']
    exact decide_eq_true_iff

theorem State.shortenPrio_of {s : State} {items : List Item} (h : s.prioEnds items) : s.shortenPrio items = s.prioExpires :=
  if_pos ⟨h.1, h.2.1, (s.overdue_iff _ _).2 h.2.2⟩

theorem State.shortenPrio_of_not {s : State} {items : List Item} (h : ¬ s.prioEnds items) : s.shortenPrio items = s :=
  if_neg fun ⟨hc, hs, ho⟩ => h ⟨hc, hs, (s.overdue_iff _ _).1 ho⟩

theorem State.shortenGap_of {s : State} {items : List Item} (h : s.gapEnds items) : s.shortenGap items = s.gapExpires :=
  if_pos ⟨h.1, h.2.1, (s.overdue_iff _ _).2 h.2.2⟩

theorem State.shortenGap_of_not {s : State} {items : List Item} (h : ¬ s.gapEnds items) : s.shortenGap items = s :=
  if_neg fun ⟨hc, hs, ho⟩ => h ⟨hc, hs, (s.overdue_iff _ _).1 ho⟩

/-- The two intervals taken (R127). -/
def State.shortened (s : State) (items : List Item) : State := (s.shortenGap items).shortenPrio items

theorem State.shortened_none {s : State} {items : List Item} (hp : ¬ s.prioEnds items) (hg : ¬ s.gapEnds items) :
    s.shortened items = s := by
  rw [State.shortened, State.shortenGap_of_not hg, State.shortenPrio_of_not hp]

theorem State.shortened_prio {s : State} {items : List Item} (h : s.prioEnds items) : s.shortened items = s.prioExpires := by
  have hg : ¬ s.gapEnds items := fun k => by have e := h.2.1.symm.trans k.2.1; cases e
  rw [State.shortened, State.shortenGap_of_not hg, State.shortenPrio_of h]

/-- A charge that a gap's end begins has just begun, so its tPRIO does not end. -/
theorem State.shortened_gap {s : State} {items : List Item} (h : s.gapEnds items)
    (ht : carries items 19 = true → 1 ≤ s.cylinder.tPrio) : s.shortened items = s.gapExpires := by
  rw [State.shortened, State.shortenGap_of h, State.shortenPrio_of_not]
  rintro ⟨hc, hstate, a, ha, hle⟩
  have ht := ht hc
  have hnow : s.gapExpires.cylinder.state = .charging →
      s.gapExpires.cylinder.prio = some s.time.now ∧ s.gapExpires.cylinder.tPrio = s.cylinder.tPrio ∧
        s.gapExpires.time.now = s.time.now := by
    unfold State.gapExpires State.toIdle State.evalIdle State.startCharge Cylinder.moveTo
    split
    · exact fun _ => ⟨rfl, rfl, rfl⟩
    · split
      · exact fun _ => ⟨rfl, rfl, rfl⟩
      · exact fun k => by cases k
  obtain ⟨hprio, htp, htime⟩ := hnow hstate
  rw [hprio] at ha
  cases ha
  rw [htp, htime] at hle
  omega

theorem State.settlesTo_setCylinder (s : State) {c : Cylinder} (hc : c = { s.cylinder with
    state := c.state, prio := c.prio, gap := c.gap, recovery := c.recovery }) : s.SettlesTo { s with cylinder := c } :=
  ⟨by rw [hc], fun _ => rfl⟩

theorem State.settlesTo_prioExpires (s : State) : s.SettlesTo s.prioExpires := by
  unfold State.prioExpires
  split <;> exact s.settlesTo_setCylinder rfl

theorem State.settlesTo_gapExpires (s : State) : s.SettlesTo s.gapExpires := by
  unfold State.gapExpires State.toIdle State.evalIdle State.startCharge
  repeat' split
  all_goals exact s.settlesTo_setCylinder rfl

theorem State.settlesTo_shortened (s : State) (items : List Item) : s.SettlesTo (s.shortened items) := by
  by_cases hg : s.gapEnds items
  · rw [State.shortened, State.shortenGap_of hg]
    refine s.settlesTo_gapExpires.trans ?_
    by_cases hp : s.gapExpires.prioEnds items
    · rw [State.shortenPrio_of hp]; exact State.settlesTo_prioExpires _
    · rw [State.shortenPrio_of_not hp]; exact State.settlesTo_refl _
  · by_cases hp : s.prioEnds items
    · rw [State.shortened_prio hp]; exact s.settlesTo_prioExpires
    · rw [State.shortened_none hp hg]; exact s.settlesTo_refl

/-! ### The whole write -/

theorem Cylinder.store_state (c : Cylinder) (items : List Item) : (c.store items).state = c.state := rfl

theorem State.channelWritten_state (s : State) (items : List Item) : (s.channelWritten items).state =
    if s.cylinder.turnedOff items then .disabled else s.cylinder.state := by
  unfold State.channelWritten State.resolvedChannel Cylinder.written
  split <;> split <;> rfl

theorem State.prioExpires_enabled {s : State} (h : s.cylinder.state ≠ .disabled) : s.prioExpires.cylinder.state ≠ .disabled := by
  unfold State.prioExpires
  split
  · simp [Cylinder.moveTo]
  · exact h

theorem State.gapExpires_enabled (s : State) : s.gapExpires.cylinder.state ≠ .disabled := by
  unfold State.gapExpires State.toIdle State.evalIdle State.startCharge
  repeat' split
  all_goals simp [Cylinder.moveTo]

/-- The end of an interval leaves an enabled state. -/
theorem State.shortened_enabled {s : State} (h : s.cylinder.state ≠ .disabled) (items : List Item) :
    (s.shortened items).cylinder.state ≠ .disabled := by
  have hgap : (s.shortenGap items).cylinder.state ≠ .disabled := by
    unfold State.shortenGap; split
    · exact s.gapExpires_enabled
    · exact h
  unfold State.shortened State.shortenPrio
  split
  · exact State.prioExpires_enabled hgap
  · exact hgap

/-- A write that does not enable ZW stores one channel record and takes the intervals it ends. -/
theorem State.storeCylinder_of_not_on {s : State} {items : List Item} (hon : s.cylinder.turnedOn items = false) :
    s.storeCylinder items = State.shortened { s with cylinder := s.channelWritten items } items := by
  have h : s.storeCylinder items = if itemNat items 16 = some 1 then
      (State.shortened { s with cylinder := s.channelWritten items } items).enableCylinder
      else State.shortened { s with cylinder := s.channelWritten items } items := by
    rw [← s.storeFields_cylinder items hon]; rfl
  rw [h]
  split
  · next h1 =>
    have hen : s.cylinder.state ≠ .disabled := by simpa [Cylinder.turnedOn, h1] using hon
    have hoff : s.cylinder.turnedOff items = false := by simp [Cylinder.turnedOff, h1]
    have hstate : (State.shortened { s with cylinder := s.channelWritten items } items).cylinder.state ≠ .disabled := by
      refine State.shortened_enabled ?_ items
      change (s.channelWritten items).state ≠ .disabled
      rw [s.channelWritten_state, hoff]; exact hen
    exact if_neg hstate
  · rfl

/-- A write that enables ZW stores one channel record, in IDLE or in FAULT (R7, R133). -/
theorem State.storeCylinder_of_on {s : State} {items : List Item} (hon : s.cylinder.turnedOn items = true) :
    s.storeCylinder items =
      if s.boiler.tc.status = some .ok then { s with cylinder := (s.channelWritten items).moveTo .idle }
      else { s.raise .cylinder with cylinder := (s.channelWritten items).moveTo .fault } := by
  obtain ⟨h1, hdis⟩ : itemNat items 16 = some 1 ∧ s.cylinder.state = .disabled := by simpa [Cylinder.turnedOn] using hon
  have hoff : s.cylinder.turnedOff items = false := by simp [Cylinder.turnedOff, h1]
  have hwritten : s.channelWritten items = s.resolvedChannel (s.cylinder.store items) := by
    rw [State.channelWritten, hon, Bool.or_true, Bool.true_or, if_pos rfl, Cylinder.written, hoff]; rfl
  have hstores : ∃ (target : Level) (source : CylinderSource),
      State.resolveIf (carries items 21) zw { s with cylinder := s.cylinder.store items } =
        { s with cylinder := { s.cylinder.store items with target := target, source := source } } := by
    rw [State.resolveIf_zw]
    split
    · exact ⟨_, _, rfl⟩
    · exact ⟨(s.cylinder.store items).target, (s.cylinder.store items).source, rfl⟩
  obtain ⟨target, source, hstores⟩ := hstores
  generalize hc : ({ s.cylinder.store items with target := target, source := source } : Cylinder) = c at hstores
  have hcstate : c.state = .disabled := by rw [← hc]; exact hdis
  have hnone : State.shortened { s with cylinder := c } items = { s with cylinder := c } :=
    State.shortened_none (fun k => by have e := hcstate.symm.trans k.2.1; cases e)
      (fun k => by have e := hcstate.symm.trans k.2.1; cases e)
  have hstore : s.storeCylinder items = State.enableCylinder { s with cylinder := c } := by
    rw [← hnone, ← hstores]
    unfold State.storeCylinder State.shortened
    simp only [h1]
    rfl
  have hresolved : State.cylinderResolved { s with cylinder := c } =
      State.cylinderResolved { s with cylinder := s.cylinder.store items } :=
    s.cylinderResolved_congr (by rw [← hc])
  rw [hstore, hwritten]
  split
  · next htc =>
    rw [State.enableCylinder_ok (s := { s with cylinder := c }) hcstate htc, hresolved, ← hc]
    rfl
  · next htc =>
    rw [State.enableCylinder_fault (s := { s with cylinder := c }) hcstate htc, hresolved, ← hc]
    rfl

end Sys2Proof.Machine

/-! WRITE of ZW: the channel after the evaluation, and the whole of O13. -/

namespace Sys2Proof.Machine

/-! ### The evaluation after the stores -/

theorem State.not_prioEnds {s : State} {items : List Item} (h : s.cylinder.state ≠ .charging) : ¬ s.prioEnds items :=
  fun k => h k.2.1

theorem State.not_gapEnds {s : State} {items : List Item} (h : s.cylinder.state ≠ .gap) : ¬ s.gapEnds items :=
  fun k => h k.2.1

theorem State.evaluate_ready {s : State} (h : s.time.ready = true) : s.evaluate.cylinder = s.evalCylinder.cylinder := by
  rw [s.evaluate_cylinder, if_pos h]

theorem State.gapExpires_time (s : State) : s.gapExpires.time = s.time := by
  unfold State.gapExpires State.toIdle State.evalIdle State.startCharge
  repeat' split
  all_goals rfl

/-- The end of a gap charges again below the target itself, and is in IDLE else (R132). -/
theorem State.evaluate_gapExpires {s : State} (hr : s.time.ready = true) (hh : 1 ≤ s.cylinder.dhwHyst) :
    (s.coolBy 1 → s.gapExpires.evaluate.cylinder = { s.cylinder.moveTo .charging with prio := some s.time.now }) ∧
      (¬ s.coolBy 1 → s.gapExpires.evaluate.cylinder = s.cylinder.moveTo .idle) := by
  have hready : s.gapExpires.time.ready = true := by rw [s.gapExpires_time]; exact hr
  rw [State.evaluate_ready hready]
  refine ⟨fun hcool => ?_, fun hcool => ?_⟩
  · have hcharge : s.gapExpires = s.startCharge := if_pos (s.gapResumes_iff.2 hcool)
    have hnot : ¬ s.startCharge.warmEnough := State.not_warmEnough_of_coolBy (k := 1) (le_refl 1) hcool
    rw [hcharge, State.evalCylinder_charging rfl, if_neg fun h => hnot (State.chargeDone_iff _ |>.1 h)]
    rfl
  · have hwant : ¬ s.chargeWanted = true := fun h => hcool (State.coolBy_mono hh (s.chargeWanted_iff.1 h))
    have hresume : s.gapExpires = s.toIdle := if_neg fun h => hcool (s.gapResumes_iff.1 h)
    have hidle : s.toIdle = { s with cylinder := s.cylinder.moveTo .idle } := if_neg hwant
    rw [hresume, hidle, State.evalCylinder_idle rfl]
    exact if_neg hwant

theorem State.evaluate_charging {s : State} (hr : s.time.ready = true) (hc : s.cylinder.state = .charging)
    (hwarm : ¬ s.warmEnough) : s.evaluate.cylinder = s.cylinder := by
  rw [State.evaluate_ready hr, State.evalCylinder_charging hc, if_neg fun h => hwarm (s.chargeDone_iff.1 h)]

theorem State.evaluate_done {s : State} (hr : s.time.ready = true) (hc : s.cylinder.state = .charging)
    (hwarm : s.warmEnough) (hh : 1 ≤ s.cylinder.dhwHyst) : s.evaluate.cylinder = s.cylinder.moveTo .idle := by
  rw [State.evaluate_ready hr, State.evalCylinder_done hc hwarm hh]

/-- The end of a charge interval: a gap where a room zone is CALLING, else tPRIO runs again (R131). -/
theorem State.evaluate_prioExpires {s : State} (hr : s.time.ready = true) (hc : s.cylinder.state = .charging)
    (hh : 1 ≤ s.cylinder.dhwHyst) :
    (s.anyCalling = true → s.prioExpires.evaluate.cylinder = { s.cylinder.moveTo .gap with gap := some s.time.now }) ∧
      (s.anyCalling = false → ¬ s.warmEnough → s.prioExpires.evaluate.cylinder = { s.cylinder with prio := some s.time.now }) ∧
      (s.anyCalling = false → s.warmEnough → s.prioExpires.evaluate.cylinder = s.cylinder.moveTo .idle) := by
  have hrestart : s.anyCalling = false →
      s.prioExpires = { s with cylinder := { s.cylinder with prio := some s.time.now } } := fun h => if_neg (by simp [h])
  refine ⟨fun h => ?_, fun h hwarm => ?_, fun h hwarm => ?_⟩
  · have hgap : s.prioExpires = { s with cylinder := { s.cylinder.moveTo .gap with gap := some s.time.now } } := if_pos h
    rw [hgap, State.evaluate_waiting (by simp [Cylinder.moveTo]) (by simp [Cylinder.moveTo])]
  · rw [hrestart h]
    exact State.evaluate_charging (s := { s with cylinder := { s.cylinder with prio := some s.time.now } }) hr hc hwarm
  · rw [hrestart h]
    exact State.evaluate_done (s := { s with cylinder := { s.cylinder with prio := some s.time.now } }) hr hc hwarm hh

/-- The channel after a write that does not enable ZW, its intervals taken and its state evaluated (R127 to R132). -/
theorem State.evaluate_shortened {s : State} {items : List Item} (hr : s.time.ready = true) (hh : 1 ≤ s.cylinder.dhwHyst)
    (ht : carries items 19 = true → 1 ≤ s.cylinder.tPrio) :
    (s.prioEnds items → s.anyCalling = true →
      (s.shortened items).evaluate.cylinder = { s.cylinder.moveTo .gap with gap := some s.time.now }) ∧
    (s.prioEnds items → s.anyCalling = false → ¬ s.warmEnough →
      (s.shortened items).evaluate.cylinder = { s.cylinder with prio := some s.time.now }) ∧
    (s.gapEnds items → s.coolBy 1 →
      (s.shortened items).evaluate.cylinder = { s.cylinder.moveTo .charging with prio := some s.time.now }) ∧
    (s.gapEnds items → ¬ s.coolBy 1 → (s.shortened items).evaluate.cylinder = s.cylinder.moveTo .idle) ∧
    (s.cylinder.state = .charging → s.warmEnough → ¬(s.prioEnds items ∧ s.anyCalling = true) →
      (s.shortened items).evaluate.cylinder = s.cylinder.moveTo .idle) ∧
    (s.cylinder.state = .charging → ¬ s.warmEnough → ¬ s.prioEnds items →
      (s.shortened items).evaluate.cylinder = s.cylinder) ∧
    (s.cylinder.state = .idle → s.coolBy s.cylinder.dhwHyst →
      (s.shortened items).evaluate.cylinder = { s.cylinder.moveTo .charging with prio := some s.time.now }) ∧
    (s.cylinder.state = .idle → ¬ s.coolBy s.cylinder.dhwHyst → (s.shortened items).evaluate.cylinder = s.cylinder) ∧
    (s.cylinder.state = .gap → ¬ s.gapEnds items → (s.shortened items).evaluate.cylinder = s.cylinder) ∧
    (s.cylinder.state = .disabled ∨ s.cylinder.state = .fault → (s.shortened items).evaluate.cylinder = s.cylinder) := by
  refine ⟨fun hp hany => ?_, fun hp hany hwarm => ?_, fun hg hcool => ?_, fun hg hcool => ?_, fun hc hwarm hno => ?_,
    fun hc hwarm hp => ?_, fun hi hcool => ?_, fun hi hcool => ?_, fun hgap hg => ?_, fun hstill => ?_⟩
  · rw [State.shortened_prio hp]; exact (State.evaluate_prioExpires hr hp.2.1 hh).1 hany
  · rw [State.shortened_prio hp]; exact (State.evaluate_prioExpires hr hp.2.1 hh).2.1 hany hwarm
  · rw [State.shortened_gap hg ht]; exact (State.evaluate_gapExpires hr hh).1 hcool
  · rw [State.shortened_gap hg ht]; exact (State.evaluate_gapExpires hr hh).2 hcool
  · by_cases hp : s.prioEnds items
    · rw [State.shortened_prio hp]
      exact (State.evaluate_prioExpires hr hc hh).2.2 (by simpa [hp] using hno) hwarm
    · rw [State.shortened_none hp (State.not_gapEnds (by simp [hc]))]; exact State.evaluate_done hr hc hwarm hh
  · rw [State.shortened_none hp (State.not_gapEnds (by simp [hc]))]; exact State.evaluate_charging hr hc hwarm
  · rw [State.shortened_none (State.not_prioEnds (by simp [hi])) (State.not_gapEnds (by simp [hi])), State.evaluate_ready hr,
      State.evalCylinder_idle hi, if_pos (s.chargeWanted_iff.2 hcool)]
  · rw [State.shortened_none (State.not_prioEnds (by simp [hi])) (State.not_gapEnds (by simp [hi])), State.evaluate_ready hr,
      State.evalCylinder_idle hi, if_neg fun h => hcool (s.chargeWanted_iff.1 h)]
  · rw [State.shortened_none (State.not_prioEnds (by simp [hgap])) hg,
      State.evaluate_waiting (by simp [hgap]) (by simp [hgap])]
  · have hno : s.cylinder.state ≠ .charging ∧ s.cylinder.state ≠ .gap ∧ s.cylinder.state ≠ .idle := by
      rcases hstill with h | h <;> simp [h]
    rw [State.shortened_none (State.not_prioEnds hno.1) (State.not_gapEnds hno.2.1),
      State.evaluate_waiting hno.2.2 hno.1]

/-! ### The answer -/

theorem itemClamped_iff {items : List Item} {code : Nat} {lo hi : Int} : itemClamped items code lo hi = true ↔
    ∃ v, item items code = some v ∧ (v < lo ∨ hi < v) := by
  have hclamp : ∀ v : Int, clamp v lo hi ≠ v ↔ (v < lo ∨ hi < v) := fun v => by
    rw [Ne, clamp_eq_self]; omega
  simp [itemClamped, Option.any_eq_true, hclamp]

theorem cylinderLevelClamped_iff (v : Int) : cylinderLevelClamped v = true ↔ (v < 300 ∧ v ≠ 0 ∧ v ≠ -32768) ∨ 650 < v := by
  unfold cylinderLevelClamped
  split
  · next h => simp [h]; omega
  · next h => simp [h]

theorem cylinderClamped_iff (items : List Item) : cylinderClamped items = true ↔
    (∃ v, item items 17 = some v ∧ (v < 20 ∨ 150 < v)) ∨ (∃ v, item items 18 = some v ∧ (v < 50 ∨ 250 < v)) ∨
      (∃ v, item items 19 = some v ∧ (v < 10 ∨ 120 < v)) ∨ (∃ v, item items 20 = some v ∧ (v < 5 ∨ 60 < v)) ∨
      (∃ v, item items 21 = some v ∧ ((v < 300 ∧ v ≠ 0 ∧ v ≠ -32768) ∨ 650 < v)) := by
  simp only [cylinderClamped, Bool.or_eq_true, itemClamped_iff, Option.any_eq_true, cylinderLevelClamped_iff, or_assoc]

theorem takeLevel_elim (items : List Item) (old : Level) :
    takeLevel items old = (item items 21).elim old (fun v => if v < 300 then .off else .deg (min v 650)) := by
  unfold takeLevel
  split
  · next v hv =>
    rw [hv]
    unfold cylinderLevel
    simp only [Option.elim_some]
    split
    · rfl
    · next h => rw [clamp_eq_max_min (by omega)]; congr 1; omega
  · next hv => rw [hv]; rfl

/-- An accepted WRITE of ZW (R7, R127). -/
theorem exec_writeCylinder {key : Word} {items : List Item} {s : State} (ht : s.takes) (hk : key.toNat = 16)
    (hcodes : codesOk cylinderCodes items = true) (hitem : ∀ v, itemNat items 16 = some v → v < 2) :
    ∃ t, t = ((s.received (.writeZone key items)).storeCylinder items).evaluateWrite items (s.received (.writeZone key items)) ∧
      exec (.writeZone key items) s = .next (t.holding (.writeZone key items) (okOrClamped (cylinderClamped items))
        (keyedPayload 16 t.cylinderView 1)) := by
  have hexec : exec (.writeZone key items) s =
      .next (s.command (.writeZone key items) (fun t => t.writeZone key items)) := rfl
  have henum : enumOk items 16 2 = true := by
    unfold enumOk
    cases h : itemNat items 16 with
    | none => rfl
    | some v => simpa using hitem v h
  refine ⟨_, rfl, ?_⟩
  rw [hexec, State.command_of_takes ht, State.writeZone_cylinder _ hk, State.writeCylinder, hcodes, henum]
  rfl

theorem State.settlesTo_evaluateWrite (s : State) (items : List Item) (before : State) :
    s.SettlesTo (s.evaluateWrite items before) := by
  unfold State.evaluateWrite
  split
  · exact s.settlesTo_evaluate
  · exact s.settlesTo_evaluateFrom before

theorem State.evaluateWrite_of_carries {s before : State} {items : List Item}
    (h : ∃ k ∈ [17, 18, 19, 20, 21], carries items k = true) : s.evaluateWrite items before = s.evaluate := by
  refine if_pos ?_
  obtain ⟨k, hk, hc⟩ := h
  simp only [List.mem_cons, List.not_mem_nil, or_false] at hk
  rcases hk with rfl | rfl | rfl | rfl | rfl <;> simp [carriesCylinder, hc]

/-- The ranges that the evaluation after a write relies on (R127). -/
theorem State.channelWritten_bounds {s : State} {items : List Item} (h : 20 ≤ s.cylinder.dhwHyst ∧ s.cylinder.dhwHyst ≤ 150) :
    1 ≤ (s.channelWritten items).dhwHyst ∧ (carries items 19 = true → 1 ≤ (s.channelWritten items).tPrio) := by
  have hfields : (s.channelWritten items).dhwHyst = takeItem items 17 20 150 s.cylinder.dhwHyst ∧
      (s.channelWritten items).tPrio = takeItem items 19 10 120 s.cylinder.tPrio := by
    unfold State.channelWritten State.resolvedChannel Cylinder.written
    split <;> split <;> exact ⟨rfl, rfl⟩
  have hhyst := takeItem_bounds (items := items) (code := 17) (by omega) h
  rw [hfields.1, hfields.2]
  refine ⟨by omega, fun hc => ?_⟩
  obtain ⟨w, hw⟩ : ∃ w, itemWord items 19 = some w := Option.isSome_iff_exists.1 hc
  have hclamp := clamp_bounds (x := w.toInt) (by omega : (10 : Int) ≤ 120)
  simp only [takeItem, item, hw, Option.map_some]
  omega

/-- The fields a write leaves, in the words of R7 and R127. -/
theorem Cylinder.written_eq (c : Cylinder) (items : List Item) : c.written items =
    let old := if c.turnedOff items then c.moveTo .disabled else c
    { old with
      dhwHyst := (item items 17).elim old.dhwHyst (fun v => clamp v 20 150)
      chargeMargin := (item items 18).elim old.chargeMargin (fun v => clamp v 50 250)
      tPrio := (item items 19).elim old.tPrio (fun v => clamp v 10 120)
      tGap := (item items 20).elim old.tGap (fun v => clamp v 5 60)
      defaultTarget := (item items 21).elim old.defaultTarget
        (fun v => if v < 300 then .off else .deg (min v 650)) } := by
  simp only [Cylinder.written, Cylinder.store, takeItem_elim, takeLevel_elim]

/-- Settles O13: the stores of a write are one record (`storeRoom_eq`, `storeFields_cylinder`), resolved and evaluated. -/
theorem writeZone : Obligations.WriteZone := by
  refine ⟨?_, ?_, ?_⟩
  · intro key z items s ht hk hcheck i off on cleared r c written control pends high c' stored u v
    have hpends : goesPending r items = pends := rfl
    have hwritten : storeControl c.control items = written := by
      simp only [storeControl, takeItem_elim, takeEmitter_elim]; rfl
    have hconfig : { storeImmediate c items with
        control := if goesPending r items then c.control else storeControl c.control items } = c' := by
      rw [hwritten, hpends]
      simp only [storeImmediate, takeItem_elim, takeFlag_elim, requestOffAfter_elim]; rfl
    have hstored : r.store items = stored := by
      rw [Zone.store_eq, hconfig, hwritten, hpends]
    have hr : (s.zone z).disabledFirst items = r := rfl
    have hclamped : roomClamped (s.zone z).config items = roomClamped c items := by
      have : c = (s.zone z).config := by simp only [c, r]; split <;> rfl
      rw [this]
    have hview : ((s.zone z).written items).configView = ({ r with config := c' } : Zone).configView := by
      have : ((s.zone z).written items).config = c' := by
        simp only [Zone.written, hr, hstored]; split <;> rfl
      simp only [Zone.configView, this]
    have hexec := roomWrites key z items s ht hk hcheck
    rw [hr, hpends, hclamped, hview] at hexec
    refine ⟨_, hexec, ?_⟩
    have hzone : ((s.received i).zone z).written items = if on then cleared stored .satisfied else stored := by
      rw [← hstored]; rfl
    have hstore : (s.received i).storeRoom z items =
        if off || on || carriesSetpointInput items then v.resolveRoom z else v := by
      rw [State.storeRoom_eq, State.resolveIf_room, hzone]
      rfl
    have hinputs : (off || on || carriesSetpointInput items) =
        (off || on || carries items 8 || carries items 9 || carries items 10 || carries items 15) := by
      simp only [carriesSetpointInput, Bool.or_assoc]
    rw [hinputs] at hstore
    rw [hstore]
    exact State.settlesTo_evaluateFrom _ _
  · intro key items s ht hk hcodes hitem i stopped off on old stored u c now charge below reached prioEnds gapEnds clamped
    obtain ⟨t, hteq, hexec⟩ := exec_writeCylinder ht hk hcodes hitem
    have hoff : s.cylinder.turnedOff items = off := rfl
    have hon : s.cylinder.turnedOn items = on := rfl
    have hwritten : (s.received i).channelWritten items = c := by
      have hstored : s.cylinder.written items = stored := s.cylinder.written_eq items
      unfold State.channelWritten
      rw [show (s.received i).cylinder = s.cylinder from rfl, hstored]
      rfl
    refine ⟨t, _, hexec, fun hclamped => ?_, fun hclamped => ?_, ?_⟩
    · rw [(cylinderClamped_iff items).2 hclamped]; rfl
    · rw [Bool.eq_false_iff.2 fun h => hclamped ((cylinderClamped_iff items).1 h)]; rfl
    cases hturn : on with
    | false =>
      have hstore := State.storeCylinder_of_not_on (s := s.received i) (items := items) hturn
      rw [hwritten] at hstore
      rw [hstore] at hteq
      refine ⟨?_, fun hinv hready hcarries => ⟨nofun, nofun, nofun, fun _ => ?_⟩⟩
      · rw [if_neg (by simp), hteq]
        exact (State.settlesTo_shortened _ items).trans (State.settlesTo_evaluateWrite _ items _)
      · obtain ⟨-, -, h20, h150, -⟩ := hinv
        obtain ⟨hh, hp⟩ := State.channelWritten_bounds (s := s.received i) (items := items) ⟨h20, h150⟩
        rw [hwritten] at hh hp
        rw [hteq, State.evaluateWrite_of_carries hcarries]
        exact State.evaluate_shortened (s := { s.received i with cylinder := c }) hready hh hp
    | true =>
      have hstore := State.storeCylinder_of_on (s := s.received i) (items := items) hturn
      rw [hwritten] at hstore
      rw [hstore] at hteq
      by_cases htc : s.boiler.tc.status = some .ok
      · rw [if_pos (show (s.received i).boiler.tc.status = some .ok from htc)] at hteq
        have hmoved : State.SettlesTo { s.received i with cylinder := c }
            { s.received i with cylinder := c.moveTo .idle } := State.settlesTo_setCylinder { s.received i with cylinder := c } rfl
        rw [if_neg (by simp [htc]), hteq]
        refine ⟨hmoved.trans (State.settlesTo_evaluateWrite _ items _), fun _ hready hcarries => ?_⟩
        rw [State.evaluateWrite_of_carries hcarries,
          State.evaluate_ready (s := { s.received i with cylinder := c.moveTo .idle }) hready, State.evalCylinder_idle rfl]
        have hwant : State.chargeWanted { s.received i with cylinder := c.moveTo .idle } = true ↔ below c.dhwHyst :=
          State.chargeWanted_iff { s.received i with cylinder := c.moveTo .idle }
        refine ⟨fun _ hno => absurd htc hno, fun _ hbelow => ?_, fun _ _ hbelow => ?_, nofun⟩
        · exact if_pos (hwant.2 hbelow)
        · exact if_neg fun k => hbelow (hwant.1 k)
      · rw [if_neg (show ¬ (s.received i).boiler.tc.status = some .ok from htc)] at hteq
        have hmoved : State.SettlesTo (State.raise { s.received i with cylinder := c } .cylinder)
            { (s.received i).raise .cylinder with cylinder := c.moveTo .fault } :=
          State.settlesTo_setCylinder (State.raise { s.received i with cylinder := c } .cylinder) rfl
        rw [if_pos ⟨rfl, htc⟩, hteq]
        refine ⟨hmoved.trans (State.settlesTo_evaluateWrite _ items _), fun _ hready hcarries => ?_⟩
        rw [State.evaluateWrite_of_carries hcarries,
          State.evaluate_waiting (by simp [Cylinder.moveTo]) (by simp [Cylinder.moveTo])]
        exact ⟨fun _ _ => rfl, fun _ hbelow => absurd hbelow.1 htc, fun _ hok => absurd hok htc, nofun⟩
  · obtain ⟨hnotFound, hroom, hcylinder⟩ := writeZone_refusals
    exact ⟨hnotFound, fun key z items s ht hk hbad => hroom key z items s ht hk (roomCheck_eq_false hbad), hcylinder⟩

end Sys2Proof.Machine

/-! ADMIT, and WRITE and RETIRE of device records and join entries (R166, R167, R171, R172). -/

namespace Sys2Proof.Machine

/-! ### The operands of ADMIT -/

theorem admitZone_bad {zone : Byte} (h : 16 ≤ zone.toNat) (hn : zone ≠ 255) : admitZone zone = none := by
  have hne : zone.toNat ≠ 255 := fun e => hn (BitVec.eq_of_toNat_eq e)
  rw [admitZone, dif_neg (by omega), if_neg hne]

theorem admitZone_ok {zone : Byte} {z : Option (Fin 16)} (h : zone.toNat = z.elim 255 Fin.val) : admitZone zone = some z := by
  cases z with
  | none =>
    have h : zone.toNat = 255 := h
    rw [admitZone, dif_neg (by omega), if_pos h]
  | some y =>
    have h : zone.toNat = y.val := h
    have hlt : zone.toNat < 16 := by omega
    rw [admitZone, dif_pos hlt]
    exact congrArg (some ∘ some) (Fin.ext h)

theorem admitZone_isSome {zone : Byte} (h : zone.toNat < 16 ∨ zone = 255) : ∃ z, admitZone zone = some z := by
  rcases h with h | rfl
  · exact ⟨_, by rw [admitZone, dif_pos h]⟩
  · exact ⟨none, rfl⟩

/-- The entry of a serial: serials in the join list are distinct (R161). -/
theorem State.joinOf_eq {s : State} {e : JoinEntry} (hs : s.SerialInv) (he : e ∈ s.bus.joins) :
    s.joinOf e.serial = some e := by
  have hsome : (s.joinOf e.serial).isSome := by
    unfold State.joinOf
    rw [List.find?_isSome]
    exact ⟨e, he, by simp⟩
  obtain ⟨x, hx⟩ := Option.isSome_iff_exists.1 hsome
  obtain ⟨hmem, hserial⟩ := State.joinOf_spec hx
  obtain ⟨-, hnodup, -⟩ := serialsNodup_iff.1 hs.1
  rw [hx, List.inj_on_of_nodup_map hnodup hmem he hserial]

theorem State.joinOf_eq_none {s : State} {serial : BitVec 32} (h : ∀ e ∈ s.bus.joins, e.serial ≠ serial) :
    s.joinOf serial = none := by
  unfold State.joinOf
  rw [List.find?_eq_none]
  exact fun e he => by simpa using h e he

theorem State.freeSlot_eq_none {s : State} (h : ∀ j : Fin 48, s.device j ≠ none) : s.freeSlot = none := by
  unfold State.freeSlot
  rw [List.find?_eq_none]
  exact fun j _ => by simpa [Option.isNone_iff_eq_none] using h j

/-- The lowest free slot. -/
theorem State.freeSlot_eq {s : State} {j : Fin 48} (hj : s.device j = none) (hlow : ∀ k : Fin 48, k < j → s.device k ≠ none) :
    s.freeSlot = some j := by
  unfold State.freeSlot slots
  rw [List.find?_eq_some_iff_getElem]
  refine ⟨by simp [hj], j.val, by simp, by simp, fun k hk => ?_⟩
  have := hlow ⟨k, hk.trans j.isLt⟩ hk
  simpa [Option.isSome_iff_ne_none] using this

theorem State.zoneFull_iff (s : State) (z : Option (Fin 16)) (kind : DeviceKind) : s.zoneFull z kind = true ↔
    ∃ y, z = some y ∧ ((kind = .valveHead ∧ 6 ≤ (s.zone y).valves) ∨
      (kind ≠ .valveHead ∧ 2 ≤ (s.zone y).sensors + (s.zone y).units)) := by
  cases z with
  | none => simp [State.zoneFull]
  | some y => cases kind <;> simp [State.zoneFull, Zone.atLimit]

/-! ### The answer of ADMIT -/

theorem nat_hi {n : Nat} (h : n < 256) : (nat n).hi = 0 := by
  apply BitVec.eq_of_toNat_eq
  simp [nat, Word.hi, Nat.shiftRight_eq_div_pow]
  omega

theorem nat_lo (n : Nat) : (nat n).lo = byte1 n := by
  apply BitVec.eq_of_toNat_eq
  simp [nat, Word.lo, byte1]

/-- The answer of an accepted ADMIT carries the first field 1, the slot as key, then slot and address (R167). -/
theorem admitPayload (s : State) (j : Fin 48) (d : Device) :
    ((keyedPayload (nat j.val) (s.deviceView j d) 1).drop 1).take 7 =
      [1, 0, byte1 j.val, 0, byte1 j.val, 0, byte1 (j.val + 1)] := by
  have hslot : (nat j.val).hi = 0 := nat_hi (by omega)
  have haddress : (nat (j.val + 1)).hi = 0 := nat_hi (by omega)
  have hbytes : ((keyedPayload (nat j.val) (s.deviceView j d) 1).drop 1).take 7 =
      [1, (nat j.val).hi, (nat j.val).lo, (nat j.val).hi, (nat j.val).lo, (nat (j.val + 1)).hi, (nat (j.val + 1)).lo] := rfl
  rw [hbytes, hslot, haddress, nat_lo, nat_lo]

/-! ### ADMIT -/

theorem exec_admit (serial : BitVec 32) (zone : Byte) (s : State) : exec (.admitDevice serial zone) s =
    .next (s.command (.admitDevice serial zone) (fun t => t.admitDevice serial zone)) := rfl

section
variable {s : State} {serial : BitVec 32} {zone : Byte} {z : Option (Fin 16)} {e : JoinEntry} {j : Fin 48}

theorem State.admitDevice_noEntry (hz : admitZone zone = some z) (hj : s.joinOf serial = none) :
    s.admitDevice serial zone = refuse .notFound s := by simp only [State.admitDevice, hz, hj]

theorem State.admitDevice_noSlot (hz : admitZone zone = some z) (hj : s.joinOf serial = some e) (hf : s.freeSlot = none) :
    s.admitDevice serial zone = refuse .full s := by simp only [State.admitDevice, hz, hj, hf]

theorem State.admitDevice_slot (hz : admitZone zone = some z) (hj : s.joinOf serial = some e) (hf : s.freeSlot = some j) :
    s.admitDevice serial zone = if s.zoneFull z e.kind then refuse .zoneFull s
      else (s.admitAt j e z, .record .ok (nat j.val) ((s.admitAt j e z).deviceView j (Device.admitted e z))) := by
  simp only [State.admitDevice, hz, hj, hf]

end

/-- A free slot's number stands in no admission order. -/
theorem AdmissionInv.not_mem_order {s : State} (h : s.AdmissionInv) {j : Fin 48} (hj : s.device j = none) :
    j ∉ s.registry.order := by
  rw [h.2.1 j]
  simp [State.pendingAt, hj]

/-- Settles O50: the four refusals by the operand that fails, and the record by `admitRecord_eq`. -/
theorem admitCreatesRecord : Obligations.AdmitCreatesRecord := by
  intro serial zone s ht hadm hserial i full
  refine ⟨fun h16 hne => exec_refused ht rfl ?_, fun hzone => ?_⟩
  · unfold State.admitDevice; rw [admitZone_bad h16 hne]
  obtain ⟨y, hy⟩ := admitZone_isSome hzone
  refine ⟨fun hno => exec_refused ht rfl ?_, fun e he hes => ?_⟩
  · exact State.admitDevice_noEntry (s := s.received i) hy (State.joinOf_eq_none hno)
  subst hes
  have hentry : (s.received i).joinOf e.serial = some e := State.joinOf_eq (s := s.received i) hserial he
  refine ⟨fun hfull => exec_refused ht rfl ?_, fun j z hj hlow hz => ?_⟩
  · exact State.admitDevice_noSlot hy hentry (State.freeSlot_eq_none (s := s.received i) hfull)
  have hbody := State.admitDevice_slot (admitZone_ok hz) hentry (State.freeSlot_eq (s := s.received i) hj hlow)
  refine ⟨fun hlimit => exec_refused ht rfl ?_, fun hlimit => ?_⟩
  · exact hbody.trans (if_pos (((s.received i).zoneFull_iff z e.kind).2 hlimit))
  have hroom : ¬ (s.received i).zoneFull z e.kind = true := fun h => by
    obtain ⟨y, hy, hfull⟩ := ((s.received i).zoneFull_iff z e.kind).1 h
    exact hlimit y hy hfull
  rw [if_neg hroom] at hbody
  refine ⟨(s.received i).admitAt j e z, _, ?_, admitPayload ((s.received i).admitAt j e z) j (Device.admitted e z), ?_⟩
  · rw [exec_admit, State.command_of_takes ht, hbody]; rfl
  · have hrecord := (s.received i).admitRecord_eq j e z
    rw [if_neg (AdmissionInv.not_mem_order (s := s.received i) hadm hj)] at hrecord
    have hsettles : ((s.received i).admitRecord j e z).SettlesTo ((s.received i).admitAt j e z) :=
      (State.settlesTo_joinForcing _ j).trans (State.settlesTo_evaluateFrom _ _)
    rw [hrecord] at hsettles
    cases z <;> exact hsettles

/-! ### WRITE of a device record -/

theorem slotKey_eq {key : Word} {i : Fin 48} (h : key.toNat = i.val) : slotKey key.toNat = some i := by
  have hlt : key.toNat < 48 := by omega
  rw [slotKey, dif_pos hlt]
  exact congrArg some (Fin.ext h)

theorem State.deviceOf_eq {s : State} {key : Word} {i : Fin 48} {d : Device} (hk : key.toNat = i.val)
    (hd : s.device i = some d) : s.deviceOf key = some (i, d) := by
  rw [State.deviceOf, slotKey_eq hk]
  simp [hd]

theorem State.deviceOf_eq_none {s : State} {key : Word} (h : ∀ i : Fin 48, key.toNat = i.val → s.device i = none) :
    s.deviceOf key = none := by
  unfold State.deviceOf slotKey
  split
  · next hlt => simp [h ⟨key.toNat, hlt⟩ rfl]
  · rfl

theorem roomOrNone_bad {w : Word} (h : 16 ≤ w.toNat) (hn : w ≠ 0x8000) : roomOrNone w = none := by
  rw [roomOrNone, dif_neg (by omega)]
  exact if_neg hn

theorem roomOrNone_ok {w : Word} {z : Option (Fin 16)} (h : w.toNat = z.elim 0x8000 Fin.val) : roomOrNone w = some z := by
  cases z with
  | none =>
    have h : w.toNat = 0x8000 := h
    have hw : w = 0x8000#16 := BitVec.eq_of_toNat_eq h
    rw [roomOrNone, dif_neg (by omega), if_pos hw]
  | some y =>
    have h : w.toNat = y.val := h
    have hlt : w.toNat < 16 := by omega
    rw [roomOrNone, dif_pos hlt]
    exact congrArg (some ∘ some) (Fin.ext h)

theorem boundItem_single (w : Word) (old : Option (Fin 16)) : boundItem [⟨4, w⟩] old = roomOrNone w := rfl

theorem boundItem_bad {items : List Item} (h : ∃ x ∈ items, x.code ≠ 0 ∧ x.code ≠ 4) (old : Option (Fin 16)) :
    boundItem items old = none := by
  obtain ⟨x, hx, hne, h4⟩ := h
  have hno : x.code.toNat ∉ [4] := by
    simp only [List.mem_singleton]
    exact fun e => h4 (BitVec.eq_of_toNat_eq e)
  rw [boundItem, codesOk_eq_false hx hne hno]
  rfl

theorem State.writeDevice_of {s : State} {key : Word} {i : Fin 48} {d : Device} (hk : key.toNat = i.val)
    (hd : s.device i = some d) (items : List Item) : s.writeDevice key items = s.rebindOr i d items := by
  unfold State.writeDevice; rw [State.deviceOf_eq hk hd]

/-- WRITE of the bound zone alone, its code in range (R171). -/
theorem State.rebindOr_single (s : State) (i : Fin 48) (d : Device) {w : Word} {z : Option (Fin 16)}
    (hz : w.toNat = z.elim 0x8000 Fin.val) : s.rebindOr i d [⟨4, w⟩] =
    if d.state = .retiring then refuse .state s
    else if z = d.zone then s.answerDevice i
    else if s.zoneFull z d.kind then refuse .zoneFull s
    else (s.rebind i d z).answerDevice i := by
  unfold State.rebindOr; rw [boundItem_single, roomOrNone_ok hz]

theorem State.settlesTo_rebind (s : State) (i : Fin 48) (d : Device) (zone : Option (Fin 16)) :
    (((s.setDevice i (some { d with zone := zone })).dropMember d.zone d.kind).addMember zone d.kind).SettlesTo
      (s.rebind i d zone) :=
  (State.settlesTo_joinForcing _ i).trans (State.settlesTo_evaluateFrom _ s)

/-! ### RETIRE of a device record and of a join entry -/

/-- A retirement writes the record, the queue and the tokens, and takes the record out of the order (R172, R181, R188). -/
theorem State.settlesTo_retire (s : State) (i : Fin 48) (d : Device) :
    (if d.state = .admitted then
        (State.setDevice { s with motor := { s.motor with
          queue := s.motor.queue.filter (fun e => e.slot != i)
          outstanding := s.motor.outstanding - (if d.grant.isSome then 1 else 0) } } i
          (some { d with state := .retiring, grant := none, next := none, exercisePhase := .none })).leaveOrder i
      else State.setDevice { s with motor := { s.motor with
          queue := s.motor.queue.filter (fun e => e.slot != i)
          outstanding := s.motor.outstanding - (if d.grant.isSome then 1 else 0) } } i
          (some { d with state := .retiring, grant := none, next := none, exercisePhase := .none })).SettlesTo
      (s.retire i d) := by
  have hgrant : (s.setQueue (dequeue s.motor.queue i)).endGrant i { d with state := .retiring } =
      State.setDevice { s with motor := { s.motor with
        queue := s.motor.queue.filter (fun e => e.slot != i)
        outstanding := s.motor.outstanding - (if d.grant.isSome then 1 else 0) } } i
        (some { d with state := .retiring, grant := none, next := none, exercisePhase := .none }) := by
    rw [State.endGrant_eq]
    cases hg : d.grant <;> rfl
  unfold State.retire
  rw [hgrant]
  exact State.settlesTo_evaluateFrom _ s

theorem State.retireDevice_of {s : State} {key : Word} {i : Fin 48} {d : Device} (hk : key.toNat = i.val)
    (hd : s.device i = some d) :
    s.retireDevice key = if d.state = .retiring then (s, .plain .ok) else (s.retire i d, .plain .ok) := by
  unfold State.retireDevice; rw [State.deviceOf_eq hk hd]

theorem State.joinEntry_eq_none {s : State} {n : Nat} (h : ∀ e ∈ s.bus.joins, e.number ≠ n) : s.joinEntry n = none := by
  unfold State.joinEntry
  rw [List.find?_eq_none]
  exact fun e he => by simpa using h e he

theorem State.retireJoin_of {s : State} {key : Word} {e : JoinEntry} (he : e ∈ s.bus.joins) (hn : e.number = key.toNat) :
    s.retireJoin key = (s.dropJoin key.toNat, .plain .ok) := by
  have hsome : (s.joinEntry key.toNat).isSome := by
    unfold State.joinEntry
    rw [List.find?_isSome]
    exact ⟨e, he, by simpa using hn⟩
  obtain ⟨x, hx⟩ := Option.isSome_iff_exists.1 hsome
  have hnumber : x.number = key.toNat := by simpa using List.find?_some hx
  unfold State.retireJoin
  rw [hx]
  simp only [hnumber]

/-- Settles O51: the record that the key names, then the refusals in the model's order, then what is written. -/
theorem deviceAndJoinRecords : Obligations.DeviceAndJoinRecords := by
  refine ⟨⟨fun key items s ht hno => exec_refused ht rfl ?_, ?_⟩, fun key s ht hno => exec_refused ht rfl ?_, ?_, ?_⟩
  · unfold State.writeDevice; rw [State.deviceOf_eq_none (s := s.received _) hno]
  · intro key w i d s ht hk hd c full
    have hexec : exec c s = .next (s.command c (fun t => t.writeDevice key [⟨4, w⟩])) := rfl
    have hbody := State.writeDevice_of (s := s.received c) hk hd [⟨4, w⟩]
    refine ⟨fun items hbad => ?_, fun h16 hne => exec_refused ht rfl (hbody.trans ?_), fun z hz => ?_⟩
    · refine exec_refused ht rfl ((State.writeDevice_of (s := s.received _) hk hd items).trans ?_)
      unfold State.rebindOr; rw [boundItem_bad hbad]
    · unfold State.rebindOr; rw [boundItem_single, roomOrNone_bad h16 hne]
    rw [State.rebindOr_single _ i d hz] at hbody
    refine ⟨fun hr => exec_refused ht rfl (hbody.trans (if_pos hr)), fun hr hz => ?_, fun hr hz hfull => ?_,
      fun hr hz hfull => ?_⟩
    · rw [if_neg hr, if_pos hz] at hbody
      rw [hexec, State.command_of_takes ht, hbody]
      exact ⟨_, rfl⟩
    · rw [if_neg hr, if_neg hz] at hbody
      exact exec_refused ht rfl (hbody.trans (if_pos (((s.received c).zoneFull_iff z d.kind).2 hfull)))
    · have hroom : ¬ (s.received c).zoneFull z d.kind = true := fun h => by
        obtain ⟨y, hy, hlimit⟩ := ((s.received c).zoneFull_iff z d.kind).1 h
        exact hfull y hy hlimit
      rw [if_neg hr, if_neg hz, if_neg hroom] at hbody
      rw [hexec, State.command_of_takes ht, hbody]
      exact ⟨(s.received c).rebind i d z, _, rfl, State.settlesTo_rebind _ i d z⟩
  · unfold State.retireDevice; rw [State.deviceOf_eq_none (s := s.received _) hno]
  · intro key i d s ht hk hd c
    have hexec : exec c s = .next (s.command c (fun t => t.retireDevice key)) := rfl
    have hbody := State.retireDevice_of (s := s.received c) hk hd
    refine ⟨fun hr => ?_, fun hr => ⟨(s.received c).retire i d, ?_, State.settlesTo_retire (s.received c) i d⟩⟩
    · rw [hexec, State.command_of_takes ht, hbody, if_pos hr]; rfl
    · rw [hexec, State.command_of_takes ht, hbody, if_neg hr]; rfl
  · intro key s ht c
    have hexec : exec c s = .next (s.command c (fun t => t.retireJoin key)) := rfl
    refine ⟨fun hno => exec_refused ht rfl ?_, ?_⟩
    · unfold State.retireJoin; rw [State.joinEntry_eq_none (s := s.received c) hno]
    · intro e he hn joins
      rw [hexec, State.command_of_takes ht, State.retireJoin_of (s := s.received c) he hn]
      rfl

end Sys2Proof.Machine

/-! The warm reset block by block (R22, R63, R77, R126, R139, R160, R176, R195), and the power-on reset with its first
READY (R207). -/

namespace Sys2Proof.Machine

/-! ### The warm reset -/

theorem Zone.warm_eq (r : Zone) : r.warm = { r with
    state := if r.state = .disabled then .disabled else .satisfied
    pending := none, demand := 0, previous := 0, integral := 0, temp := none, tempSource := .none, ownTarget := 0 } := by
  have h : (if r.enabled = true then ZoneState.satisfied else .disabled) =
      if r.state = .disabled then .disabled else .satisfied := by
    cases hs : r.state <;> simp [Zone.enabled, hs]
  unfold Zone.warm
  rw [h]
  rfl

theorem Device.warm_state (d : Device) : (d.state = .retiring → d.warm.state = .retiring ∧ d.warm.misses = d.misses) ∧
    (d.state ≠ .retiring → d.warm.state = .stale ∧ d.warm.misses = 5) := by
  unfold Device.warm
  dsimp only
  refine ⟨fun h => ?_, fun h => ?_⟩
  · rw [if_pos h]; split <;> exact ⟨h, rfl⟩
  · rw [if_neg h]; exact ⟨rfl, rfl⟩

theorem Device.warm_valve {d : Device} (h : d.kind = .valveHead) : d.warm.commanded = none ∧ d.warm.grant = none ∧
    d.warm.next = none ∧ d.warm.exercisePhase = .none ∧ d.warm.failureRun = 0 := by
  unfold Device.warm
  rw [h]
  dsimp only
  split <;> exact ⟨rfl, rfl, rfl, rfl, rfl⟩

/-- The fields that a warm reset leaves in every record (R176, R195). -/
theorem Device.warm_kept (d : Device) : d.warm = { d.warm with
    serial := d.serial, kind := d.kind, zone := d.zone, lastTemp := d.lastTemp, bad := d.bad, lastSeq := d.lastSeq
    target := d.target, reported := d.reported, motor := d.motor, exerciseAge := d.exerciseAge } := by
  unfold Device.warm
  dsimp only
  split <;> split <;> rfl

/-- Settles O6: each block's warm reset as its chapter gives it. -/
theorem warmReset : Obligations.WarmReset := by
  refine ⟨fun s ht => ?_, fun d => ?_⟩
  · have hexec : exec .warmReset s = .next (s.command .warmReset (fun t => (t.warm, .plain .ok))) := rfl
    rw [State.command_of_takes ht] at hexec
    refine ⟨_, hexec, rfl, rfl, rfl, rfl, rfl, rfl, rfl, rfl, rfl, rfl, rfl, rfl, fun z => ?_, fun z => ?_, rfl, rfl, ?_, rfl,
      rfl, rfl, rfl, rfl, rfl, rfl, rfl, rfl, fun i => ?_, rfl, rfl, rfl, rfl, rfl⟩
    · exact ((s.received .warmReset).warmZones_zone z).trans (Zone.warm_eq _)
    · exact mapTable_get _ _ z
    · exact Cylinder.warm_eq _
    · exact mapTable_get _ _ i
  · obtain ⟨hretiring, hstale⟩ := d.warm_state
    refine ⟨hretiring, hstale, Device.warm_valve, ?_⟩
    rw [d.warm_kept]
    exact ⟨rfl, rfl, rfl, rfl, rfl, rfl, rfl, rfl, rfl, rfl⟩

end Sys2Proof.Machine

/-! The burner at rest (OFF, LOCKED_OUT, SENSOR_FAULT) under evaluations and samples (R100 to R102, R111), and READY
after POWER_ON_RESET (R207). -/

namespace Sys2Proof.Machine

/-! ### Notices stay set (R206) -/

/-- Every notice of the first state is one of the second. -/
def NoticesKept (s t : State) : Prop := ∀ n : Notice, s.raised n = true → t.raised n = true

theorem NoticesKept.of_link {s t : State} (h : t.link = s.link) : NoticesKept s t := fun n hn => by
  rw [State.raised, h]; exact hn

theorem NoticesKept.trans {s t u : State} (h : NoticesKept s t) (k : NoticesKept t u) : NoticesKept s u :=
  fun n hn => k n (h n hn)

theorem State.raised_raise (s : State) (n : Notice) : (s.raise n).raised n = true := by
  have h : n.bit < 11 := by cases n <;> decide
  simp [State.raised, Notice.mask, h]

theorem noticesKept_raise (s : State) (n : Notice) : NoticesKept s (s.raise n) := fun m hm => by
  have hm : s.link.flags.getLsbD m.bit = true := hm
  simp [State.raised, hm]

theorem noticesKept_raiseIf (s : State) (b : Bool) (n : Notice) : NoticesKept s (s.raiseIf b n) := by
  cases b with
  | true => exact noticesKept_raise s n
  | false => exact NoticesKept.of_link rfl

/-! ### The burner at rest -/

/-- The burner waits for no evaluation. -/
def Boiler.resting (b : Boiler) : Prop := b.burner = .off ∨ b.burner = .lockedOut ∨ b.burner = .sensorFault

/-- What evaluations write of a boiler whose burner is at rest: the reported check, the pump and forcing. -/
def Boiler.RestsTo (b c : Boiler) : Prop := c = { b with reported := c.reported, pump := c.pump, forcing := c.forcing }

theorem Boiler.RestsTo.trans {b c d : Boiler} (h : b.RestsTo c) (k : c.RestsTo d) : b.RestsTo d := by
  unfold Boiler.RestsTo at h k ⊢
  rw [k, h]

theorem Boiler.restsTo_refl (b : Boiler) : b.RestsTo b := rfl

theorem Boiler.RestsTo.resting {b c : Boiler} (h : b.RestsTo c) (hb : b.resting) : c.resting := by
  unfold Boiler.RestsTo at h
  unfold Boiler.resting
  rw [h]; exact hb

@[simp] theorem State.evalCylinder_boiler (s : State) : s.evalCylinder.boiler = s.boiler := by
  unfold State.evalCylinder State.toIdle State.evalIdle State.startCharge
  repeat' split
  all_goals rfl

theorem State.restsTo_evalReported (s : State) : s.boiler.RestsTo s.evalReported.boiler := by
  rw [s.evalReported_eq]; rfl

theorem State.evalBurner_of_resting {s : State} (h : s.boiler.resting) : s.evalBurner = s := by
  unfold State.evalBurner
  rcases h with h | h | h <;> rw [h]

theorem State.restsTo_evalPump (s : State) : s.boiler.RestsTo s.evalPump.boiler := by
  unfold State.evalPump
  repeat' split
  all_goals rfl

theorem State.setAndHands_boiler (s : State) (c : Class) (t : Int) (l : List (Fin 48)) :
    (l.foldl (State.setAndHand c t) s).boiler = s.boiler :=
  foldl_leaves State.boiler (fun s i => s.setAndHand_boiler c t i) l s

theorem State.restsTo_evalForcing (s : State) : s.boiler.RestsTo s.evalForcing.boiler := by
  unfold State.evalForcing State.beginForcing State.endForcing
  repeat' split
  all_goals first
    | rfl
    | rw [State.setAndHands_boiler]; rfl

/-- A burner at rest stays at rest in an evaluation (R111). -/
theorem State.restsTo_evaluate {s : State} (h : s.boiler.resting) : s.boiler.RestsTo s.evaluate.boiler := by
  unfold State.evaluate
  split
  · have h1 : s.boiler.RestsTo s.evalCylinder.evalReported.boiler := by
      have := s.evalCylinder.restsTo_evalReported
      rwa [State.evalCylinder_boiler] at this
    rw [State.evalBurner_of_resting (h1.resting h)]
    exact ((h1.trans (State.restsTo_evalReported _)).trans (State.restsTo_evalPump _)).trans (State.restsTo_evalForcing _)
  · exact s.boiler.restsTo_refl

/-! ### A sample -/

/-- The three inputs of a sample, before the evaluations (R100). -/
def State.sampled (s : State) (tflow tout tcyl : Int) : State :=
  ((s.sampleFlow tflow).sampleOutdoor tout).sampleCylinder tcyl

theorem State.takeSample_eq (s : State) (tflow tout tcyl : Int) :
    s.takeSample tflow tout tcyl = (s.sampled tflow tout tcyl).evaluate := rfl

/-- What a sample's inputs may write: the boiler, the channel's state and timers, and notices. -/
def State.SamplesTo (s t : State) : Prop := t = { s with
  boiler := t.boiler
  cylinder := { s.cylinder with
    state := t.cylinder.state, prio := t.cylinder.prio, gap := t.cylinder.gap, recovery := t.cylinder.recovery }
  link := t.link }

theorem State.SamplesTo.trans {s t u : State} (h : s.SamplesTo t) (k : t.SamplesTo u) : s.SamplesTo u := by
  unfold State.SamplesTo at h k ⊢
  rw [k, h]

theorem State.samplesTo_boiler (s : State) (b : Boiler) : s.SamplesTo (s.setBoiler b) := rfl

theorem State.samplesTo_burnerSample (s : State) (reading : Int) : s.SamplesTo (s.burnerSample reading) := by
  unfold State.burnerSample
  split <;> first | rfl | (split <;> rfl)

theorem State.samplesTo_raiseIf (s : State) (b : Bool) (n : Notice) : s.SamplesTo (s.raiseIf b n) := by
  cases b <;> rfl

theorem State.samplesTo_channelSample (s : State) : s.SamplesTo s.channelSample := by
  unfold State.channelSample
  split <;> first | rfl | (split <;> rfl)

theorem State.samplesTo_sampled (s : State) (tflow tout tcyl : Int) : s.SamplesTo (s.sampled tflow tout tcyl) := by
  have hflow : s.SamplesTo (s.sampleFlow tflow) := (s.samplesTo_boiler _).trans (State.samplesTo_burnerSample _ tflow)
  have hout : (s.sampleFlow tflow).SamplesTo ((s.sampleFlow tflow).sampleOutdoor tout) :=
    (State.samplesTo_boiler _ _).trans (State.samplesTo_raiseIf _ _ _)
  exact (hflow.trans hout).trans ((State.samplesTo_boiler _ _).trans (State.samplesTo_channelSample _))

theorem noticesKept_burnerSample (s : State) (reading : Int) : NoticesKept s (s.burnerSample reading) := by
  unfold State.burnerSample
  split
  · exact NoticesKept.of_link rfl
  · exact NoticesKept.of_link rfl
  · exact (NoticesKept.of_link rfl : NoticesKept s (s.setBoiler _)).trans (noticesKept_raise _ _)
  · exact NoticesKept.of_link rfl
  · split <;> exact NoticesKept.of_link rfl
  · exact NoticesKept.of_link rfl

theorem noticesKept_channelSample (s : State) : NoticesKept s s.channelSample := by
  have hfault : NoticesKept s s.cylinderFault := fun n hn =>
    noticesKept_raise { s with cylinder := s.cylinder.moveTo .fault } .cylinder n hn
  unfold State.channelSample
  split
  · exact hfault
  · exact hfault
  · exact hfault
  · exact NoticesKept.of_link rfl
  · split <;> exact NoticesKept.of_link rfl
  · exact NoticesKept.of_link rfl

theorem noticesKept_setBoiler (s : State) (b : Boiler) : NoticesKept s (s.setBoiler b) := NoticesKept.of_link rfl

theorem noticesKept_sampled (s : State) (tflow tout tcyl : Int) : NoticesKept s (s.sampled tflow tout tcyl) :=
  ((((noticesKept_setBoiler s _).trans (noticesKept_burnerSample _ tflow)).trans (noticesKept_setBoiler _ _)).trans
    (noticesKept_raiseIf _ _ _)).trans ((noticesKept_setBoiler _ _).trans (noticesKept_channelSample _))

/-! ### The boiler after a sample -/

theorem State.raiseIf_boiler (s : State) (b : Bool) (n : Notice) : (s.raiseIf b n).boiler = s.boiler := by
  cases b <;> rfl

theorem State.channelSample_boiler (s : State) : s.channelSample.boiler = s.boiler := by
  unfold State.channelSample
  split <;> first | rfl | (split <;> rfl)

/-- A sample stores the three inputs over what the TF sample made of the burner. -/
theorem State.sampled_boiler (s : State) (tflow tout tcyl : Int) : (s.sampled tflow tout tcyl).boiler =
    { (s.sampleFlow tflow).boiler with
      tout := takeSensor (s.sampleFlow tflow).boiler.tout tout
      outdoorHold := (s.sampleFlow tflow).holdAfter (takeSensor (s.sampleFlow tflow).boiler.tout tout)
      tc := takeSensor (s.sampleFlow tflow).boiler.tc tcyl } := by
  unfold State.sampled State.sampleCylinder
  rw [State.channelSample_boiler]
  unfold State.sampleOutdoor
  dsimp only
  rw [State.raiseIf_boiler, State.setBoiler_boiler]
  rfl

/-- The TF sample leaves sensors, start list, attempts and the LOCKOUT level. -/
theorem State.burnerSample_kept (s : State) (reading : Int) : (s.burnerSample reading).boiler = { s.boiler with
    burner := (s.burnerSample reading).boiler.burner, lastStop := (s.burnerSample reading).boiler.lastStop
    minOn := (s.burnerSample reading).boiler.minOn, waitFlow := (s.burnerSample reading).boiler.waitFlow
    recovery := (s.burnerSample reading).boiler.recovery } := by
  unfold State.burnerSample
  split <;> first | rfl | (split <;> rfl)

theorem State.sampled_sensors (s : State) (tflow tout tcyl : Int) :
    (s.sampled tflow tout tcyl).boiler.tf = takeSensor s.boiler.tf tflow ∧
    (s.sampled tflow tout tcyl).boiler.tout = takeSensor s.boiler.tout tout ∧
    (s.sampled tflow tout tcyl).boiler.tc = takeSensor s.boiler.tc tcyl := by
  rw [State.sampled_boiler]
  unfold State.sampleFlow
  rw [State.burnerSample_kept]
  exact ⟨rfl, rfl, rfl⟩

theorem State.sampled_counts (s : State) (tflow tout tcyl : Int) :
    (s.sampled tflow tout tcyl).boiler.startList = s.boiler.startList ∧
    (s.sampled tflow tout tcyl).boiler.attempts = s.boiler.attempts := by
  rw [State.sampled_boiler]
  unfold State.sampleFlow
  rw [State.burnerSample_kept]
  exact ⟨rfl, rfl⟩

/-- What a TF reading makes of a burner at rest: an OFF burner falls into SENSOR_FAULT with the reading (R102). -/
theorem State.burnerSample_resting {s : State} (h : s.boiler.resting) (reading : Int) :
    (s.burnerSample reading).boiler.lastStop = s.boiler.lastStop ∧
    (s.boiler.burner ≠ .off → (s.burnerSample reading).boiler.burner = s.boiler.burner) ∧
    (s.boiler.burner = .off → s.boiler.tf.status = some .fault →
      (s.burnerSample reading).boiler.burner = .sensorFault ∧ (s.burnerSample reading).raised .boiler = true) ∧
    (s.boiler.burner = .off → s.boiler.tf.status ≠ some .fault → (s.burnerSample reading).boiler.burner = .off) := by
  have hstop : s.stopTime = s.boiler.lastStop := if_neg (by rcases h with h | h | h <;> simp [h])
  unfold State.burnerSample
  split
  · next hb => exact ⟨rfl, fun _ => rfl, fun k => by simp [hb] at k, fun k => by simp [hb] at k⟩
  · next hb => exact ⟨rfl, fun _ => rfl, fun k => by simp [hb] at k, fun k => by simp [hb] at k⟩
  · next hs hlocked hsensor =>
    have hoff : s.boiler.burner = .off := (h.resolve_right fun k => k.elim hlocked hsensor)
    exact ⟨hstop, fun k => absurd hoff k, fun _ _ => ⟨rfl, State.raised_raise _ _⟩, fun _ k => absurd hs k⟩
  · next hb _ => exact ⟨rfl, fun _ => rfl, fun k => by simp [hb] at k, fun k => by simp [hb] at k⟩
  · next hb _ => exact absurd h (by simp [Boiler.resting, hb])
  · next hnoFault _ _ _ _ => exact ⟨rfl, fun _ => rfl, fun _ k => absurd k hnoFault, fun k _ => k⟩

theorem State.sampled_burner {s : State} (h : s.boiler.resting) (tflow tout tcyl : Int) :
    (s.sampled tflow tout tcyl).boiler.lastStop = s.boiler.lastStop ∧
    (s.boiler.burner ≠ .off → (s.sampled tflow tout tcyl).boiler.burner = s.boiler.burner) ∧
    (s.boiler.burner = .off → (takeSensor s.boiler.tf tflow).status = some .fault →
      (s.sampled tflow tout tcyl).boiler.burner = .sensorFault ∧ (s.sampled tflow tout tcyl).raised .boiler = true) ∧
    (s.boiler.burner = .off → (takeSensor s.boiler.tf tflow).status ≠ some .fault →
      (s.sampled tflow tout tcyl).boiler.burner = .off) := by
  obtain ⟨hstop, hother, hfault, hok⟩ := State.burnerSample_resting (s := s.setBoiler
    { s.boiler with tf := takeSensor s.boiler.tf tflow }) h tflow
  rw [State.sampled_boiler]
  have hkept : NoticesKept (s.sampleFlow tflow) (s.sampled tflow tout tcyl) :=
    ((noticesKept_setBoiler _ _).trans (noticesKept_raiseIf _ _ _)).trans
      ((noticesKept_setBoiler _ _).trans (noticesKept_channelSample _))
  exact ⟨hstop, hother, fun k ks => ⟨(hfault k ks).1, hkept _ (hfault k ks).2⟩, hok⟩

/-! ### POWER_ON_RESET, the release and the first READY -/

/-- An OFF burner as READY sets: LOCKED_OUT with LOCKOUT asserted, else OFF still (R115, R125). -/
theorem State.readyLockout_off {s : State} (h : s.boiler.burner = .off) :
    s.readyLockout = if s.boiler.lockoutPin = true then s.lockOut else s := by
  have hne : ¬ s.boiler.burner = .lockedOut := by simp [h]
  unfold State.readyLockout
  rw [if_neg hne, if_neg fun k : s.boiler.burner = .lockedOut ∧ _ => hne k.1]

theorem State.stopAtReady_off {s : State} (h : s.boiler.burner = .off) :
    s.stopAtReady = s.setBoiler { s.boiler with lastStop := s.time.now } := if_pos h

theorem State.lockOut_boiler {s : State} (h : s.boiler.burner ≠ .firing) :
    s.lockOut.boiler = s.boiler.moveTo .lockedOut := by
  have hstop : s.stopTime = s.boiler.lastStop := if_neg h
  unfold State.lockOut
  rw [hstop]; rfl

/-- A burner left OFF as READY sets: tBOFF counts from now, and LOCKOUT is taken (R115, R125, R126). -/
theorem State.readied_off {s : State} (hb : s.boiler.burner = .off) : ∃ u : State, s.stopAtReady.readyLockout = u ∧
    u = { s with boiler := u.boiler, link := u.link } ∧ (u.boiler.lastStop = s.time.now ∧ u.boiler.tf = s.boiler.tf ∧
      u.boiler.tout = s.boiler.tout ∧ u.boiler.tc = s.boiler.tc) ∧
    u.boiler.burner = if s.boiler.lockoutPin = true then .lockedOut else .off := by
  have hstop := State.stopAtReady_off hb
  generalize hk : s.setBoiler { s.boiler with lastStop := s.time.now } = k at hstop
  have hkb : k.boiler.burner = .off := by rw [← hk]; exact hb
  have hpin : k.boiler.lockoutPin = s.boiler.lockoutPin := by rw [← hk]; rfl
  rw [hstop, State.readyLockout_off hkb, hpin]
  split
  · refine ⟨_, rfl, ?_, ?_, ?_⟩
    · rw [← hk]; rfl
    · rw [State.lockOut_boiler (by simp [hkb]), ← hk]; exact ⟨rfl, rfl, rfl, rfl⟩
    · rw [State.lockOut_boiler (by simp [hkb])]; rfl
  · refine ⟨_, rfl, ?_, ?_, hkb⟩
    · rw [← hk]; rfl
    · rw [← hk]; exact ⟨rfl, rfl, rfl, rfl⟩

/-- The state in which the first READY takes its sample: the next sample is set, and tBOFF counts from now. -/
theorem State.firstReady_eq {s : State} {r : Nat} (hr : s.time.released = some r) (hb : s.boiler.burner = .off)
    (tflow tout tcyl : Int) : ∃ u : State, s.firstReady tflow tout tcyl = u.takeSample tflow tout tcyl ∧
      u = { s with
        time := { s.time with
          now := max s.time.now (r + 20), ready := true, warm := false, sampleAt := some (max s.time.now (r + 20) + 10000) }
        boiler := u.boiler, link := u.link } ∧
      (u.boiler.lastStop = max s.time.now (r + 20) ∧ u.boiler.tf = s.boiler.tf ∧ u.boiler.tout = s.boiler.tout ∧
        u.boiler.tc = s.boiler.tc) ∧
      u.boiler.burner = if s.boiler.lockoutPin = true then .lockedOut else .off := by
  obtain ⟨u, hu, hrest⟩ := State.readied_off (s := { s with time := { s.time with
    now := max s.time.now (r + 20), ready := true, warm := false, sampleAt := some (max s.time.now (r + 20) + 10000) } }) hb
  refine ⟨u, ?_, hrest⟩
  unfold State.firstReady
  rw [hr, ← hu]; rfl

/-- What a sample leaves of the other blocks. -/
theorem State.takeSample_frame (s : State) (tflow tout tcyl : Int) (t : State) (ht : t = s.takeSample tflow tout tcyl) :
    t.time = s.time ∧ t.clock = s.clock ∧ t.zones = s.zones ∧ t.points = s.points ∧ t.holds = s.holds ∧
      t.house = s.house ∧ t.bus = s.bus ∧ t.pending = s.pending := by
  have hsampled := s.samplesTo_sampled tflow tout tcyl
  have hsettles := (s.sampled tflow tout tcyl).settlesTo_evaluate
  rw [← State.takeSample_eq, ← ht] at hsettles
  generalize s.sampled tflow tout tcyl = u at hsampled hsettles
  rw [hsettles.time, hsettles.clock, hsettles.zones, hsettles.points, hsettles.holds, hsettles.house, hsettles.bus,
    hsettles.pending, hsampled]
  exact ⟨rfl, rfl, rfl, rfl, rfl, rfl, rfl, rfl⟩

/-- A sample stores the three inputs whatever the burner does (R100). -/
theorem State.takeSample_sensors (s : State) (tflow tout tcyl : Int) :
    (s.takeSample tflow tout tcyl).boiler.tf = takeSensor s.boiler.tf tflow ∧
    (s.takeSample tflow tout tcyl).boiler.tout = takeSensor s.boiler.tout tout ∧
    (s.takeSample tflow tout tcyl).boiler.tc = takeSensor s.boiler.tc tcyl := by
  obtain ⟨htf, htout, htc⟩ := s.sampled_sensors tflow tout tcyl
  have hsettles := (s.sampled tflow tout tcyl).settlesTo_evaluate
  rw [s.takeSample_eq, hsettles.1]
  exact ⟨htf, htout, htc⟩

/-- A burner at rest after a sample with its evaluations (R102). -/
theorem State.takeSample_burner {s : State} (h : s.boiler.resting) (tflow tout tcyl : Int) (t : State)
    (ht : t = s.takeSample tflow tout tcyl) :
    t.boiler.resting ∧ t.boiler.lastStop = s.boiler.lastStop ∧ t.boiler.startList = s.boiler.startList ∧
    t.boiler.attempts = s.boiler.attempts ∧ (s.boiler.burner ≠ .off → t.boiler.burner = s.boiler.burner) ∧
    (s.boiler.burner = .off → (takeSensor s.boiler.tf tflow).status = some .fault →
      t.boiler.burner = .sensorFault ∧ t.raised .boiler = true) ∧
    (s.boiler.burner = .off → (takeSensor s.boiler.tf tflow).status ≠ some .fault → t.boiler.burner = .off) := by
  obtain ⟨hstop, hother, hfault, hok⟩ := State.sampled_burner h tflow tout tcyl
  obtain ⟨hlist, hattempts⟩ := s.sampled_counts tflow tout tcyl
  have hrest : (s.sampled tflow tout tcyl).boiler.resting := by
    by_cases hb : s.boiler.burner = .off
    · by_cases hs : (takeSensor s.boiler.tf tflow).status = some .fault
      · exact .inr (.inr (hfault hb hs).1)
      · exact .inl (hok hb hs)
    · rw [Boiler.resting, hother hb]; exact h
  have hkept := State.restsTo_evaluate hrest
  have hlink := (s.sampled tflow tout tcyl).settlesTo_evaluate.link
  rw [← State.takeSample_eq, ← ht] at hkept hlink
  generalize s.sampled tflow tout tcyl = u at *
  have hburner : t.boiler.burner = u.boiler.burner := by rw [hkept]
  refine ⟨hkept.resting hrest, by rw [hkept]; exact hstop, by rw [hkept]; exact hlist, by rw [hkept]; exact hattempts, ?_, ?_, ?_⟩
  · rw [hburner]; exact hother
  · exact fun k ks => ⟨hburner.trans (hfault k ks).1, NoticesKept.of_link hlink _ (hfault k ks).2⟩
  · rw [hburner]; exact hok

/-- Settles O5: the reset state by definition; at the first READY the burner is at rest, so the sample alone moves it. -/
theorem powerOn : Obligations.PowerOn := by
  refine ⟨fun s => ?_, fun s h => ?_, ?_⟩
  · exact ⟨_, rfl, rfl, rfl, rfl, rfl, reset_zone, rfl, reset_pointsOf, reset_stackOf, rfl, rfl, rfl, rfl, rfl, rfl, rfl, rfl⟩
  · exact congrArg Host.Outcome.next (if_neg (by simp [h]))
  · intro tflow tout tcyl s r hresetn hready hwarm hr hb
    have hexec : exec (.readySet tflow tout tcyl) s = .next (s.firstReady tflow tout tcyl) := by
      refine congrArg Host.Outcome.next ?_
      rw [if_neg (by simp [hready, hresetn]), if_neg (by simp [hwarm])]
    obtain ⟨u, hu, hframe, ⟨hstop, htf, htout, htc⟩, hburner⟩ := State.firstReady_eq hr hb tflow tout tcyl
    obtain ⟨tTime, tClock, tZones, tPoints, tHolds, tHouse, tBus, tPending⟩ := u.takeSample_frame tflow tout tcyl _ rfl
    obtain ⟨sTf, sTout, sTc⟩ := u.takeSample_sensors tflow tout tcyl
    have hrest : u.boiler.resting := by
      unfold Boiler.resting; rw [hburner]; split <;> simp
    obtain ⟨-, bStop, -, -, bOther, bFault, bOk⟩ := State.takeSample_burner hrest tflow tout tcyl _ rfl
    rw [← hu] at *
    refine ⟨_, hexec, ?_⟩
    rw [tTime, tClock, tZones, tPoints, tHolds, tHouse, tBus, tPending, sTf, sTout, sTc, htf, htout, htc, bStop, hstop, hframe]
    refine ⟨rfl, rfl, rfl, rfl, rfl, rfl, rfl, fun hpin => ?_, fun hpin hf => ?_, fun hpin hf => ?_, rfl, rfl, rfl, rfl, rfl,
      rfl, rfl⟩
    · rw [if_pos hpin] at hburner
      rw [bOther (by simp [hburner]), hburner]
    · rw [if_neg (by simp [hpin])] at hburner
      exact (bFault hburner (by rwa [htf])).1
    · rw [if_neg (by simp [hpin])] at hburner
      exact bOk hburner (by rw [htf, hf]; simp)

end Sys2Proof.Machine

/-! The minute tick, block by block (R24, R35, R53, R70, R112, R165): what it leaves alone, and what it makes of the clock,
the holds, the house record and the start list. -/

namespace Sys2Proof.Machine

variable {s t u : State}

/-! ### What a tick leaves alone -/

/-- `t` has the time base, points, queue and sensors of `s`, its burner where that is at rest, and every notice. -/
structure Calm (s t : State) : Prop where
  time : t.time = s.time
  points : t.points = s.points
  pending : t.pending = s.pending
  sensors : t.boiler.tf = s.boiler.tf ∧ t.boiler.tout = s.boiler.tout ∧ t.boiler.tc = s.boiler.tc
  burner : s.boiler.resting → t.boiler.burner = s.boiler.burner ∧ t.boiler.lastStop = s.boiler.lastStop ∧
    t.boiler.attempts = s.boiler.attempts
  notices : NoticesKept s t

theorem Calm.resting (h : Calm s t) (hs : s.boiler.resting) : t.boiler.resting := by
  unfold Boiler.resting
  rw [(h.burner hs).1]; exact hs

theorem Calm.trans (h : Calm s t) (k : Calm t u) : Calm s u where
  time := k.time.trans h.time
  points := k.points.trans h.points
  pending := k.pending.trans h.pending
  sensors := ⟨k.sensors.1.trans h.sensors.1, k.sensors.2.1.trans h.sensors.2.1, k.sensors.2.2.trans h.sensors.2.2⟩
  burner hs := by
    obtain ⟨k1, k2, k3⟩ := k.burner (h.resting hs)
    obtain ⟨h1, h2, h3⟩ := h.burner hs
    exact ⟨k1.trans h1, k2.trans h2, k3.trans h3⟩
  notices := h.notices.trans k.notices

/-- An update that touches neither time base nor points, boiler, link or queue. -/
theorem Calm.of_eq (htime : t.time = s.time) (hpoints : t.points = s.points) (hpending : t.pending = s.pending)
    (hboiler : t.boiler = s.boiler) (hlink : t.link = s.link) : Calm s t :=
  ⟨htime, hpoints, hpending, by rw [hboiler]; exact ⟨rfl, rfl, rfl⟩, fun _ => by rw [hboiler]; exact ⟨rfl, rfl, rfl⟩,
    NoticesKept.of_link hlink⟩

theorem Calm.refl (s : State) : Calm s s := Calm.of_eq rfl rfl rfl rfl rfl

theorem calm_evaluate (s : State) : Calm s s.evaluate := by
  have h := s.settlesTo_evaluate
  refine ⟨h.time, h.points, h.pending, ?_, fun hs => ?_, NoticesKept.of_link h.link⟩
  · rw [h.1]; exact ⟨rfl, rfl, rfl⟩
  · rw [State.restsTo_evaluate hs]; exact ⟨rfl, rfl, rfl⟩

theorem calm_resolves (h : s.ResolvesTo t) : Calm s t :=
  Calm.of_eq h.time h.points h.pending h.boiler h.link

/-! ### The Hold Stacks -/

/-- The point crossings write hold stacks and nothing else. -/
theorem State.takeCrossings_frame (s : State) : s.takeCrossings = { s with holds := s.takeCrossings.holds } := by
  have h : ∀ (l : List (Fin 17)) (t : State),
      l.foldl (fun t z => if s.crossed z then t.retireNextPoint z else t) t =
        { t with holds := (l.foldl (fun t z => if s.crossed z then t.retireNextPoint z else t) t).holds } := by
    intro l
    induction l with
    | nil => intro t; rfl
    | cons z l ih =>
      intro t
      rw [List.foldl_cons, ih]
      split <;> rfl
  exact h allZones s

theorem State.retireNextPoint_stackOf (s : State) (y z : Fin 17) : (s.retireNextPoint y).stackOf z =
    if y = z then (s.stackOf z).filter (fun h => h.ending != .nextPoint) else s.stackOf z := by
  rw [State.retireNextPoint, State.setStack_stackOf]
  split
  · next e => rw [e]
  · rfl

/-- A crossing retires the NEXT_POINT holds of its zone (R35, R54). -/
theorem State.takeCrossings_stackOf (s : State) (z : Fin 17) : s.takeCrossings.stackOf z =
    (s.stackOf z).filter (fun h => !(h.ending == .nextPoint && s.crossed z)) := by
  have hstep : ∀ (t : State) (y : Fin 17), (if s.crossed y then t.retireNextPoint y else t).stackOf z =
      if y = z then (t.stackOf z).filter (fun h => !(h.ending == .nextPoint && s.crossed z)) else t.stackOf z := by
    intro t y
    by_cases hy : y = z
    · subst hy
      cases hc : s.crossed y <;> simp [State.retireNextPoint_stackOf, bne]
    · cases hc : s.crossed y <;> simp [State.retireNextPoint_stackOf, hy]
  have hfold : ∀ (l : List (Fin 17)) (t : State),
      (l.foldl (fun t z => if s.crossed z then t.retireNextPoint z else t) t).stackOf z =
        if z ∈ l then (t.stackOf z).filter (fun h => !(h.ending == .nextPoint && s.crossed z)) else t.stackOf z := by
    intro l
    induction l with
    | nil => intro t; simp
    | cons y l ih =>
      intro t
      rw [List.foldl_cons, ih, hstep]
      by_cases hy : y = z
      · subst hy
        by_cases hl : y ∈ l <;> simp [hl]
      · have hz : ¬ z = y := fun e => hy e.symm
        by_cases hl : z ∈ l <;> simp [hy, hz, hl]
  exact (hfold allZones s).trans (if_pos (List.mem_finRange z))

/-- The zone's list has a point at the time of week. -/
theorem State.crossed_eq (s : State) (z : Fin 17) :
    s.crossed z = (s.pointsOf z).any (fun p => s.clock.timeOfWeek == some p.time) := by
  unfold State.crossed pointAt
  cases s.clock.timeOfWeek with
  | none => simp
  | some w =>
    rw [Option.any_some, Bool.eq_iff_iff, List.find?_isSome, List.any_eq_true]
    refine exists_congr fun p => and_congr_right fun _ => ?_
    rw [beq_iff_eq, beq_iff_eq, Option.some_inj]
    exact eq_comm

theorem State.countHolds_stackOf (s : State) (z : Fin 17) : s.countHolds.stackOf z = (s.stackOf z).filterMap countDown :=
  mapTable_get _ _ z

/-! ### Resolved zones (R38, R39) -/

/-- Every zone has the setpoint and source, and ZW the target, that their inputs give. -/
def State.Resolved (s : State) : Prop :=
  (∀ z : Fin 16, (s.zone z).setpoint = s.roomSetpoint z ∧ (s.zone z).source = (s.roomCandidate z).2) ∧
    s.cylinder.target = s.cylinderResolved.1

theorem State.cylinderResolved_of_eq (hmode : t.house.mode = s.house.mode) (hholds : t.holds = s.holds)
    (hpoints : t.points = s.points) (hclock : t.clock = s.clock)
    (hdefault : t.cylinder.defaultTarget = s.cylinder.defaultTarget) : t.cylinderResolved = s.cylinderResolved := by
  simp only [State.cylinderResolved, State.stackOf, State.pointInForce, State.pointsOf, hmode, hholds, hpoints, hclock,
    hdefault]

theorem State.resolveRooms_cylinder (s : State) : s.resolveRooms.cylinder = s.cylinder := by
  unfold State.resolveRooms
  refine foldl_leaves State.cylinder (fun s z => ?_) _ s
  unfold State.resolveRoom State.announce
  dsimp only
  split
  · rfl
  · split <;> rfl

/-- A resolution of all zones reads nothing that it writes. -/
theorem State.resolveAll_cylinder (s : State) : s.resolveAll.cylinder =
    { s.cylinder with target := s.cylinderResolved.1, source := s.cylinderResolved.2 } := by
  have h := s.resolvesTo_resolveRooms
  have hresolved : s.resolveRooms.cylinderResolved = s.cylinderResolved :=
    State.cylinderResolved_of_eq (by rw [h.house]) h.holds h.points h.clock (by rw [s.resolveRooms_cylinder])
  unfold State.resolveAll State.resolveCylinder
  rw [hresolved, s.resolveRooms_cylinder]

theorem resolved_resolveAll (s : State) : s.resolveAll.Resolved := by
  have h := s.resolvesTo_resolveAll
  refine ⟨fun z => ?_, ?_⟩
  · have hc : (s.resolveAll.zone z).config = (s.zone z).config := by rw [s.resolveAll_zone]
    rw [State.roomSetpoint_congr hc h.house h.holds h.points h.clock,
      State.roomCandidate_congr hc h.house h.holds h.points h.clock, s.resolveAll_zone]
    exact ⟨rfl, rfl⟩
  · have hdefault : s.resolveAll.cylinder.defaultTarget = s.cylinder.defaultTarget := by rw [s.resolveAll_cylinder]
    rw [State.cylinderResolved_of_eq (by rw [h.house]) h.holds h.points h.clock hdefault, s.resolveAll_cylinder]

/-- What a resolution reads of the house record: its mode, the offset and the vacant setpoint. -/
theorem State.Resolved.of_eq (hr : s.Resolved) (hzones : t.zones = s.zones) (hmode : t.house.mode = s.house.mode)
    (hoffset : t.house.setbackOffset = s.house.setbackOffset) (hvacant : t.house.vacantSetpoint = s.house.vacantSetpoint)
    (hholds : t.holds = s.holds) (hpoints : t.points = s.points) (hclock : t.clock = s.clock)
    (hdefault : t.cylinder.defaultTarget = s.cylinder.defaultTarget) (htarget : t.cylinder.target = s.cylinder.target) :
    t.Resolved := by
  obtain ⟨hrooms, hzw⟩ := hr
  refine ⟨fun z => ?_, ?_⟩
  · have hzone : t.zone z = s.zone z := by rw [State.zone, hzones, State.zone]
    have hscheduled : t.roomScheduled z = s.roomScheduled z := by
      simp only [State.roomScheduled, State.pointInForce, State.pointsOf, hzone, hpoints, hclock]
    have hcandidate : t.roomCandidate z = s.roomCandidate z := by
      simp only [State.roomCandidate, hscheduled, State.stackOf, hzone, hmode, hoffset, hvacant, hholds]
    have hsetpoint : t.roomSetpoint z = s.roomSetpoint z := by
      simp only [State.roomSetpoint, hcandidate, hzone]
    rw [hcandidate, hsetpoint, hzone]
    exact hrooms z
  · rw [State.cylinderResolved_of_eq hmode hholds hpoints hclock hdefault, htarget]
    exact hzw

theorem State.Resolved.settles (hr : s.Resolved) (h : s.SettlesTo t) : t.Resolved :=
  hr.of_eq h.zones (by rw [h.house]) (by rw [h.house]) (by rw [h.house]) h.holds h.points h.clock (by rw [h.1]) (by rw [h.1])

/-! ### The tick at each block -/

/-- The end of a block's tick: `t` is `s` but for what evaluations settle, and every zone is resolved. -/
structure Settled (s t : State) : Prop extends Calm s t where
  clock : t.clock = s.clock
  house : t.house = s.house
  holds : t.holds = s.holds
  starts : s.boiler.resting → t.boiler.startList = s.boiler.startList
  resolved : t.Resolved

theorem settled_evaluate (h : s.Resolved) : Settled s s.evaluate where
  toCalm := calm_evaluate s
  clock := s.settlesTo_evaluate.clock
  house := s.settlesTo_evaluate.house
  holds := s.settlesTo_evaluate.holds
  starts hs := by rw [State.restsTo_evaluate hs]
  resolved := h.settles s.settlesTo_evaluate

theorem settled_resolveAll (s : State) : Settled s s.resolveAll.evaluate := by
  have h := s.resolvesTo_resolveAll
  have k := settled_evaluate (resolved_resolveAll s)
  refine ⟨(calm_resolves h).trans k.toCalm, k.clock.trans h.clock, k.house.trans h.house, k.holds.trans h.holds, fun hs => ?_,
    k.resolved⟩
  have hstarts := k.starts (by rw [h.boiler]; exact hs)
  rwa [h.boiler] at hstarts

theorem stackOf_congr (h : t.holds = s.holds) (z : Fin 17) : t.stackOf z = s.stackOf z := by
  simp only [State.stackOf, h]

/-- Program Store and Setpoint Resolver (R24, R35). -/
theorem State.tickClock_spec (s : State) : Calm s s.tickClock ∧ s.tickClock.clock = s.clock.advanced ∧
    s.tickClock.house = s.house ∧ (s.boiler.resting → s.tickClock.boiler.startList = s.boiler.startList) ∧
    (∀ z, s.tickClock.stackOf z = (s.stackOf z).filter (fun h => !(h.ending == .nextPoint &&
      (s.pointsOf z).any (fun p => s.clock.timeOfWeek.map nextMinute == some p.time)))) ∧ s.tickClock.Resolved := by
  generalize hu : ({ s with clock := s.clock.advanced } : State) = u
  have hframe := u.takeCrossings_frame
  have hsettled := settled_resolveAll u.takeCrossings
  have ht : s.tickClock = u.takeCrossings.resolveAll.evaluate := by rw [State.tickClock, hu]
  rw [ht]
  have hcalm : Calm s u.takeCrossings := Calm.of_eq (by rw [hframe, ← hu]) (by rw [hframe, ← hu]) (by rw [hframe, ← hu])
    (by rw [hframe, ← hu]) (by rw [hframe, ← hu])
  have hboiler : u.takeCrossings.boiler = s.boiler := by rw [hframe, ← hu]
  refine ⟨hcalm.trans hsettled.toCalm, ?_, ?_, fun hs => ?_, fun z => ?_, hsettled.resolved⟩
  · rw [hsettled.clock, hframe, ← hu]
  · rw [hsettled.house, hframe, ← hu]
  · rw [hsettled.starts (by rw [hboiler]; exact hs), hboiler]
  · rw [stackOf_congr hsettled.holds, u.takeCrossings_stackOf, u.crossed_eq, ← hu]
    rfl

/-- Hold Stacks (R53). -/
theorem State.tickHolds_spec (s : State) : Calm s s.tickHolds ∧ s.tickHolds.clock = s.clock ∧
    s.tickHolds.house = s.house ∧ (s.boiler.resting → s.tickHolds.boiler.startList = s.boiler.startList) ∧
    (∀ z, s.tickHolds.stackOf z = (s.stackOf z).filterMap countDown) ∧ s.tickHolds.Resolved := by
  have hsettled := settled_resolveAll s.countHolds
  have ht : s.tickHolds = s.countHolds.resolveAll.evaluate := rfl
  have hcalm : Calm s s.countHolds := Calm.of_eq rfl rfl rfl rfl rfl
  have hclock : s.countHolds.clock = s.clock := rfl
  have hhouse : s.countHolds.house = s.house := rfl
  have hboiler : s.countHolds.boiler = s.boiler := rfl
  rw [ht]
  refine ⟨hcalm.trans hsettled.toCalm, hsettled.clock.trans hclock, hsettled.house.trans hhouse, fun hs => ?_, fun z => ?_,
    hsettled.resolved⟩
  · rw [hsettled.starts (by rw [hboiler]; exact hs), hboiler]
  · exact (stackOf_congr hsettled.holds z).trans (s.countHolds_stackOf z)

/-- The house record after the return countdown's minute (R70). -/
def House.counted (h : House) : House :=
  match h.countdown with
  | none => h
  | some m =>
    if m ≤ 1 then
      if h.wakeReturn = true ∧ h.mode ≠ .occupied then
        { h with mode := .occupied, countdown := none, lastCause := some .return }
      else { h with countdown := none }
    else { h with countdown := some (m - 1) }

theorem calm_setHouse (s : State) (h : House) : Calm s (s.setHouse h) := Calm.of_eq rfl rfl rfl rfl rfl

theorem calm_raise (s : State) (n : Notice) : Calm s (s.raise n) :=
  ⟨rfl, rfl, rfl, ⟨rfl, rfl, rfl⟩, fun _ => ⟨rfl, rfl, rfl⟩, noticesKept_raise s n⟩

theorem State.changeMode_spec (s : State) (m : Mode) (c : Option Nat) : Calm s (s.changeMode m c) ∧
    (s.changeMode m c).clock = s.clock ∧ (s.changeMode m c).house = { s.house with mode := m, countdown := c } ∧
    (s.changeMode m c).boiler = s.boiler ∧ (s.changeMode m c).holds = s.holds ∧ (s.changeMode m c).Resolved ∧
    (s.changeMode m c).raised .modeChanged = true := by
  have h := s.resolvesTo_changeMode m c
  refine ⟨((calm_setHouse s _).trans (calm_raise _ _)).trans (calm_resolves h), h.clock, h.house, h.boiler, h.holds, ?_, ?_⟩
  · exact resolved_resolveAll _
  · exact NoticesKept.of_link h.link _ (State.raised_raise _ _)

/-- The wake at the end of the return countdown (R69, R70). -/
theorem State.returnEnds_eq (s : State) : s.returnEnds =
    if s.house.wakeReturn = true ∧ s.house.mode ≠ .occupied then
      (s.setHouse { s.house with countdown := none, lastCause := some .return }).changeMode .occupied none
    else s.setHouse { s.house with countdown := none } := rfl

/-- House Mode Unit (R70): the countdown, and a RETURN wake where it ends with its enable set. -/
theorem State.countReturn_spec (s : State) (hr : s.Resolved) : Calm s s.countReturn ∧ s.countReturn.clock = s.clock ∧
    s.countReturn.house = s.house.counted ∧ s.countReturn.boiler = s.boiler ∧ s.countReturn.holds = s.holds ∧
    s.countReturn.Resolved ∧
    (∀ m, s.house.countdown = some m → m ≤ 1 → s.house.wakeReturn = true → s.house.mode ≠ .occupied →
      s.countReturn.raised .modeChanged = true) := by
  have hset : ∀ c : Option Nat, (s.setHouse { s.house with countdown := c }).Resolved := fun c =>
    hr.of_eq rfl rfl rfl rfl rfl rfl rfl rfl rfl
  cases hm : s.house.countdown with
  | none =>
    have ht : s.countReturn = s := by simp only [State.countReturn, hm]
    rw [ht]
    exact ⟨Calm.refl s, rfl, by simp only [House.counted, hm], rfl, rfl, hr, nofun⟩
  | some m =>
    by_cases h1 : m ≤ 1
    · have ht : s.countReturn = s.returnEnds := by simp only [State.countReturn, hm, if_pos h1]
      rw [ht, State.returnEnds_eq]
      by_cases hw : s.house.wakeReturn = true ∧ s.house.mode ≠ .occupied
      · obtain ⟨c1, c2, c3, c4, c5, c6, c7⟩ := State.changeMode_spec
          (s.setHouse { s.house with countdown := none, lastCause := some .return }) .occupied none
        rw [if_pos hw]
        refine ⟨(calm_setHouse s _).trans c1, c2, ?_, c4, c5, c6, fun _ _ _ _ _ => c7⟩
        rw [c3]
        simp only [House.counted, hm, if_pos h1, if_pos hw, State.setHouse_house]
      · rw [if_neg hw]
        refine ⟨calm_setHouse s _, rfl, ?_, rfl, rfl, hset none, fun _ _ _ hk hk' => absurd ⟨hk, hk'⟩ hw⟩
        simp only [House.counted, hm, if_pos h1, if_neg hw, State.setHouse_house]
    · have ht : s.countReturn = s.setHouse { s.house with countdown := some (m - 1) } := by
        simp only [State.countReturn, hm, if_neg h1]
      rw [ht]
      refine ⟨calm_setHouse s _, rfl, ?_, rfl, rfl, hset _, fun k hk hk1 => ?_⟩
      · simp only [House.counted, hm, if_neg h1, State.setHouse_house]
      · cases hk; exact absurd hk1 h1

theorem State.tickHouse_spec (s : State) (hr : s.Resolved) : Calm s s.tickHouse ∧ s.tickHouse.clock = s.clock ∧
    s.tickHouse.house = s.house.counted ∧ (s.boiler.resting → s.tickHouse.boiler.startList = s.boiler.startList) ∧
    s.tickHouse.holds = s.holds ∧ s.tickHouse.Resolved ∧
    (∀ m, s.house.countdown = some m → m ≤ 1 → s.house.wakeReturn = true → s.house.mode ≠ .occupied →
      s.tickHouse.raised .modeChanged = true) := by
  obtain ⟨hcalm, hclock, hhouse, hboiler, hholds, hresolved, hwoken⟩ := s.countReturn_spec hr
  have hsettled := settled_evaluate hresolved
  have ht : s.tickHouse = s.countReturn.evaluate := rfl
  rw [ht]
  refine ⟨hcalm.trans hsettled.toCalm, hsettled.clock.trans hclock, hsettled.house.trans hhouse, fun hs => ?_,
    hsettled.holds.trans hholds, hsettled.resolved, fun m h1 h2 h3 h4 => hsettled.notices _ (hwoken m h1 h2 h3 h4)⟩
  rw [hsettled.starts (by rw [hboiler]; exact hs), hboiler]

/-- Boiler Controller (R112): every start a minute older, those of 60 minutes gone. -/
theorem State.tickStarts_spec (s : State) (hr : s.Resolved) : Calm s s.tickStarts ∧ s.tickStarts.clock = s.clock ∧
    s.tickStarts.house = s.house ∧ s.tickStarts.holds = s.holds ∧ s.tickStarts.Resolved ∧
    (s.boiler.resting → s.tickStarts.boiler.startList =
      (s.boiler.startList.map (· + 1)).filter (fun a => decide (a < 60))) := by
  have hcalm : Calm s s.ageStarts :=
    ⟨rfl, rfl, rfl, ⟨rfl, rfl, rfl⟩, fun _ => ⟨rfl, rfl, rfl⟩, NoticesKept.of_link rfl⟩
  have hsettled := settled_evaluate (s := s.ageStarts) (hr.of_eq rfl rfl rfl rfl rfl rfl rfl rfl rfl)
  exact ⟨hcalm.trans hsettled.toCalm, hsettled.clock, hsettled.house, hsettled.holds, hsettled.resolved,
    fun hs => hsettled.starts hs⟩

theorem State.ageJoins_spec (s : State) (hr : s.Resolved) : Calm s s.ageJoins ∧ s.ageJoins.Resolved :=
  ⟨Calm.of_eq rfl rfl rfl rfl rfl, hr.of_eq rfl rfl rfl rfl rfl rfl rfl rfl rfl⟩

end Sys2Proof.Machine

/-! The whole minute tick (R24), and READY after a warm reset (R22, R40, R77, R115, R126, R207). -/

namespace Sys2Proof.Machine

/-! ### The minute tick over its blocks -/

/-- The crossing at the time of week the tick reaches retires NEXT_POINT holds (R35, R54). -/
def State.crossedStack (s : State) (z : Fin 17) : List Hold :=
  (s.stackOf z).filter (fun h => !(h.ending == .nextPoint &&
    (s.pointsOf z).any (fun p => s.clock.timeOfWeek.map nextMinute == some p.time)))

/-- What the first two blocks of the minute tick make of `s`: Program Store and Setpoint Resolver, Hold Stacks. -/
structure FirstTaken (s t : State) : Prop extends Calm s t where
  clock : t.clock = s.clock.advanced
  held : ∀ z, t.stackOf z = if s.clock.taken.holds then s.crossedStack z else (s.crossedStack z).filterMap countDown
  house : t.house = s.house
  starts : s.boiler.resting → t.boiler.startList = s.boiler.startList
  resolved : t.Resolved

theorem State.firstTaken (s t : State) (ht : t = s.tickClock.tickUnless s.clock.taken.holds State.tickHolds) :
    FirstTaken s t := by
  obtain ⟨hcalm, hclock, hhouse, hstarts, hstacks, hresolved⟩ := s.tickClock_spec
  cases hk : s.clock.taken.holds with
  | true =>
    rw [hk, State.tickUnless_true] at ht
    rw [ht]
    exact ⟨hcalm, hclock, fun z => by rw [hk]; exact hstacks z, hhouse, hstarts, hresolved⟩
  | false =>
    rw [hk, State.tickUnless_false] at ht
    obtain ⟨kcalm, kclock, khouse, kstarts, kstacks, kresolved⟩ := s.tickClock.tickHolds_spec
    rw [ht]
    refine ⟨hcalm.trans kcalm, kclock.trans hclock, fun z => ?_, khouse.trans hhouse,
      fun hs => (kstarts (hcalm.resting hs)).trans (hstarts hs), kresolved⟩
    rw [hk, kstacks, hstacks]; rfl

/-- What the minute tick makes of `s`, the blocks that took it early left out (R24). -/
structure MinuteTaken (s t : State) : Prop extends Calm s t where
  clock : t.clock = s.clock.advanced
  held : ∀ z, t.stackOf z = if s.clock.taken.holds then s.crossedStack z else (s.crossedStack z).filterMap countDown
  house : t.house = if s.clock.taken.house then s.house else s.house.counted
  woken : s.clock.taken.house = false → ∀ m, s.house.countdown = some m → m ≤ 1 → s.house.wakeReturn = true →
    s.house.mode ≠ .occupied → t.raised .modeChanged = true
  starts : s.boiler.resting → t.boiler.startList = if s.clock.taken.starts then s.boiler.startList
    else (s.boiler.startList.map (· + 1)).filter (fun a => decide (a < 60))
  resolved : t.Resolved

theorem State.minuteTick_eq (s : State) : s.minuteTick =
    (((s.tickClock.tickUnless s.clock.taken.holds State.tickHolds).tickUnless s.clock.taken.house
      State.tickHouse).tickUnless s.clock.taken.starts State.tickStarts).tickUnless s.clock.taken.joins State.ageJoins := rfl

/-- House Mode Unit after the first two blocks (R70). -/
theorem FirstTaken.house_spec {s u v : State} (h : FirstTaken s u) (hv : v = u.tickUnless s.clock.taken.house State.tickHouse) :
    Calm s v ∧ v.clock = s.clock.advanced ∧ v.holds = u.holds ∧ v.Resolved ∧
    (s.boiler.resting → v.boiler.startList = s.boiler.startList) ∧
    v.house = (if s.clock.taken.house then s.house else s.house.counted) ∧
    (s.clock.taken.house = false → ∀ m, s.house.countdown = some m → m ≤ 1 → s.house.wakeReturn = true →
      s.house.mode ≠ .occupied → v.raised .modeChanged = true) := by
  cases hk : s.clock.taken.house with
  | true =>
    rw [hk, State.tickUnless_true] at hv
    subst hv
    exact ⟨h.toCalm, h.clock, rfl, h.resolved, h.starts, h.house, nofun⟩
  | false =>
    rw [hk, State.tickUnless_false] at hv
    obtain ⟨kcalm, kclock, khouse, kstarts, kholds, kresolved, kwoken⟩ := u.tickHouse_spec h.resolved
    subst hv
    rw [h.house] at khouse kwoken
    exact ⟨h.toCalm.trans kcalm, kclock.trans h.clock, kholds, kresolved,
      fun hs => (kstarts (h.toCalm.resting hs)).trans (h.starts hs), khouse, fun _ => kwoken⟩

theorem minuteTaken_minuteTick (s : State) : MinuteTaken s s.minuteTick := by
  have hfirst := s.firstTaken _ rfl
  rw [s.minuteTick_eq]
  generalize s.tickClock.tickUnless s.clock.taken.holds State.tickHolds = u at *
  obtain ⟨vcalm, vclock, vholds, vresolved, vstarts, vhouse, vwoken⟩ := hfirst.house_spec rfl
  generalize u.tickUnless s.clock.taken.house State.tickHouse = v at *
  have hboiler : MinuteTaken s (v.tickUnless s.clock.taken.starts State.tickStarts) := by
    have hheld : ∀ w : State, w.holds = v.holds → ∀ z, w.stackOf z =
        if s.clock.taken.holds then s.crossedStack z else (s.crossedStack z).filterMap countDown := fun w hw z =>
      (stackOf_congr (hw.trans vholds) z).trans (hfirst.held z)
    cases hk : s.clock.taken.starts with
    | true =>
      rw [State.tickUnless_true]
      exact ⟨vcalm, vclock, hheld v rfl, vhouse, vwoken, fun hs => by rw [hk]; exact vstarts hs, vresolved⟩
    | false =>
      rw [State.tickUnless_false]
      obtain ⟨kcalm, kclock, khouse, kholds, kresolved, kstarts⟩ := v.tickStarts_spec vresolved
      exact ⟨vcalm.trans kcalm, kclock.trans vclock, hheld _ kholds, khouse.trans vhouse,
        fun h m h1 h2 h3 h4 => kcalm.notices _ (vwoken h m h1 h2 h3 h4),
        fun hs => by rw [hk, kstarts (vcalm.resting hs), vstarts hs]; rfl, kresolved⟩
  generalize v.tickUnless s.clock.taken.starts State.tickStarts = w at *
  cases s.clock.taken.joins with
  | true => exact hboiler
  | false =>
    rw [State.tickUnless_false]
    obtain ⟨kcalm, kresolved⟩ := w.ageJoins_spec hboiler.resolved
    exact ⟨hboiler.toCalm.trans kcalm, hboiler.clock, hboiler.held, hboiler.house, hboiler.woken, hboiler.starts, kresolved⟩

end Sys2Proof.Machine

/-! READY after a warm reset (R22, R40, R77, R100, R115, R126, R207): the resolution, the boiler as its inputs stand, and
what fell due. -/

namespace Sys2Proof.Machine

/-! ### Resolution and queue -/

/-- The state after the resolution, with the queue refilled (R22, R40). -/
def State.warmResolved (s : State) : State := (s.setReady.resolveAll).refill s

theorem State.warmResolved_frame (s : State) : s.warmResolved.time = { s.time with ready := true, warm := false } ∧
    s.warmResolved.clock = s.clock ∧ s.warmResolved.points = s.points ∧ s.warmResolved.holds = s.holds ∧
    s.warmResolved.house = s.house ∧ s.warmResolved.boiler = s.boiler ∧ s.warmResolved.registry = s.registry ∧
    s.warmResolved.pending = s.pending := by
  have h := s.setReady.resolvesTo_resolveAll
  unfold State.warmResolved
  generalize s.setReady.resolveAll = t at h ⊢
  exact ⟨h.time, h.clock, h.points, h.holds, h.house, h.boiler, h.registry, h.pending⟩

theorem State.warmResolved_zone (s : State) (z : Fin 16) : s.warmResolved.zone z =
    { s.zone z with setpoint := s.roomSetpoint z, source := (s.roomCandidate z).2 } := by
  have h := s.setReady.resolveAll_zone z
  unfold State.warmResolved
  generalize s.setReady.resolveAll = t at h ⊢
  exact h

theorem State.warmResolved_cylinder (s : State) : s.warmResolved.cylinder =
    { s.cylinder with target := s.cylinderResolved.1, source := s.cylinderResolved.2 } := by
  have h := s.setReady.resolveAll_cylinder
  unfold State.warmResolved
  generalize s.setReady.resolveAll = t at h ⊢
  exact h

theorem State.warmResolved_bus (s : State) : s.warmResolved.bus = { s.bus with announce := rooms.filter (fun z =>
    decide (z ∈ s.time.wasCalling) || decide (s.roomSetpoint z ≠ (s.zone z).setpoint)) } := by
  have h := s.setReady.resolvesTo_resolveAll
  have hsetpoint : ∀ z, (s.setReady.resolveAll.zone z).setpoint = s.roomSetpoint z := fun z => by
    rw [s.setReady.resolveAll_zone]; rfl
  have hbus : s.warmResolved.bus = { s.setReady.resolveAll.bus with announce := rooms.filter (fun z =>
      decide (z ∈ s.setReady.resolveAll.time.wasCalling) ||
        decide ((s.setReady.resolveAll.zone z).setpoint ≠ (s.zone z).setpoint)) } := rfl
  rw [hbus, h.time]
  simp only [hsetpoint]
  generalize s.setReady.resolveAll = t at h
  rw [h]; rfl

theorem State.warmResolved_resolved (s : State) : s.warmResolved.Resolved := by
  have h := resolved_resolveAll s.setReady
  unfold State.warmResolved
  generalize s.setReady.resolveAll = t at h ⊢
  exact h.of_eq rfl rfl rfl rfl rfl rfl rfl rfl rfl

/-! ### The boiler as its inputs stand -/

/-- The boiler as READY sets after a warm reset. -/
def State.readied (s : State) : State := s.stopAtReady.readyLockout.readyFault

/-- What a move of the burner as READY sets may write. -/
def State.MovesTo (s t : State) : Prop := t = { s with
  boiler := { s.boiler with
    burner := t.boiler.burner, lastStop := t.boiler.lastStop, minOn := t.boiler.minOn, waitFlow := t.boiler.waitFlow
    recovery := t.boiler.recovery, attempts := t.boiler.attempts }
  link := t.link }

theorem State.MovesTo.trans {s t u : State} (h : s.MovesTo t) (k : t.MovesTo u) : s.MovesTo u := by
  unfold State.MovesTo at h k ⊢
  rw [k, h]

theorem State.movesTo_stopAtReady (s : State) : s.MovesTo s.stopAtReady := by
  unfold State.stopAtReady; split <;> rfl

theorem State.movesTo_endLockout (s : State) : s.MovesTo s.endLockout := by
  unfold State.endLockout; dsimp only; split <;> rfl

theorem State.movesTo_readyLockout (s : State) : s.MovesTo s.readyLockout := by
  unfold State.readyLockout
  split
  · split <;> rfl
  · split
    · exact s.movesTo_endLockout
    · rfl

theorem State.movesTo_readyFault (s : State) : s.MovesTo s.readyFault := by
  unfold State.readyFault; split <;> rfl

theorem State.movesTo_readied (s : State) : s.MovesTo s.readied :=
  (s.movesTo_stopAtReady.trans (State.movesTo_readyLockout _)).trans (State.movesTo_readyFault _)

theorem State.stopAtReady_other {s : State} (h : s.boiler.burner ≠ .off) : s.stopAtReady = s := if_neg h

/-- LOCKOUT asserted leaves the burner LOCKED_OUT, with BOILER where it was not (R115, R126). -/
theorem State.readied_asserted {s : State} (hpin : s.boiler.lockoutPin = true) : s.readied.boiler.burner = .lockedOut ∧
    (s.boiler.burner ≠ .lockedOut → s.readied.raised .boiler = true) ∧
    (s.boiler.burner = .off → s.readied.boiler.lastStop = s.time.now) := by
  have hfault : ∀ t : State, t.boiler.burner = .lockedOut → t.readyFault = t := fun t h =>
    if_neg fun k => by simp [h] at k
  have hstop := s.movesTo_stopAtReady
  have hpin' : s.stopAtReady.boiler.lockoutPin = true := by rw [hstop]; exact hpin
  have hburner : s.stopAtReady.boiler.burner = s.boiler.burner := by unfold State.stopAtReady; split <;> rfl
  have hlast : s.boiler.burner = .off → s.stopAtReady.boiler.lastStop = s.time.now := fun h => by
    rw [State.stopAtReady_off h]; rfl
  unfold State.readied
  generalize s.stopAtReady = u at *
  by_cases hb : u.boiler.burner = .lockedOut
  · have hlock : u.readyLockout = u := by rw [State.readyLockout, if_pos hpin', if_pos hb]
    rw [hlock, hfault u hb]
    exact ⟨hb, fun k => absurd (hburner.symm.trans hb) k, hlast⟩
  · have hlock : u.readyLockout = u.lockOut := by rw [State.readyLockout, if_pos hpin', if_neg hb]
    rw [hlock, hfault u.lockOut rfl]
    refine ⟨rfl, fun _ => State.raised_raise _ _, fun h => ?_⟩
    have hoff : u.boiler.burner = .off := hburner.trans h
    rw [State.lockOut_boiler (by simp [hoff])]
    exact hlast h

/-- The end of a lockout by TF's status (R115). -/
theorem State.endLockout_spec (s : State) : s.endLockout.boiler.attempts = 0 ∧
    s.endLockout.boiler.tf = s.boiler.tf ∧
    (s.boiler.tf.status = some .fault → s.endLockout.boiler.burner = .sensorFault ∧ s.endLockout.raised .boiler = true) ∧
    (s.boiler.tf.status ≠ some .fault → s.endLockout.boiler.burner = .off ∧ s.endLockout.boiler.lastStop = s.time.now) := by
  unfold State.endLockout
  dsimp only
  split
  · next h => exact ⟨rfl, rfl, fun _ => ⟨rfl, State.raised_raise _ _⟩, fun k => absurd h k⟩
  · next h => exact ⟨rfl, rfl, fun k => absurd k h, fun _ => ⟨rfl, rfl⟩⟩

/-- An OFF burner with TF in FAULT falls into SENSOR_FAULT (R126). -/
theorem State.readyFault_off {s : State} (hb : s.boiler.burner = .off) :
    s.readyFault.boiler.lastStop = s.boiler.lastStop ∧
    (s.boiler.tf.status = some .fault → s.readyFault.boiler.burner = .sensorFault ∧ s.readyFault.raised .boiler = true) ∧
    (s.boiler.tf.status ≠ some .fault → s.readyFault.boiler.burner = .off) := by
  have hstop : s.stopTime = s.boiler.lastStop := if_neg (by simp [hb])
  unfold State.readyFault
  split
  · next h => exact ⟨hstop, fun _ => ⟨rfl, State.raised_raise _ _⟩, fun k => absurd h.1 k⟩
  · next h => exact ⟨rfl, fun k => absurd ⟨k, hb⟩ h, fun _ => hb⟩

/-- LOCKOUT released, a burner left OFF, or LOCKED_OUT with no pulse, is in SENSOR_FAULT or OFF by TF's status (R115,
R126). -/
theorem State.readied_released {s : State} (hpin : s.boiler.lockoutPin = false)
    (hb : s.boiler.burner = .off ∨ (s.boiler.burner = .lockedOut ∧ s.boiler.pulse = none)) :
    (s.boiler.burner = .lockedOut → s.readied.boiler.attempts = 0) ∧
    (s.boiler.tf.status = some .fault → s.readied.boiler.burner = .sensorFault ∧ s.readied.raised .boiler = true) ∧
    (s.boiler.tf.status ≠ some .fault → s.readied.boiler.burner = .off) ∧
    (s.boiler.burner = .off ∨ s.boiler.tf.status ≠ some .fault → s.readied.boiler.lastStop = s.time.now) := by
  have hno : ¬ s.boiler.lockoutPin = true := by simp [hpin]
  unfold State.readied
  rcases hb with hoff | ⟨hlocked, hpulse⟩
  · obtain ⟨u, hu, -, ⟨hstop, htf, -, -⟩, hburner⟩ := State.readied_off hoff
    rw [if_neg hno] at hburner
    obtain ⟨fstop, ffault, fok⟩ := State.readyFault_off hburner
    rw [htf] at ffault fok
    rw [hu]
    exact ⟨fun k => by simp [hoff] at k, ffault, fok, fun _ => fstop.trans hstop⟩
  · have hlock : s.stopAtReady.readyLockout = s.endLockout := by
      rw [State.stopAtReady_other (by simp [hlocked]), State.readyLockout, if_neg hno, if_pos ⟨hlocked, hpulse⟩]
    obtain ⟨eattempts, etf, efault, eok⟩ := s.endLockout_spec
    have hkeep : s.endLockout.readyFault = s.endLockout := by
      refine if_neg fun ⟨hf, hoff⟩ => ?_
      rw [etf] at hf
      rw [(efault hf).1] at hoff
      cases hoff
    rw [hlock, hkeep]
    exact ⟨fun _ => eattempts, efault, fun h => (eok h).1,
      fun h => (eok (h.resolve_left (by simp [hlocked]))).2⟩

/-- A burner left LOCKED_OUT while its pulse runs stays so. -/
theorem State.readied_pulsing {s : State} (hpin : s.boiler.lockoutPin = false) (hb : s.boiler.burner = .lockedOut)
    (hp : s.boiler.pulse ≠ none) : s.readied = s := by
  have hlock : s.stopAtReady.readyLockout = s := by
    rw [State.stopAtReady_other (by simp [hb]), State.readyLockout, if_neg (by simp [hpin]), if_neg fun k => hp k.2]
  rw [State.readied, hlock]
  exact if_neg fun k => by simp [hb] at k

/-- An OFF or LOCKED_OUT burner is at rest as READY sets. -/
theorem State.readied_resting {s : State} (hb : s.boiler.burner = .off ∨ s.boiler.burner = .lockedOut) :
    s.readied.boiler.resting := by
  cases hpin : s.boiler.lockoutPin with
  | true => exact .inr (.inl (State.readied_asserted hpin).1)
  | false =>
    by_cases hreleased : s.boiler.burner = .off ∨ (s.boiler.burner = .lockedOut ∧ s.boiler.pulse = none)
    · obtain ⟨-, hfault, hok, -⟩ := State.readied_released hpin hreleased
      by_cases hf : s.boiler.tf.status = some .fault
      · exact .inr (.inr (hfault hf).1)
      · exact .inl (hok hf)
    · have hlocked : s.boiler.burner = .lockedOut := hb.resolve_left fun h => hreleased (.inl h)
      rw [State.readied_pulsing hpin hlocked fun h => hreleased (.inr ⟨hlocked, h⟩)]
      exact .inr (.inl hlocked)

/-! ### What fell due while READY was low -/

theorem State.takeSample_resolved {s : State} (hr : s.Resolved) (tflow tout tcyl : Int) :
    (s.takeSample tflow tout tcyl).Resolved := by
  have h := s.samplesTo_sampled tflow tout tcyl
  have hsampled : (s.sampled tflow tout tcyl).Resolved := by
    generalize s.sampled tflow tout tcyl = u at h ⊢
    exact hr.of_eq (by rw [h]) (by rw [h]) (by rw [h]) (by rw [h]) (by rw [h]) (by rw [h]) (by rw [h]) (by rw [h]) (by rw [h])
  exact hsampled.settles (State.settlesTo_evaluate _)

theorem noticesKept_takeSample (s : State) (tflow tout tcyl : Int) : NoticesKept s (s.takeSample tflow tout tcyl) :=
  (noticesKept_sampled s tflow tout tcyl).trans (NoticesKept.of_link (State.settlesTo_evaluate _).link)

/-- A reading outside −400..1100 is a FAULT (R100). -/
theorem takeSensor_fault_iff (x : Sensor) (reading : Int) : (takeSensor x reading).status = some .fault ↔
    (reading < -400 ∨ 1100 < reading) := by
  unfold takeSensor
  split
  · next h => simp; omega
  · next h => simp; omega

/-- A sample due as READY sets (R100): the frame, the sensors, and the burner at rest. -/
structure SampleDue (s t : State) (tflow tout tcyl : Int) : Prop where
  time : t.time = { s.time with sampleDue := false }
  blocks : t.clock = s.clock ∧ t.points = s.points ∧ t.holds = s.holds ∧ t.house = s.house ∧ t.pending = s.pending
  notices : NoticesKept s t
  resolved : s.Resolved → t.Resolved
  sensors : if s.time.sampleDue then t.boiler.tf = takeSensor s.boiler.tf tflow ∧
      t.boiler.tout = takeSensor s.boiler.tout tout ∧ t.boiler.tc = takeSensor s.boiler.tc tcyl
    else t.boiler.tf = s.boiler.tf ∧ t.boiler.tout = s.boiler.tout ∧ t.boiler.tc = s.boiler.tc
  burner : s.boiler.resting → t.boiler.resting ∧ t.boiler.lastStop = s.boiler.lastStop ∧
    t.boiler.startList = s.boiler.startList ∧ t.boiler.attempts = s.boiler.attempts ∧
    (s.boiler.burner ≠ .off → t.boiler.burner = s.boiler.burner) ∧
    (s.boiler.burner = .off → s.time.sampleDue = true ∧ (tflow < -400 ∨ 1100 < tflow) →
      t.boiler.burner = .sensorFault ∧ t.raised .boiler = true) ∧
    (s.boiler.burner = .off → ¬(s.time.sampleDue = true ∧ (tflow < -400 ∨ 1100 < tflow)) → t.boiler.burner = .off)

theorem sampleDue_dueSample (s : State) (tflow tout tcyl : Int) : SampleDue s (s.dueSample tflow tout tcyl) tflow tout tcyl := by
  unfold State.dueSample
  split
  · next hdue =>
    generalize hu : ({ s with time := { s.time with sampleDue := false } } : State) = u
    have hboiler : u.boiler = s.boiler := by rw [← hu]
    obtain ⟨ftime, fclock, -, fpoints, fholds, fhouse, -, fpending⟩ := u.takeSample_frame tflow tout tcyl _ rfl
    have hsensors := u.takeSample_sensors tflow tout tcyl
    rw [hboiler] at hsensors
    refine ⟨by rw [ftime, ← hu], ⟨by rw [fclock, ← hu], by rw [fpoints, ← hu], by rw [fholds, ← hu], by rw [fhouse, ← hu],
      by rw [fpending, ← hu]⟩, ?_, fun hr => ?_, by rw [if_pos hdue]; exact hsensors, fun hs => ?_⟩
    · exact (NoticesKept.of_link (by rw [← hu]) : NoticesKept s u).trans (noticesKept_takeSample u _ _ _)
    · exact State.takeSample_resolved (hr.of_eq (by rw [← hu]) (by rw [← hu]) (by rw [← hu]) (by rw [← hu]) (by rw [← hu])
        (by rw [← hu]) (by rw [← hu]) (by rw [← hu]) (by rw [← hu])) _ _ _
    · have hburner := State.takeSample_burner (s := u) (by rw [hboiler]; exact hs) tflow tout tcyl _ rfl
      rw [hboiler, takeSensor_fault_iff] at hburner
      obtain ⟨brest, bstop, blist, battempts, bother, bfault, bok⟩ := hburner
      exact ⟨brest, bstop, blist, battempts, bother, fun k ks => bfault k ks.2, fun k ks => bok k fun hf => ks ⟨hdue, (takeSensor_fault_iff _ _).1 hf⟩⟩
  · next hdue =>
    have hfalse : s.time.sampleDue = false := by simpa using hdue
    refine ⟨by rw [← hfalse], ⟨rfl, rfl, rfl, rfl, rfl⟩, NoticesKept.of_link rfl, id, ?_, fun hs => ?_⟩
    · rw [if_neg hdue]; exact ⟨rfl, rfl, rfl⟩
    · exact ⟨hs, rfl, rfl, rfl, fun _ => rfl, fun _ k => absurd k.1 hdue, fun k _ => k⟩

end Sys2Proof.Machine

/-! READY after a warm reset, assembled (R22, R23, R40, R53, R70, R77, R100, R110, R112, R115, R126, R207). -/

namespace Sys2Proof.Machine

/-! ### The state before what fell due -/

/-- The state after the resolution, the burner's moves and the evaluations, before what fell due. -/
def State.atReady (s : State) : State := s.warmResolved.readied.evaluate

theorem State.atReady_frame (s r : State) (hr : r = s.atReady) :
    r.time = { s.time with ready := true, warm := false } ∧ r.clock = s.clock ∧ r.points = s.points ∧
    r.holds = s.holds ∧ r.house = s.house ∧
    (∀ z : Fin 16, r.zone z = { s.zone z with setpoint := s.roomSetpoint z, source := (s.roomCandidate z).2 }) ∧
    r.cylinder.target = s.cylinderResolved.1 ∧ r.cylinder.source = s.cylinderResolved.2 ∧
    r.bus = { s.bus with announce := rooms.filter (fun z =>
      decide (z ∈ s.time.wasCalling) || decide (s.roomSetpoint z ≠ (s.zone z).setpoint)) } ∧
    (∀ i : Fin 48, (r.device i).map Device.kept = (s.device i).map Device.kept) ∧ r.pending = s.pending := by
  obtain ⟨wTime, wClock, wPoints, wHolds, wHouse, -, wRegistry, wPending⟩ := s.warmResolved_frame
  have wZone := s.warmResolved_zone
  have wCylinder := s.warmResolved_cylinder
  have wBus := s.warmResolved_bus
  unfold State.atReady at hr
  generalize s.warmResolved = w at *
  have m := w.movesTo_readied
  generalize w.readied = u at m hr
  have e := u.settlesTo_evaluate
  rw [← hr] at e
  have hzone : ∀ z, r.zone z = w.zone z := fun z => by rw [State.zone, e.zones, m, State.zone]
  have hdevice : ∀ i, u.device i = s.device i := fun i => by
    have : u.registry = s.registry := by rw [m]; exact wRegistry
    rw [State.device, this, State.device]
  have hcylinder : r.cylinder.target = w.cylinder.target ∧ r.cylinder.source = w.cylinder.source := by
    rw [e.1, m]; exact ⟨rfl, rfl⟩
  rw [wCylinder] at hcylinder
  refine ⟨?_, ?_, ?_, ?_, ?_, fun z => (hzone z).trans (wZone z), hcylinder.1, hcylinder.2, ?_,
    fun i => (e.2 i).trans (by rw [hdevice]), ?_⟩
  · rw [e.time, m]; exact wTime
  · rw [e.clock, m]; exact wClock
  · rw [e.points, m]; exact wPoints
  · rw [e.holds, m]; exact wHolds
  · rw [e.house, m]; exact wHouse
  · rw [e.bus, m]; exact wBus
  · rw [e.pending, m]; exact wPending

theorem State.atReady_resolved (s : State) : s.atReady.Resolved := by
  have w := s.warmResolved_resolved
  unfold State.atReady
  generalize s.warmResolved = u at w ⊢
  have m := u.movesTo_readied
  have hreadied : u.readied.Resolved := by
    generalize u.readied = v at m ⊢
    exact w.of_eq (by rw [m]) (by rw [m]) (by rw [m]) (by rw [m]) (by rw [m]) (by rw [m]) (by rw [m]) (by rw [m]) (by rw [m])
  exact hreadied.settles (State.settlesTo_evaluate _)

/-- The sensors, the start list and the burner as LOCKOUT, its pulse and TF's status make them (R110, R115, R126). -/
structure BoilerAtReady (s r : State) : Prop where
  sensors : r.boiler.tf = s.boiler.tf ∧ r.boiler.tout = s.boiler.tout ∧ r.boiler.tc = s.boiler.tc
  resting : s.boiler.burner = .off ∨ s.boiler.burner = .lockedOut → r.boiler.resting ∧
    r.boiler.startList = s.boiler.startList
  stopped : s.boiler.burner = .off → r.boiler.lastStop = s.time.now
  asserted : s.boiler.lockoutPin = true → r.boiler.burner = .lockedOut ∧
    (s.boiler.burner ≠ .lockedOut → r.raised .boiler = true)
  released : s.boiler.lockoutPin = false →
    s.boiler.burner = .off ∨ (s.boiler.burner = .lockedOut ∧ s.boiler.pulse = none) →
    (s.boiler.burner = .lockedOut → r.boiler.attempts = 0) ∧
    (s.boiler.tf.status = some .fault → r.boiler.burner = .sensorFault ∧ r.raised .boiler = true) ∧
    (s.boiler.tf.status ≠ some .fault → r.boiler.burner = .off ∧ r.boiler.lastStop = s.time.now)

/-- The same before the evaluations. -/
theorem boilerAtReady_readied (s : State) : BoilerAtReady s s.warmResolved.readied := by
  obtain ⟨wTime, -, -, -, -, wBoiler, -, -⟩ := s.warmResolved_frame
  generalize s.warmResolved = w at *
  have hnow : w.time.now = s.time.now := by rw [wTime]
  have m := w.movesTo_readied
  refine ⟨?_, fun hb => ⟨State.readied_resting (by rw [wBoiler]; exact hb), ?_⟩, fun hb => ?_, fun hpin => ?_, fun hpin hb => ?_⟩
  · rw [m, ← wBoiler]; exact ⟨rfl, rfl, rfl⟩
  · rw [m, ← wBoiler]
  · cases hpin : s.boiler.lockoutPin with
    | true => rw [← hnow]; exact (State.readied_asserted (by rw [wBoiler]; exact hpin)).2.2 (by rw [wBoiler]; exact hb)
    | false =>
      obtain ⟨-, -, -, hstop⟩ := State.readied_released (s := w) (by rw [wBoiler]; exact hpin) (.inl (by rw [wBoiler]; exact hb))
      rw [← hnow]; exact hstop (.inl (by rw [wBoiler]; exact hb))
  · obtain ⟨hlocked, hraised, -⟩ := State.readied_asserted (s := w) (by rw [wBoiler]; exact hpin)
    rw [wBoiler] at hraised
    exact ⟨hlocked, hraised⟩
  · obtain ⟨hattempts, hfault, hok, hstop⟩ := State.readied_released (s := w) (by rw [wBoiler]; exact hpin)
      (by rw [wBoiler]; exact hb)
    rw [wBoiler] at hattempts hfault hok hstop
    rw [hnow] at hstop
    exact ⟨hattempts, hfault, fun h => ⟨hok h, hstop (.inr h)⟩⟩

/-- Evaluations keep what READY made of a boiler whose burner is at rest; no other sensor moves. -/
theorem BoilerAtReady.evaluate {s u r : State} (h : BoilerAtReady s u) (hr : r = u.evaluate) : BoilerAtReady s r := by
  have e := u.settlesTo_evaluate
  rw [← hr] at e
  have hnotices : NoticesKept u r := NoticesKept.of_link e.link
  have hrests : u.boiler.resting → u.boiler.RestsTo r.boiler := fun hu => by rw [hr]; exact State.restsTo_evaluate hu
  have hburner : u.boiler.resting → r.boiler.burner = u.boiler.burner := fun hu => by rw [hrests hu]
  have hstop : u.boiler.resting → r.boiler.lastStop = u.boiler.lastStop := fun hu => by rw [hrests hu]
  have hattempts : r.boiler.attempts = u.boiler.attempts := by rw [e.1]
  refine ⟨by rw [e.1]; exact h.sensors, fun hb => ?_, fun hb => ?_, fun hpin => ?_, fun hpin hb => ?_⟩
  · obtain ⟨hu, hlist⟩ := h.resting hb
    exact ⟨(hrests hu).resting hu, by rw [hrests hu]; exact hlist⟩
  · exact (hstop (h.resting (.inl hb)).1).trans (h.stopped hb)
  · obtain ⟨hlocked, hraised⟩ := h.asserted hpin
    exact ⟨(hburner (.inr (.inl hlocked))).trans hlocked, fun k => hnotices _ (hraised k)⟩
  · obtain ⟨h1, h2, h3⟩ := h.released hpin hb
    refine ⟨fun k => hattempts.trans (h1 k), fun k => ?_, fun k => ?_⟩
    · obtain ⟨hfault, hraised⟩ := h2 k
      exact ⟨(hburner (.inr (.inr hfault))).trans hfault, hnotices _ hraised⟩
    · obtain ⟨hoff, hlast⟩ := h3 k
      exact ⟨(hburner (.inl hoff)).trans hoff, (hstop (.inl hoff)).trans hlast⟩

theorem boilerAtReady (s : State) : BoilerAtReady s s.atReady := (boilerAtReady_readied s).evaluate rfl

/-! ### The minute and the control tick that fell due -/

/-- A minute tick due as READY sets (R23). -/
structure MinuteDue (s t : State) : Prop where
  time : t.time = { s.time with minuteDue := false }
  calm : Calm { s with time := { s.time with minuteDue := false } } t
  waits : s.time.minuteDue = false → t.clock = s.clock ∧ t.holds = s.holds ∧ t.house = s.house ∧
    t.boiler.startList = s.boiler.startList
  taken : s.time.minuteDue = true → MinuteTaken { s with time := { s.time with minuteDue := false } } t
  resolved : s.Resolved → t.Resolved

theorem minuteDue_dueMinute (s : State) : MinuteDue s s.dueMinute := by
  unfold State.dueMinute
  split
  · next hdue =>
    have h := minuteTaken_minuteTick { s with time := { s.time with minuteDue := false } }
    generalize State.minuteTick _ = t at h ⊢
    exact ⟨h.time, h.toCalm, fun k => by simp [hdue] at k, fun _ => h, fun _ => h.resolved⟩
  · next hdue =>
    have hfalse : s.time.minuteDue = false := by simpa using hdue
    have htime : s.time = { s.time with minuteDue := false } := by rw [← hfalse]
    exact ⟨htime, ⟨htime, rfl, rfl, ⟨rfl, rfl, rfl⟩, fun _ => ⟨rfl, rfl, rfl⟩, NoticesKept.of_link rfl⟩,
      fun _ => ⟨rfl, rfl, rfl, rfl⟩, fun k => absurd k hdue, id⟩

theorem State.dueControl_eq (s : State) : s.dueControl = { s with time := { s.time with
    controlDue := false, ticking := if s.time.controlDue then List.finRange 16 else s.time.ticking } } := by
  unfold State.dueControl
  cases h : s.time.controlDue with
  | true => rfl
  | false => rw [if_neg nofun, if_neg nofun, ← h]

/-- The burner after the sample due, and the minute tick due, have been taken. -/
theorem BoilerAtReady.due {s r u v : State} {tflow tout tcyl : Int} (h : BoilerAtReady s r)
    (hs : SampleDue r u tflow tout tcyl) (hm : MinuteDue u v) (hr : r.time.sampleDue = s.time.sampleDue) :
    let b := s.boiler
    let faulty := b.tf.status = some .fault ∨ (s.time.sampleDue = true ∧ (tflow < -400 ∨ 1100 < tflow))
    (b.burner = .off → v.boiler.lastStop = s.time.now) ∧
    (b.lockoutPin = true → v.boiler.burner = .lockedOut ∧ (b.burner ≠ .lockedOut → v.raised .boiler = true)) ∧
    (b.lockoutPin = false → b.burner = .off ∨ (b.burner = .lockedOut ∧ b.pulse = none) →
      (b.burner = .lockedOut → v.boiler.attempts = 0) ∧
      (faulty → v.boiler.burner = .sensorFault ∧ v.raised .boiler = true) ∧
      (¬ faulty → v.boiler.burner = .off ∧ v.boiler.lastStop = s.time.now)) ∧
    (s.time.sampleDue = true → v.boiler.tf = takeSensor b.tf tflow ∧ v.boiler.tout = takeSensor b.tout tout ∧
      v.boiler.tc = takeSensor b.tc tcyl) ∧
    (s.time.sampleDue = false → v.boiler.tf = b.tf ∧ v.boiler.tout = b.tout ∧ v.boiler.tc = b.tc) := by
  have hnotices : NoticesKept u v := hm.calm.notices
  have hsensors := hs.sensors
  obtain ⟨mtf, mtout, mtc⟩ : v.boiler.tf = u.boiler.tf ∧ v.boiler.tout = u.boiler.tout ∧ v.boiler.tc = u.boiler.tc :=
    hm.calm.sensors
  obtain ⟨rtf, rtout, rtc⟩ := h.sensors
  rw [hr, rtf, rtout, rtc, ← mtf, ← mtout, ← mtc] at hsensors
  have hkept : r.boiler.resting → v.boiler.burner = u.boiler.burner ∧ v.boiler.lastStop = r.boiler.lastStop ∧
      v.boiler.attempts = r.boiler.attempts := fun hrest => by
    obtain ⟨brest, bstop, -, battempts, -⟩ := hs.burner hrest
    obtain ⟨mburner, mstop, mattempts⟩ := hm.calm.burner brest
    exact ⟨mburner, mstop.trans bstop, mattempts.trans battempts⟩
  have hstays : r.boiler.resting → r.boiler.burner ≠ .off → v.boiler.burner = r.boiler.burner := fun hrest hoff => by
    obtain ⟨-, -, -, -, bother, -⟩ := hs.burner hrest
    exact (hkept hrest).1.trans (bother hoff)
  refine ⟨fun hb => ?_, fun hpin => ?_, fun hpin hb => ?_, fun k => ?_, fun k => ?_⟩
  · exact (hkept (h.resting (.inl hb)).1).2.1.trans (h.stopped hb)
  · obtain ⟨hlocked, hraised⟩ := h.asserted hpin
    exact ⟨(hstays (.inr (.inl hlocked)) (by simp [hlocked])).trans hlocked,
      fun k => hnotices _ (hs.notices _ (hraised k))⟩
  · have hrest := (h.resting (hb.imp_right fun k => k.1)).1
    obtain ⟨kburner, kstop, kattempts⟩ := hkept hrest
    obtain ⟨hattempts, hfault, hok⟩ := h.released hpin hb
    obtain ⟨-, -, -, -, -, bfault, bok⟩ := hs.burner hrest
    rw [hr] at bfault bok
    refine ⟨fun k => kattempts.trans (hattempts k), fun hf => ?_, fun hf => ?_⟩
    · by_cases htf : s.boiler.tf.status = some .fault
      · obtain ⟨hsensor, hraised⟩ := hfault htf
        exact ⟨(hstays hrest (by simp [hsensor])).trans hsensor, hnotices _ (hs.notices _ hraised)⟩
      · obtain ⟨usensor, uraised⟩ := bfault (hok htf).1 (hf.resolve_left htf)
        exact ⟨kburner.trans usensor, hnotices _ uraised⟩
    · obtain ⟨hoff, hlast⟩ := hok fun k => hf (.inl k)
      exact ⟨kburner.trans (bok hoff fun k => hf (.inr k)), kstop.trans hlast⟩
  · rwa [if_pos k] at hsensors
  · rwa [if_neg (by simp [k])] at hsensors

/-- The end of the return countdown, and a countdown that runs on (R70). -/
theorem House.counted_cases (h : House) : (h.countdown = none → h.counted = h) ∧ (∀ m, h.countdown = some m →
    (1 < m → h.counted = { h with countdown := some (m - 1) }) ∧
    (m ≤ 1 → h.mode ≠ .occupied → h.counted = if h.wakeReturn then
      { h with mode := .occupied, countdown := none, lastCause := some .return } else { h with countdown := none })) := by
  refine ⟨fun hn => by simp only [House.counted, hn], fun m hm => ⟨fun h1 => ?_, fun h1 hmode => ?_⟩⟩
  · simp only [House.counted, hm, if_neg (Nat.not_le.2 h1)]
  · cases hw : h.wakeReturn with
    | true => simp only [House.counted, hm, if_pos h1, hw, hmode, ne_eq, not_false_eq_true, and_self, if_true]
    | false => simp only [House.counted, hm, if_pos h1, hw, Bool.false_eq_true, false_and, if_false]

/-- The clock, the holds, the house record and the start list after the minute tick due (R24, R35, R53, R70, R112). -/
theorem MinuteDue.minute {s r u v : State} {tflow tout tcyl : Int} (hs : SampleDue r u tflow tout tcyl)
    (hm : MinuteDue u v) (h : BoilerAtReady s r) (hclock : r.clock = s.clock) (hpoints : r.points = s.points)
    (hholds : r.holds = s.holds) (hhouse : r.house = s.house) (hdue : u.time.minuteDue = true) :
    v.clock = s.clock.advanced ∧
    (∀ z, v.stackOf z = if s.clock.taken.holds then s.crossedStack z else (s.crossedStack z).filterMap countDown) ∧
    (v.house = if s.clock.taken.house then s.house else s.house.counted) ∧
    (s.clock.taken.house = false → ∀ m, s.house.countdown = some m → m ≤ 1 → s.house.wakeReturn = true →
      s.house.mode ≠ .occupied → v.raised .modeChanged = true) ∧
    (s.boiler.burner = .off ∨ s.boiler.burner = .lockedOut → v.boiler.startList =
      if s.clock.taken.starts then s.boiler.startList
      else (s.boiler.startList.map (· + 1)).filter (fun a => decide (a < 60))) := by
  obtain ⟨uclock, upoints, uholds, uhouse, -⟩ := hs.blocks
  rw [hclock] at uclock
  rw [hpoints] at upoints
  rw [hholds] at uholds
  rw [hhouse] at uhouse
  obtain ⟨-, mclock, mheld, mhouse, mwoken, mstarts, -⟩ := hm.taken hdue
  have hcrossed : ∀ z, State.crossedStack { u with time := { u.time with minuteDue := false } } z = s.crossedStack z :=
    fun z => by simp only [State.crossedStack, State.stackOf, State.pointsOf, uholds, upoints, uclock]
  dsimp only at mclock mhouse mwoken mstarts
  rw [uclock] at mclock mhouse mwoken mstarts
  rw [uhouse] at mhouse mwoken
  refine ⟨mclock, fun z => ?_, mhouse, mwoken, fun hb => ?_⟩
  · rw [mheld z, hcrossed z, ← uclock]
  · obtain ⟨hrest, hlist⟩ := h.resting hb
    obtain ⟨brest, -, blist, -⟩ := hs.burner hrest
    rw [mstarts brest, blist, hlist]

/-- The countdown of holds over the whole stack, left out where the Hold Stacks took the tick early. -/
theorem countDown_unless (taken : Bool) (l : List Hold) : (if taken then l else l.filterMap countDown) =
    l.filterMap (fun h => match h.ending with
      | .countdown m => if taken then some h else if m ≤ 1 then none else some { h with ending := .countdown (m - 1) }
      | _ => some h) := by
  cases taken with
  | false => rfl
  | true =>
    rw [if_pos rfl, eq_comm, List.filterMap_congr (g := some) fun h _ => ?_, List.filterMap_some]
    cases h.ending <;> rfl

theorem execMinuteTick_ready {s : State} {due : Nat} (hr : s.time.ready = true) (h : s.clock.minuteAt = some due) :
    exec .minuteTick s = .next (State.minuteTick { s with
      time := { s.time with now := max s.time.now due }, clock := { s.clock with minuteAt := some (due + 60000) } }) := by
  refine congrArg Host.Outcome.next ?_
  simp only [h]
  exact if_pos hr

theorem execSensorSample_ready {s : State} {due : Nat} (hr : s.time.ready = true) (h : s.time.sampleAt = some due)
    (tflow tout tcyl : Int) : exec (.sensorSample tflow tout tcyl) s = .next (State.takeSample { s with
      time := { s.time with now := max s.time.now due, sampleAt := some (due + 10000) } } tflow tout tcyl) := by
  refine congrArg Host.Outcome.next ?_
  simp only [h]
  exact if_pos hr

/-- Settles O7: the resolution and the burner's moves give `r`; the sample and the minute tick due then leave the burner
at rest but for TF's FAULT, and the resolution as the inputs stand. -/
theorem readyAfterWarmReset : Obligations.ReadyAfterWarmReset := by
  refine ⟨fun tflow tout tcyl s hresetn hready hwarm => ?_, fun s due hr => ⟨execMinuteTick_ready hr, execSensorSample_ready hr⟩⟩
  have hexec : exec (.readySet tflow tout tcyl) s =
      .next ((s.atReady.dueSample tflow tout tcyl).dueMinute).dueControl := by
    refine congrArg Host.Outcome.next ?_
    rw [if_neg (by simp [hready, hresetn]), if_pos hwarm]; rfl
  obtain ⟨rTime, rClock, rPoints, rHolds, rHouse, rZone, rTarget, rSource, rBus, rDevice, rPending⟩ := s.atReady_frame _ rfl
  have hboiler := boilerAtReady s
  have hresolved := s.atReady_resolved
  generalize s.atReady = r at *
  have hs := sampleDue_dueSample r tflow tout tcyl
  have hu : (if s.time.sampleDue then State.takeSample { r with time := { r.time with sampleDue := false } } tflow tout tcyl
      else r) = r.dueSample tflow tout tcyl := by unfold State.dueSample; rw [rTime]
  generalize r.dueSample tflow tout tcyl = u at *
  have uTime : u.time = { s.time with ready := true, warm := false, sampleDue := false } := by rw [hs.time, rTime]
  have hm := minuteDue_dueMinute u
  have hv : (if s.time.minuteDue then State.minuteTick { u with time := { u.time with minuteDue := false } } else u) =
      u.dueMinute := by unfold State.dueMinute; rw [uTime]
  generalize u.dueMinute = v at *
  have vTime : v.time = { s.time with ready := true, warm := false, sampleDue := false, minuteDue := false } := by
    rw [hm.time, uTime]
  have ht := v.dueControl_eq
  have hvResolved := hm.resolved (hs.resolved hresolved)
  have hsampleDue : r.time.sampleDue = s.time.sampleDue := by rw [rTime]
  have hminuteDue : u.time.minuteDue = s.time.minuteDue := by rw [uTime]
  obtain ⟨uClock, uPoints, uHolds, uHouse, uPending⟩ := hs.blocks
  refine ⟨r, v.dueControl, hexec, ⟨rTime, rClock, rPoints, rHolds, rHouse, rZone, rTarget, rSource, rBus,
    hboiler.stopped, rDevice, rPending⟩, ?_, ?_, ?_, fun hno => ?_, fun hdue => ?_, ?_⟩
  · dsimp only
    rw [hu, hv]
    unfold State.dueControl
    rw [vTime]; rfl
  · rw [ht, vTime]
  · have hburner := hboiler.due hs hm hsampleDue
    rw [ht]
    exact hburner
  · obtain ⟨mclock, mholds, mhouse, -⟩ := hm.waits (hminuteDue.trans hno)
    rw [ht]
    exact ⟨(mclock.trans uClock).trans rClock, (mholds.trans uHolds).trans rHolds, (mhouse.trans uHouse).trans rHouse⟩
  · obtain ⟨mclock, mheld, mhouse, mwoken, mstarts⟩ :=
      hm.minute hs hboiler rClock rPoints rHolds rHouse (hminuteDue.trans hdue)
    obtain ⟨cnone, csome⟩ := s.house.counted_cases
    rw [ht]
    refine ⟨mclock, fun z => ?_, fun hk => ?_, fun m hk htaken => ?_, mstarts⟩
    · exact (mheld z).trans (countDown_unless _ _)
    · refine mhouse.trans ?_
      rcases hk with hk | hk
      · rw [cnone hk, ite_self]
      · rw [if_pos hk]
    · rw [if_neg (by simp [htaken])] at mhouse
      obtain ⟨crun, cend⟩ := csome m hk
      exact ⟨fun h1 => mhouse.trans (crun h1), fun h1 hmode => ⟨mhouse.trans (cend h1 hmode),
        fun hw => mwoken htaken m hk h1 hw hmode⟩⟩
  · obtain ⟨hrooms, hzw⟩ := hvResolved
    rw [ht]
    exact ⟨hrooms, hzw, (hm.calm.pending.trans uPending).trans rPending⟩

end Sys2Proof.Machine

/-! What READ finds by kind and key (R200, R202): the searches over lists and stacks, and the record each key names. -/

namespace Sys2Proof.Machine

/-! ### Searches -/

/-- In a list sorted by a relation, a search finds an element that no other match precedes. -/
theorem find?_of_first {α : Type} {R : α → α → Prop} {l : List α} {p : α → Bool} {x : α} (hl : l.Pairwise R) (hx : x ∈ l)
    (hp : p x = true) (hfirst : ∀ y ∈ l, p y = true → ¬ R y x) : l.find? p = some x := by
  induction l with
  | nil => cases hx
  | cons y l ih =>
    obtain ⟨hy, hl⟩ := List.pairwise_cons.1 hl
    rcases List.mem_cons.1 hx with rfl | hx
    · exact List.find?_cons_of_pos hp
    · have hno : ¬ p y = true := fun h => hfirst y List.mem_cons_self h (hy x hx)
      rw [List.find?_cons_of_neg hno]
      exact ih hl hx fun z hz => hfirst z (List.mem_cons_of_mem _ hz)

/-- The first index at which a search through all of them answers. -/
theorem findSome?_finRange {α : Type} {n : Nat} {f : Fin n → Option α} {z : Fin n} {a : α} (hz : f z = some a)
    (hbefore : ∀ y < z, f y = none) : (List.finRange n).findSome? f = some a := by
  obtain ⟨before, after, hl⟩ := List.append_of_mem (List.mem_finRange z)
  have hsorted : (before ++ z :: after).Pairwise (· < ·) := hl ▸ List.pairwise_lt_finRange n
  refine List.findSome?_eq_some_iff.2 ⟨before, z, after, hl, hz, fun y hy => hbefore y ?_⟩
  exact (List.pairwise_append.1 hsorted).2.2 y hy z List.mem_cons_self

theorem zoneKey_eq {n : Nat} {z : Fin 17} (h : n = z.val) : zoneKey n = some z := by
  subst h; exact dif_pos z.isLt

theorem zoneKey_eq_none {n : Nat} (h : 16 < n) : zoneKey n = none := dif_neg (by omega)

theorem nat_toNat {n : Nat} (h : n ≤ 65535) : (nat n).toNat = n := by
  simp only [nat, BitVec.toNat_ofNat]
  omega

/-! ### Points (R27, R32) -/

/-- A list that rises strictly in time has one point at a time. -/
theorem pointAt_eq {l : List Point} {p : Point} {n : Nat} (hl : l.Pairwise (fun a b => a.time < b.time)) (hp : p ∈ l)
    (hn : p.time = n) : pointAt l n = some p :=
  find?_of_first hl hp (by simp [hn]) fun q _ hq => by
    have : q.time = n := by simpa using hq
    omega

theorem State.find_point {s : State} {key : Word} {zone : Byte} {z : Fin 17} {p : Point} (hz : zone.toNat = z.val)
    (hl : (s.pointsOf z).Pairwise (fun a b => a.time < b.time)) (hp : p ∈ s.pointsOf z) (hk : p.time = key.toNat) :
    s.find .point key 0 zone = .fields (pointView z p) := by
  unfold State.find
  simp only [zoneKey_eq hz, Option.bind_some, pointAt_eq hl hp hk]
  rfl

theorem State.find_point_notFound {s : State} {key : Word} {zone : Byte}
    (h : ∀ z : Fin 17, zone.toNat = z.val → ∀ p ∈ s.pointsOf z, p.time ≠ key.toNat) :
    s.find .point key 0 zone = .notFound := by
  have hnone : (zoneKey zone.toNat).bind (fun z => (pointAt (s.pointsOf z) key.toNat).map (pointView z)) = none := by
    refine Option.bind_eq_none_iff.2 fun z hz => ?_
    have hval : zone.toNat = z.val := by
      unfold zoneKey at hz
      split at hz
      · cases hz; rfl
      · cases hz
    have hno : pointAt (s.pointsOf z) key.toNat = none :=
      List.find?_eq_none.2 fun p hp => by simpa using h z hval p hp
    rw [hno]; rfl
  unfold State.find
  simp only [hnone]
  rfl

/-! ### Holds (R44, R46, R50) -/

theorem State.stack_toList (s : State) : s.holds.stack.toList = allZones.map s.stackOf := by
  refine List.ext_getElem (by simp [allZones]) fun i h1 h2 => ?_
  simp [allZones, State.stackOf]

theorem State.handlesInUse_eq (s : State) : s.handlesInUse = allZones.flatMap (fun z => (s.stackOf z).map Hold.handle) := by
  rw [State.handlesInUse, s.stack_toList, List.map_flatten, List.map_map, List.flatMap]
  rfl

theorem State.mem_handlesInUse {s : State} {n : Nat} : n ∈ s.handlesInUse ↔ ∃ z, ∃ h ∈ s.stackOf z, h.handle = n := by
  simp [s.handlesInUse_eq, allZones]

/-- A handle names one hold on one stack (R46). -/
theorem State.HoldInv.handle_unique {s : State} (hs : s.HoldInv) {y z : Fin 17} {g h : Hold} (hg : g ∈ s.stackOf y)
    (hh : h ∈ s.stackOf z) (he : g.handle = h.handle) : y = z := by
  obtain ⟨-, -, hnodup, -⟩ := hs
  rw [s.handlesInUse_eq, List.nodup_flatMap] at hnodup
  by_contra hne
  have hsymm : Std.Symm (Function.onFun List.Disjoint fun z => (s.stackOf z).map Hold.handle) := ⟨fun _ _ h => h.symm⟩
  have hdisjoint := hnodup.2.forall (List.mem_finRange y) (List.mem_finRange z) hne
  exact hdisjoint (List.mem_map_of_mem hg) (he ▸ List.mem_map_of_mem hh)

theorem State.HoldInv.stack_handles {s : State} (hs : s.HoldInv) (z : Fin 17) : ((s.stackOf z).map Hold.handle).Nodup := by
  obtain ⟨-, -, hnodup, -⟩ := hs
  rw [s.handlesInUse_eq, List.nodup_flatMap] at hnodup
  exact hnodup.1 z (List.mem_finRange z)

theorem State.HoldInv.handle_range {s : State} (hs : s.HoldInv) {z : Fin 17} {h : Hold} (hh : h ∈ s.stackOf z) :
    1 ≤ h.handle ∧ h.handle ≤ 65535 := by
  obtain ⟨-, -, -, hrange, -⟩ := hs
  exact hrange _ (State.mem_handlesInUse.2 ⟨z, h, hh, rfl⟩)

/-- The handle's hold stands below exactly the holds above it. -/
theorem State.HoldInv.above_ne {s : State} (hs : s.HoldInv) {z : Fin 17} {h : Hold} {above below : List Hold}
    (hl : s.stackOf z = above ++ h :: below) : ∀ g ∈ above, g.handle ≠ h.handle := by
  have hnodup := hs.stack_handles z
  rw [hl, List.map_append, List.map_cons] at hnodup
  intro g hg he
  exact (List.nodup_append.1 hnodup).2.2 _ (List.mem_map_of_mem hg) _ List.mem_cons_self he

theorem State.findHold_eq {s : State} (hs : s.HoldInv) {z : Fin 17} {h : Hold} {above below : List Hold}
    (hl : s.stackOf z = above ++ h :: below) : s.findHold h.handle = some (z, h) := by
  have hmem : h ∈ s.stackOf z := by rw [hl]; simp
  have hzone : s.zoneOfHandle h.handle = some z := by
    refine find?_of_first (List.pairwise_lt_finRange 17) (List.mem_finRange z) ?_ fun y _ hy => ?_
    · exact List.any_eq_true.2 ⟨h, hmem, by simp⟩
    · obtain ⟨g, hg, he⟩ := List.any_eq_true.1 hy
      rw [hs.handle_unique hg hmem (by simpa using he)]
      exact lt_irrefl z
  have hfind : (s.stackOf z).find? (fun g => g.handle == h.handle) = some h := by
    have habove : above.find? (fun g => g.handle == h.handle) = none :=
      List.find?_eq_none.2 fun g hg => by simpa using hs.above_ne hl g hg
    rw [hl, List.find?_append, habove]
    simp
  unfold State.findHold
  rw [hzone]
  simp only [hfind, Option.map_some]

theorem State.findHold_eq_none {s : State} {n : Nat} (h : n ∉ s.handlesInUse) : s.findHold n = none := by
  have hzone : s.zoneOfHandle n = none := by
    refine List.find?_eq_none.2 fun z _ hz => h ?_
    obtain ⟨g, hg, he⟩ := List.any_eq_true.1 hz
    exact State.mem_handlesInUse.2 ⟨z, g, hg, by simpa using he⟩
  unfold State.findHold
  rw [hzone]

theorem State.find_hold {s : State} {key : Word} {zone : Byte} (hs : s.HoldInv) {z : Fin 17} {h : Hold}
    {above below : List Hold} (hl : s.stackOf z = above ++ h :: below) (hk : h.handle = key.toNat) :
    s.find .hold key 0 zone = .fields (s.holdView z h) := by
  have hmem : h ∈ s.stackOf z := by rw [hl]; simp
  have hrange := hs.handle_range hmem
  unfold State.find
  dsimp only
  rw [if_neg (by omega), ← hk, State.findHold_eq hs hl]
  rfl

theorem State.find_hold_notFound {s : State} {key : Word} {zone : Byte} (hk : key ≠ 0) (h : key.toNat ∉ s.handlesInUse) :
    s.find .hold key 0 zone = .notFound := by
  have hne : key.toNat ≠ 0 := fun h0 => hk (BitVec.eq_of_toNat_eq h0)
  unfold State.find
  dsimp only
  rw [if_neg hne, State.findHold_eq_none h]
  rfl

/-- The place of a hold in its stack is the number of holds above it. -/
theorem State.HoldInv.findIdx_eq {s : State} (hs : s.HoldInv) {z : Fin 17} {h : Hold} {above below : List Hold}
    (hl : s.stackOf z = above ++ h :: below) :
    (s.stackOf z).findIdx (fun g => g.handle == h.handle) = above.length := by
  have habove : above.findIdx (fun g => g.handle == h.handle) = above.length :=
    List.findIdx_eq_length_of_false fun g hg => by simpa using hs.above_ne hl g hg
  rw [hl, List.findIdx_append, habove]
  simp [List.findIdx_cons]

/-! ### Devices and join entries (R162, R166, R168) -/

theorem State.find_device {s : State} {key : Word} {zone : Byte} {i : Fin 48} {d : Device} (hk : key.toNat = i.val)
    (hd : s.device i = some d) : s.find .device key 0 zone = .fields (s.deviceView i d) := by
  unfold State.find
  dsimp only
  rw [if_neg (by omega), slotKey_eq hk, Option.bind_some, hd]
  rfl

theorem State.find_device_notFound {s : State} {key : Word} {zone : Byte} (hk : key.toNat ≠ 65535)
    (h : ∀ i : Fin 48, key.toNat = i.val → s.device i = none) : s.find .device key 0 zone = .notFound := by
  have hnone : (slotKey key.toNat).bind (fun i => (s.device i).map (s.deviceView i)) = none := by
    unfold slotKey
    split
    · next hlt => rw [Option.bind_some, h ⟨key.toNat, hlt⟩ rfl]; rfl
    · rfl
  unfold State.find
  dsimp only
  rw [if_neg hk, hnone]
  rfl

theorem State.SerialInv.numbers_rise {s : State} (h : s.SerialInv) :
    s.bus.joins.Pairwise (fun e f => e.number < f.number) := List.pairwise_map.1 h.2.2.1

theorem State.SerialInv.number_le {s : State} (h : s.SerialInv) {e : JoinEntry} (he : e ∈ s.bus.joins) :
    e.number ≤ 65535 := by
  obtain ⟨-, -, -, hentries, hlast⟩ := h
  obtain ⟨-, hle, -⟩ := hentries e he
  omega

theorem State.find_join {s : State} {key : Word} {zone : Byte} {e : JoinEntry} (hs : s.SerialInv) (he : e ∈ s.bus.joins)
    (hk : e.number = key.toNat) : s.find .join key 0 zone = .fields (joinView e) := by
  have hfind : s.joinEntry key.toNat = some e := find?_of_first hs.numbers_rise he (by simp [hk]) fun f _ hf => by
    have : f.number = key.toNat := by simpa using hf
    omega
  unfold State.find
  dsimp only
  rw [hfind]
  rfl

theorem State.find_join_notFound {s : State} {key : Word} {zone : Byte} (h : ∀ e ∈ s.bus.joins, e.number ≠ key.toNat) :
    s.find .join key 0 zone = .notFound := by
  unfold State.find
  dsimp only
  rw [State.joinEntry_eq_none h]
  rfl

/-! ### Zones (R200) -/

theorem State.find_zone {s : State} {key : Word} {z : Fin 17} (hk : key.toNat = z.val) (view : Nat) (zone : Byte) :
    s.find .zone key view zone = (s.zoneView z view).elim .noView .fields := by
  unfold State.find
  simp only [zoneKey_eq hk]

end Sys2Proof.Machine

/-! SEEK and NEXT (R204): which record follows a cursor, and what NEXT makes of it. -/

namespace Sys2Proof.Machine

/-! ### What NEXT answers -/

theorem exec_next (view first : Byte) (s : State) :
    exec (.next view first) s = .next (s.command (.next view first) (fun t => t.nextRecord view first)) := rfl

/-- The frame that carries NEXT moves no record that a cursor walks. -/
theorem State.received_following (s : State) (i : Instr) (c : Cursor) : (s.received i).following c = s.following c := by
  unfold State.following
  cases c.kind <;> rfl

/-- A cursor that a record follows walks one of the five collections. -/
theorem walks_of_following {s : State} {c : Cursor} {w : Walked} (h : s.following c = some w) : walks c.kind = true := by
  unfold State.following at h
  revert h
  cases c.kind <;> intro h
  all_goals first
    | rfl
    | cases h

theorem State.received_find {s : State} {i : Instr} {kind : RecordKind} (h : walks kind = true) (key : Word) (view : Nat)
    (zone : Byte) : (s.received i).find kind key view zone = s.find kind key view zone := by
  cases kind <;> first | rfl | cases h

theorem State.nextRecord_none {s : State} (h : s.link.cursor = none) (view first : Byte) :
    s.nextRecord view first = refuse .state s := by
  simp only [State.nextRecord, h]

theorem State.nextRecord_finished {s : State} {c : Cursor} (h : s.link.cursor = some c) (hf : s.following c = none)
    (view first : Byte) : s.nextRecord view first = refuse .finished s := by
  simp only [State.nextRecord, h, hf]

theorem State.nextRecord_some {s : State} {c : Cursor} {w : Walked} (h : s.link.cursor = some c)
    (hf : s.following c = some w) (view first : Byte) : s.nextRecord view first = s.returnNext c w view first := by
  simp only [State.nextRecord, h, hf]

theorem firstOk_eq_false {l : List Word} {n : Nat} (h : n = 0 ∨ l.length < n) : firstOk l n = false := by
  unfold firstOk
  rcases h with h | h <;> simp <;> omega

theorem firstOk_eq_true {l : List Word} {n : Nat} (h1 : 1 ≤ n) (h2 : n ≤ l.length) : firstOk l n = true := by
  simp [firstOk, h1, h2]

theorem State.returnNext_badValue {s : State} {c : Cursor} {w : Walked} {view first : Byte}
    (h : ∀ l, s.find c.kind w.key view.toNat w.place.zoneByte = .fields l → first.toNat = 0 ∨ l.length < first.toNat) :
    s.returnNext c w view first = refuse .badValue s := by
  unfold State.returnNext
  split
  · next l hl => rw [firstOk_eq_false (h l hl)]; rfl
  · rfl
  · rfl

theorem State.returnNext_fields {s : State} {c : Cursor} {w : Walked} {view first : Byte} {l : List Word}
    (h : s.find c.kind w.key view.toNat w.place.zoneByte = .fields l) (h1 : 1 ≤ first.toNat) (h2 : first.toNat ≤ l.length) :
    s.returnNext c w view first = ((s.afterRead c.kind w.key).setCursor (some { c with last := some w.place }),
      { result := .ok, payload := keyedPayload w.key l first.toNat }) := by
  simp only [State.returnNext, h, firstOk_eq_true h1 h2, if_true]

theorem next_finished {s : State} {c : Cursor} {view first : Byte} (ht : s.takes) (hc : s.link.cursor = some c)
    (hf : s.following c = none) :
    exec (.next view first) s = .next ((s.received (.next view first)).bare (.next view first) .finished) :=
  exec_refused ht (exec_next view first s)
    (State.nextRecord_finished (s := s.received (.next view first)) hc ((s.received_following _ c).trans hf) view first)

/-- NEXT returns the record that follows the cursor (R204). -/
theorem next_returns {s : State} {c : Cursor} {w : Walked} {view first : Byte} {l : List Word} (ht : s.takes)
    (hc : s.link.cursor = some c) (hf : s.following c = some w)
    (hl : s.find c.kind w.key view.toNat w.place.zoneByte = .fields l) (h1 : 1 ≤ first.toNat) (h2 : first.toNat ≤ l.length) :
    exec (.next view first) s =
      .next (State.holding (((s.received (.next view first)).afterRead c.kind w.key).setCursor
          (some { c with last := some w.place })) (.next view first) .ok (keyedPayload w.key l first.toNat)) := by
  have hrecord := State.nextRecord_some (s := s.received (.next view first)) hc ((s.received_following _ c).trans hf) view first
  rw [State.returnNext_fields ((State.received_find (walks_of_following hf) _ _ _).trans hl) h1 h2] at hrecord
  rw [exec_next, State.command_of_takes ht, hrecord]

/-- A walk of records without a bad-telegram count changes nothing but the cursor. -/
theorem next_gives {s : State} {kind : RecordKind} {last : Option CursorKey} {place : CursorKey} {key : Word}
    {view first : Byte} {l : List Word} (ht : s.takes) (hkind : kind ≠ .device) (hc : s.link.cursor = some { kind, last })
    (hf : s.following { kind, last } = some { place, key }) (hl : s.find kind key view.toNat place.zoneByte = .fields l)
    (h1 : 1 ≤ first.toNat) (h2 : first.toNat ≤ l.length) :
    exec (.next view first) s = .next (((s.received (.next view first)).setCursor (some { kind, last := some place })).holding
      (.next view first) .ok (keyedPayload key l first.toNat)) := by
  have hafter : (s.received (.next view first)).afterRead kind key = s.received (.next view first) := by
    cases kind <;> first | rfl | exact absurd rfl hkind
  have h := next_returns ht hc hf hl h1 h2
  rwa [hafter] at h

/-! ### Which record follows: zones and points (R3, R32) -/

theorem nextZone_eq {last : Option (Fin 17)} {z : Fin 17} (h : z.val = last.elim 0 (fun y => y.val + 1)) :
    nextZone (last.map (fun y => .zone y.val)) = some { place := .zone z.val, key := nat z.val } := by
  have hz := z.isLt
  cases last with
  | none =>
    have h : z.val = 0 := h
    rw [h]; rfl
  | some y =>
    have h : z.val = y.val + 1 := h
    rw [h] at hz ⊢
    exact if_pos hz

/-- A point lies after the place of the last one returned. -/
theorem pointAfter_iff (last : Option (Nat × Nat)) (z : Fin 17) (p : Point) :
    pointAfter (last.map (fun k => .point k.1 k.2)) z p = true ↔ ∀ k ∈ last, k.1 < z.val ∨ (k.1 = z.val ∧ k.2 < p.time) := by
  cases last <;> simp [pointAfter]

theorem State.nextPointOf_eq_none {s : State} {last : Option CursorKey}
    (h : ∀ y, ∀ q ∈ s.pointsOf y, ¬ pointAfter last y q = true) : s.nextPointOf last = none := by
  refine List.findSome?_eq_none_iff.2 fun y _ => ?_
  rw [State.pointIn, List.find?_eq_none.2 (h y)]
  rfl

theorem State.nextPointOf_eq {s : State} {last : Option CursorKey} {z : Fin 17} {p : Point} (hs : s.ProgramInv)
    (hp : p ∈ s.pointsOf z) (hlater : pointAfter last z p = true)
    (hfirst : ∀ y, ∀ q ∈ s.pointsOf y, pointAfter last y q = true → z < y ∨ (z = y ∧ p.time ≤ q.time)) :
    s.nextPointOf last = some { place := .point z.val p.time, key := nat p.time } := by
  refine findSome?_finRange (z := z) ?_ fun y hy => ?_
  · have hfind : (s.pointsOf z).find? (pointAfter last z) = some p :=
      find?_of_first (hs.1 z).1 hp hlater fun q hq hqlater hlt => by
        rcases hfirst z q hq hqlater with h | ⟨-, h⟩
        · exact lt_irrefl z h
        · omega
    rw [State.pointIn, hfind]; rfl
  · have hnone : (s.pointsOf y).find? (pointAfter last y) = none := List.find?_eq_none.2 fun q hq hqlater => by
      rcases hfirst y q hq hqlater with h | ⟨h, -⟩
      · exact absurd (h.trans hy) (lt_irrefl z)
      · exact absurd (h ▸ hy) (lt_irrefl z)
    rw [State.pointIn, hnone]; rfl

/-! ### Holds (R56) -/

theorem newest_mem_max (h : Hold) (l : List Hold) :
    (l.foldl (fun m g => if m.pushed < g.pushed then g else m) h) ∈ h :: l ∧
    ∀ g ∈ h :: l, g.pushed ≤ (l.foldl (fun m g => if m.pushed < g.pushed then g else m) h).pushed := by
  induction l generalizing h with
  | nil => simp
  | cons k l ih =>
    obtain ⟨hmem, hmax⟩ := ih (if h.pushed < k.pushed then k else h)
    rw [List.foldl_cons]
    generalize hm : List.foldl _ _ l = m at hmem hmax
    have hstart := hmax _ List.mem_cons_self
    constructor
    · rcases List.mem_cons.1 hmem with he | hl
      · rw [he]; split <;> simp
      · simp [hl]
    · intro g hg
      rcases List.mem_cons.1 hg with rfl | hg
      · split at hstart <;> omega
      · rcases List.mem_cons.1 hg with rfl | hg
        · split at hstart <;> omega
        · exact hmax g (List.mem_cons_of_mem _ hg)

/-- The hold with the greatest push number is the newest. -/
theorem newest_eq {l : List Hold} {h : Hold} (hmem : h ∈ l) (hmax : ∀ g ∈ l, g ≠ h → g.pushed < h.pushed) :
    newest l = some h := by
  cases l with
  | nil => cases hmem
  | cons k l =>
    obtain ⟨hin, hle⟩ := newest_mem_max k l
    refine congrArg some (by_contra fun hne => ?_)
    exact absurd (hle h hmem) (Nat.not_le.2 (hmax _ hin hne))

/-- The place of the last hold returned. -/
def holdPlace (last : Option (Fin 17 × Nat)) : Option CursorKey := last.map (fun k => .hold k.1.val k.2)

theorem State.holdIn_none (s : State) (z : Fin 17) : s.holdIn (holdPlace none) z = (s.stackOf z).head? := rfl

theorem State.holdIn_same (s : State) (z : Fin 17) (n : Nat) :
    s.holdIn (holdPlace (some (z, n))) z = newest ((s.stackOf z).filter (fun h => decide (h.pushed < n))) := if_pos rfl

theorem State.holdIn_later (s : State) {y z : Fin 17} (h : y < z) (n : Nat) :
    s.holdIn (holdPlace (some (y, n))) z = (s.stackOf z).head? := by
  have hne : y.val ≠ z.val := fun e => absurd (Fin.ext e ▸ h) (lt_irrefl z)
  exact (if_neg hne).trans (if_pos h)

theorem State.holdIn_earlier (s : State) {y z : Fin 17} (h : z < y) (n : Nat) :
    s.holdIn (holdPlace (some (y, n))) z = none := by
  have hlt : z.val < y.val := h
  exact (if_neg hlt.ne').trans (if_neg (Nat.not_lt.2 hlt.le))

/-- No hold of the zone follows: none is older than the last returned, or the later zone has none. -/
theorem State.holdIn_eq_none {s : State} {last : Option (Fin 17 × Nat)} {y : Fin 17}
    (hsame : ∀ k ∈ last, k.1 = y → ∀ g ∈ s.stackOf k.1, k.2 ≤ g.pushed) (hlater : (∀ k ∈ last, k.1 < y) → s.stackOf y = []) :
    s.holdIn (holdPlace last) y = none := by
  cases last with
  | none => rw [s.holdIn_none, hlater nofun]; rfl
  | some k =>
    obtain ⟨z, n⟩ := k
    rcases lt_trichotomy z y with h | rfl | h
    · rw [s.holdIn_later h, hlater fun k hk => by cases hk; exact h]; rfl
    · have hnone : (s.stackOf z).filter (fun h => decide (h.pushed < n)) = [] :=
        List.filter_eq_nil_iff.2 fun g hg => by simpa using hsame _ rfl rfl g hg
      rw [s.holdIn_same, hnone]; rfl
    · exact s.holdIn_earlier h n

theorem State.nextHoldOf_eq_none {s : State} {last : Option CursorKey} (h : ∀ y, s.holdIn last y = none) :
    s.nextHoldOf last = none :=
  List.findSome?_eq_none_iff.2 fun y _ => by rw [h y]; rfl

theorem State.nextHoldOf_eq {s : State} {last : Option CursorKey} {z : Fin 17} {h : Hold} (hz : s.holdIn last z = some h)
    (hbefore : ∀ y < z, s.holdIn last y = none) :
    s.nextHoldOf last = some { place := .hold z.val h.pushed, key := nat h.handle } := by
  refine findSome?_finRange (z := z) ?_ fun y hy => ?_
  · rw [hz]; rfl
  · rw [hbefore y hy]; rfl

/-! ### Devices and join entries (R162, R166) -/

theorem slotAfter_iff (last : Option (Fin 48)) (i : Fin 48) :
    slotAfter (last.map (fun j => .device j.val)) i = true ↔ ∀ j ∈ last, j < i := by
  cases last <;> simp [slotAfter]

theorem State.nextDeviceOf_eq_none {s : State} {last : Option (Fin 48)}
    (h : ∀ k : Fin 48, (∀ j ∈ last, j < k) → s.device k = none) :
    s.nextDeviceOf (last.map (fun j => .device j.val)) = none := by
  have hnone : slots.find? (fun i => slotAfter (last.map (fun j => .device j.val)) i && (s.device i).isSome) = none := by
    refine List.find?_eq_none.2 fun i _ hi => ?_
    obtain ⟨hafter, hsome⟩ := Bool.and_eq_true_iff.1 hi
    rw [h i ((slotAfter_iff last i).1 hafter)] at hsome
    cases hsome
  rw [State.nextDeviceOf, hnone]; rfl

theorem State.nextDeviceOf_eq {s : State} {last : Option (Fin 48)} {i : Fin 48} {d : Device} (hi : ∀ j ∈ last, j < i)
    (hd : s.device i = some d) (hfirst : ∀ k < i, (∀ j ∈ last, j < k) → s.device k = none) :
    s.nextDeviceOf (last.map (fun j => .device j.val)) = some { place := .device i.val, key := nat i.val } := by
  have hfind : slots.find? (fun i => slotAfter (last.map (fun j => .device j.val)) i && (s.device i).isSome) = some i := by
    refine find?_of_first (List.pairwise_lt_finRange 48) (List.mem_finRange i) ?_ fun k _ hk hlt => ?_
    · rw [hd, (slotAfter_iff last i).2 hi]; rfl
    · obtain ⟨hafter, hsome⟩ := Bool.and_eq_true_iff.1 hk
      rw [hfirst k hlt ((slotAfter_iff last k).1 hafter)] at hsome
      cases hsome
  rw [State.nextDeviceOf, hfind]; rfl

theorem joinAfter_iff (last : Option Nat) (e : JoinEntry) :
    joinAfter (last.map CursorKey.join) e = true ↔ ∀ n ∈ last, n < e.number := by
  cases last <;> simp [joinAfter]

theorem State.nextJoinOf_eq_none {s : State} {last : Option Nat} (h : ∀ e ∈ s.bus.joins, ∃ n ∈ last, e.number ≤ n) :
    s.nextJoinOf (last.map CursorKey.join) = none := by
  have hnone : s.bus.joins.find? (joinAfter (last.map CursorKey.join)) = none := by
    refine List.find?_eq_none.2 fun e he hafter => ?_
    obtain ⟨n, hn, hle⟩ := h e he
    exact absurd ((joinAfter_iff last e).1 hafter n hn) (Nat.not_lt.2 hle)
  rw [State.nextJoinOf, hnone]; rfl

theorem State.nextJoinOf_eq {s : State} {last : Option Nat} {e : JoinEntry} (hs : s.SerialInv) (he : e ∈ s.bus.joins)
    (hafter : ∀ n ∈ last, n < e.number) (hfirst : ∀ f ∈ s.bus.joins, (∀ n ∈ last, n < f.number) → e.number ≤ f.number) :
    s.nextJoinOf (last.map CursorKey.join) = some { place := .join e.number, key := nat e.number } := by
  have hfind : s.bus.joins.find? (joinAfter (last.map CursorKey.join)) = some e :=
    find?_of_first hs.numbers_rise he ((joinAfter_iff last e).2 hafter) fun f hf hfafter =>
      Nat.not_lt.2 (hfirst f hf ((joinAfter_iff last f).1 hfafter))
  rw [State.nextJoinOf, hfind]; rfl

/-! ### The walk assembled -/

theorem byte_zero {view : Byte} (h : view = 0) : view.toNat = 0 := by rw [h]; rfl

/-- NEXT over points (R32). -/
theorem next_point {s : State} {last : Option (Nat × Nat)} {z : Fin 17} {p : Point} {view first : Byte} (ht : s.takes)
    (hs : s.ProgramInv) (hview : view = 0)
    (hc : s.link.cursor = some { kind := .point, last := last.map (fun k => .point k.1 k.2) }) (hp : p ∈ s.pointsOf z)
    (hlater : ∀ k ∈ last, k.1 < z.val ∨ (k.1 = z.val ∧ k.2 < p.time))
    (hfirst : ∀ y : Fin 17, ∀ q ∈ s.pointsOf y, (∀ k ∈ last, k.1 < y.val ∨ (k.1 = y.val ∧ k.2 < q.time)) →
      z < y ∨ (z = y ∧ p.time ≤ q.time))
    (h1 : 1 ≤ first.toNat) (h2 : first.toNat ≤ (pointView z p).length) :
    exec (.next view first) s = .next (((s.received (.next view first)).setCursor
      (some { kind := .point, last := some (.point z.val p.time) })).holding (.next view first) .ok
      (keyedPayload (nat p.time) (pointView z p) first.toNat)) := by
  have hf : s.nextPointOf (last.map (fun k => .point k.1 k.2)) = some { place := .point z.val p.time, key := nat p.time } :=
    State.nextPointOf_eq hs hp ((pointAfter_iff last z p).2 hlater) fun y q hq hqlater =>
      hfirst y q hq ((pointAfter_iff last y q).1 hqlater)
  obtain ⟨hrise, -, hpoints⟩ := hs.1 z
  have hzone : (CursorKey.zoneByte (.point z.val p.time)).toNat = z.val := by
    simp only [CursorKey.zoneByte, BitVec.toNat_ofNat]; omega
  have hkey : p.time = (nat p.time).toNat := (nat_toNat (by have := (hpoints p hp).1; omega)).symm
  refine next_gives ht nofun hc hf ?_ h1 h2
  rw [byte_zero hview]
  exact State.find_point hzone hrise hp hkey

/-- NEXT over holds (R56). -/
theorem next_hold {s : State} {last : Option (Fin 17 × Nat)} {z : Fin 17} {h : Hold} {view first : Byte} (ht : s.takes)
    (hs : s.HoldInv) (hview : view = 0) (hc : s.link.cursor = some { kind := .hold, last := holdPlace last })
    (hfollows : (∃ n, last = some (z, n) ∧ h ∈ s.stackOf z ∧ h.pushed < n ∧
        ∀ g ∈ s.stackOf z, g.pushed < n → g ≠ h → g.pushed < h.pushed) ∨
      ((∀ k ∈ last, k.1 < z ∧ ∀ g ∈ s.stackOf k.1, k.2 ≤ g.pushed) ∧ (s.stackOf z).head? = some h ∧
        ∀ y : Fin 17, y < z → (∀ k ∈ last, k.1 < y) → s.stackOf y = []))
    (h1 : 1 ≤ first.toNat) (h2 : first.toNat ≤ (s.holdView z h).length) :
    exec (.next view first) s = .next (((s.received (.next view first)).setCursor
      (some { kind := .hold, last := some (.hold z.val h.pushed) })).holding (.next view first) .ok
      (keyedPayload (nat h.handle) (s.holdView z h) first.toNat)) := by
  have hf : h ∈ s.stackOf z ∧
      s.nextHoldOf (holdPlace last) = some { place := .hold z.val h.pushed, key := nat h.handle } := by
    rcases hfollows with ⟨n, rfl, hmem, hlt, hmax⟩ | ⟨hpast, hhead, hempty⟩
    · refine ⟨hmem, State.nextHoldOf_eq ?_ fun y hy => s.holdIn_earlier hy n⟩
      rw [s.holdIn_same]
      refine newest_eq (List.mem_filter.2 ⟨hmem, by simpa using hlt⟩) fun g hg hne => ?_
      obtain ⟨hg, hgn⟩ := List.mem_filter.1 hg
      exact hmax g hg (by simpa using hgn) hne
    · refine ⟨List.mem_of_head? hhead, State.nextHoldOf_eq ?_ fun y hy => ?_⟩
      · cases last with
        | none => exact hhead
        | some k => exact (s.holdIn_later (hpast k rfl).1 k.2).trans hhead
      · exact State.holdIn_eq_none (fun k hk _ => (hpast k hk).2) (hempty y hy)
  obtain ⟨hmem, hf⟩ := hf
  obtain ⟨above, below, hl⟩ := List.append_of_mem hmem
  refine next_gives ht nofun hc hf ?_ h1 h2
  rw [byte_zero hview]
  exact State.find_hold hs hl (nat_toNat (hs.handle_range hmem).2).symm

/-- NEXT over devices restarts the bad-telegram count of the record returned (R162). -/
theorem next_device {s : State} {last : Option (Fin 48)} {i : Fin 48} {d : Device} {view first : Byte} (ht : s.takes)
    (hc : s.link.cursor = some { kind := .device, last := last.map (fun j => .device j.val) }) (hi : ∀ j ∈ last, j < i)
    (hd : s.device i = some d) (hfirst : ∀ k < i, (∀ j ∈ last, j < k) → s.device k = none) (hview : view = 0)
    (h1 : 1 ≤ first.toNat) (h2 : first.toNat ≤ (s.deviceView i d).length) :
    exec (.next view first) s = .next ((((s.received (.next view first)).setDevice i (some { d with bad := 0 })).setCursor
      (some { kind := .device, last := some (.device i.val) })).holding (.next view first) .ok
      (keyedPayload (nat i.val) (s.deviceView i d) first.toNat)) := by
  have hkey : (nat i.val).toNat = i.val := nat_toNat (by omega)
  have hafter : (s.received (.next view first)).afterRead .device (nat i.val) =
      (s.received (.next view first)).setDevice i (some { d with bad := 0 }) := by
    have hd' : (s.received (.next view first)).device i = some d := hd
    simp only [State.afterRead, slotKey_eq hkey, State.clearBad, hd']
  have h := next_returns (c := { kind := .device, last := last.map (fun j => .device j.val) })
    (w := { place := .device i.val, key := nat i.val }) (l := s.deviceView i d) ht hc (State.nextDeviceOf_eq hi hd hfirst)
    (by rw [byte_zero hview]; exact State.find_device hkey hd) h1 h2
  rwa [hafter] at h

/-- NEXT over join entries (R166). -/
theorem next_join {s : State} {last : Option Nat} {e : JoinEntry} {view first : Byte} (ht : s.takes)
    (he : e ∈ s.bus.joins) (hs : s.SerialInv) (hview : view = 0)
    (hc : s.link.cursor = some { kind := .join, last := last.map CursorKey.join }) (hafter : ∀ n ∈ last, n < e.number)
    (hfirst : ∀ f ∈ s.bus.joins, (∀ n ∈ last, n < f.number) → e.number ≤ f.number)
    (h1 : 1 ≤ first.toNat) (h2 : first.toNat ≤ (joinView e).length) :
    exec (.next view first) s = .next (((s.received (.next view first)).setCursor
      (some { kind := .join, last := some (.join e.number) })).holding (.next view first) .ok
      (keyedPayload (nat e.number) (joinView e) first.toNat)) := by
  refine next_gives ht nofun hc (State.nextJoinOf_eq hs he hafter hfirst) ?_ h1 h2
  rw [byte_zero hview]
  exact State.find_join hs he (nat_toNat (hs.number_le he)).symm

/-- The first part of O12: SEEK, and NEXT where it returns no record. -/
theorem seekAndRefusals :
    (∀ (kind : RecordKind) (s : State), s.takes → walks kind = true → exec (.seek kind) s =
      .next (((s.received (.seek kind)).bare (.seek kind) .ok).setCursor (some { kind, last := none }))) ∧
    (∀ (view first : Byte) (s : State), s.takes → s.link.cursor = none → exec (.next view first) s =
      .next ((s.received (.next view first)).bare (.next view first) .state)) ∧
    (∀ (view first : Byte) (s : State) (c : Cursor), s.takes → s.link.cursor = some c → s.following c = none →
      exec (.next view first) s = .next ((s.received (.next view first)).bare (.next view first) .finished)) ∧
    (∀ (view first : Byte) (s : State) (c : Cursor) (w : Walked), s.takes → s.link.cursor = some c →
      s.following c = some w → (∀ l, s.find c.kind w.key view.toNat w.place.zoneByte = .fields l →
        first.toNat = 0 ∨ l.length < first.toNat) →
      exec (.next view first) s = .next ((s.received (.next view first)).bare (.next view first) .badValue)) := by
  refine ⟨fun kind s ht hwalks => ?_, fun view first s ht hc => ?_, fun view first s c ht hc hf => next_finished ht hc hf,
    fun view first s c w ht hc hf hl => ?_⟩
  · have hexec : exec (.seek kind) s = .next (s.command (.seek kind) (fun t => t.seek kind)) := rfl
    have hseek : (s.received (.seek kind)).seek kind =
        ((s.received (.seek kind)).setCursor (some { kind, last := none }), .plain .ok) := if_pos hwalks
    rw [hexec, State.command_of_takes ht, hseek]
    rfl
  · exact exec_refused ht (exec_next view first s) (State.nextRecord_none (s := s.received _) hc view first)
  · refine exec_refused ht (exec_next view first s) ?_
    rw [State.nextRecord_some (s := s.received _) hc ((s.received_following _ c).trans hf)]
    exact State.returnNext_badValue fun l k => hl l ((State.received_find (walks_of_following hf) _ _ _).symm.trans k)

/-- Settles O12: the record that follows is the first one after the cursor's place, and it is found by its key. -/
theorem seekAndNextWalk : Obligations.SeekAndNextWalk := by
  refine ⟨seekAndRefusals, fun view first s last i d ht hc hi hd hfirst hview h1 h2 =>
    next_device ht hc hi hd hfirst hview h1 h2, fun view first s ht => ⟨?_, ?_, ?_, ?_, ?_, ?_, ?_, ?_, ?_⟩⟩
  case refine_1 =>
    intro last z l hc hz hl h1 h2
    refine next_gives ht nofun hc (nextZone_eq hz) ?_ h1 h2
    rw [State.find_zone (nat_toNat (by omega)), hl]; rfl
  case refine_2 => exact fun hc => next_finished ht hc rfl
  case refine_3 =>
    intro last hc hend
    refine next_finished ht hc (State.nextPointOf_eq_none fun y q hq hlater => ?_)
    obtain ⟨k, hk, hpast⟩ := hend y q hq
    have := (pointAfter_iff last y q).1 hlater k hk
    omega
  case refine_4 =>
    intro last hc hsame hlater
    exact next_finished ht hc (State.nextHoldOf_eq_none fun y =>
      State.holdIn_eq_none (fun k hk _ => hsame k hk) (hlater y))
  case refine_5 => exact fun last hc hend => next_finished ht hc (State.nextDeviceOf_eq_none hend)
  case refine_6 => exact fun last hc hend => next_finished ht hc (State.nextJoinOf_eq_none hend)
  case refine_7 => exact fun last z p hs hview hc hp hlater hfirst h1 h2 => next_point ht hs hview hc hp hlater hfirst h1 h2
  case refine_8 => exact fun last z h hs hview hc hfollows h1 h2 => next_hold ht hs hview hc hfollows h1 h2
  case refine_9 => exact fun last e he hs hview hc hafter hfirst h1 h2 => next_join ht he hs hview hc hafter hfirst h1 h2

end Sys2Proof.Machine

/-! READ (R202): the answer, and the views field by field (R5, R6, R23, R32, R50, R65, R124, R138, R159, R162, R166, R168,
R178). -/

namespace Sys2Proof.Machine

/-! ### The payload -/

theorem window_length (l : List Word) (first n : Nat) : (window l first n).length = n := by
  simp [window]

theorem window_getD (l : List Word) {first n k : Nat} (hk : k < n) :
    (window l first n).getD k absent = l.getD (first - 1 + k) absent := by
  have hdrop : l.getD (first - 1 + k) absent = (l.drop (first - 1)).getD k absent := by
    simp [List.getD_eq_getElem?_getD]
  rw [hdrop]
  simp only [window, List.getD_eq_getElem?_getD, List.getElem?_take, if_pos hk, List.getElem?_append, List.getElem?_replicate]
  split
  · rfl
  · next h => rw [List.getElem?_eq_none (by omega)]; split <;> rfl

theorem wordBytes_length (l : List Word) : (wordBytes l).length = 2 * l.length := by
  induction l with
  | nil => rfl
  | cons w l ih =>
    have : wordBytes (w :: l) = w.hi :: w.lo :: wordBytes l := rfl
    rw [this]
    simp only [List.length_cons, ih]
    omega

theorem word_ofBytes (w : Word) : Word.ofBytes w.hi w.lo = w := by
  unfold Word.ofBytes Word.hi Word.lo
  ext i hi
  rw [BitVec.getElem_append]
  split
  · simp [BitVec.getLsbD_eq_getElem hi]
  · next h =>
    have : 8 + (i - 8) = i := by omega
    simp [this, BitVec.getLsbD_eq_getElem hi]

/-- The bytes of the words, two by two, are the words. -/
theorem wordBytes_getD (l : List Word) {k : Nat} (hk : k < l.length) :
    Word.ofBytes ((wordBytes l).getD (2 * k) 0) ((wordBytes l).getD (2 * k + 1) 0) = l.getD k absent := by
  induction l generalizing k with
  | nil => cases hk
  | cons w l ih =>
    have hcons : wordBytes (w :: l) = w.hi :: w.lo :: wordBytes l := rfl
    rw [hcons]
    cases k with
    | zero => exact word_ofBytes w
    | succ k => exact ih (by simpa using hk)

theorem readPayload_eq (l : List Word) (first : Nat) :
    readPayload l first = BitVec.ofNat 8 l.length :: BitVec.ofNat 8 first :: wordBytes (window l first 7) := by
  have hlen : (BitVec.ofNat 8 l.length :: BitVec.ofNat 8 first :: wordBytes (window l first 7)).length = 16 := by
    simp [wordBytes_length, window_length]
  exact List.take_append_of_le_length hlen.ge |>.trans (List.take_of_length_le hlen.le)

/-- The seven values that READ returns. -/
theorem readPayload_value (l : List Word) (first : Nat) {k : Nat} (hk : k < 7) :
    Word.ofBytes ((readPayload l first).getD (2 + 2 * k) 0) ((readPayload l first).getD (3 + 2 * k) 0) =
      l.getD (first - 1 + k) 0x8000 := by
  have h := wordBytes_getD (window l first 7) (k := k) (by rw [window_length]; exact hk)
  rw [window_getD l hk] at h
  rw [readPayload_eq, Nat.add_comm 2, Nat.add_comm 3]
  exact h

/-! ### The command -/

theorem exec_read (kind : RecordKind) (key : Word) (view first zone : Byte) (s : State) :
    exec (.read kind key view first zone) s =
      .next (s.command (.read kind key view first zone) (fun t => t.readRecord kind key view first zone)) := rfl

theorem State.readRecord_notFound {s : State} {kind : RecordKind} {key : Word} {view first zone : Byte}
    (h : s.find kind key view.toNat zone = .notFound) : s.readRecord kind key view first zone = refuse .notFound s := by
  simp only [State.readRecord, h]

theorem State.readRecord_noView {s : State} {kind : RecordKind} {key : Word} {view first zone : Byte}
    (h : s.find kind key view.toNat zone = .noView) : s.readRecord kind key view first zone = refuse .badValue s := by
  simp only [State.readRecord, h]

theorem State.readRecord_badFirst {s : State} {kind : RecordKind} {key : Word} {view first zone : Byte} {l : List Word}
    (h : s.find kind key view.toNat zone = .fields l) (hf : first.toNat = 0 ∨ l.length < first.toNat) :
    s.readRecord kind key view first zone = refuse .badValue s := by
  simp only [State.readRecord, h, firstOk_eq_false hf, Bool.false_eq_true, if_false]

theorem State.readRecord_fields {s : State} {kind : RecordKind} {key : Word} {view first zone : Byte} {l : List Word}
    (h : s.find kind key view.toNat zone = .fields l) (h1 : 1 ≤ first.toNat) (h2 : first.toNat ≤ l.length) :
    s.readRecord kind key view first zone =
      (s.afterRead kind key, { result := .ok, payload := readPayload l first.toNat }) := by
  simp only [State.readRecord, h, firstOk_eq_true h1 h2, if_true]

theorem slotKey_eq_some_iff {key : Word} {i : Fin 48} : slotKey key.toNat = some i ↔ key.toNat = i.val := by
  refine ⟨fun h => ?_, slotKey_eq⟩
  unfold slotKey at h
  split at h
  · cases h; rfl
  · cases h

/-- A READ of a device record restarts its bad-telegram count and leaves everything else (R162). -/
theorem State.afterRead_spec (s : State) (kind : RecordKind) (key : Word) :
    s.afterRead kind key = { s with registry := { s.registry with devices := (s.afterRead kind key).registry.devices } } ∧
    ∀ j : Fin 48, (s.afterRead kind key).device j =
      if kind = .device ∧ key.toNat = j.val then (s.device j).map (fun d => { d with bad := 0 }) else s.device j := by
  by_cases hread : kind = .device ∧ ∃ i, slotKey key.toNat = some i
  · obtain ⟨rfl, i, hi⟩ := hread
    have hk := slotKey_eq_some_iff.1 hi
    have hafter : s.afterRead .device key = s.clearBad i := by simp only [State.afterRead, hi]
    rw [hafter]
    cases hd : s.device i with
    | none =>
      have hclear : s.clearBad i = s := by simp only [State.clearBad, hd]
      rw [hclear]
      refine ⟨rfl, fun j => ?_⟩
      split
      · next h =>
        have hij : i = j := Fin.ext (hk.symm.trans h.2)
        rw [← hij, hd]; rfl
      · rfl
    | some d =>
      have hclear : s.clearBad i = s.setDevice i (some { d with bad := 0 }) := by simp only [State.clearBad, hd]
      rw [hclear]
      refine ⟨rfl, fun j => ?_⟩
      rw [State.setDevice_device]
      by_cases hij : i = j
      · subst hij
        rw [if_pos rfl, if_pos ⟨rfl, hk⟩, hd]; rfl
      · rw [if_neg hij, if_neg fun h => hij (Fin.ext (hk.symm.trans h.2))]
  · have hafter : s.afterRead kind key = s := by
      unfold State.afterRead
      split
      · next i hi => exact absurd ⟨rfl, i, hi⟩ hread
      · rfl
    rw [hafter]
    refine ⟨rfl, fun j => (if_neg fun h => hread ⟨h.1, j, slotKey_eq h.2⟩).symm⟩

/-- The first part of O11: refusals, answer and effect of READ (R202). -/
theorem readAnswers (kind : RecordKind) (key : Word) (view first zone : Byte) (s : State) (ht : s.takes) :
    let i := Instr.read kind key view first zone
    let r := s.received i
    (r.find kind key view.toNat zone = .notFound → exec i s = .next (r.bare i .notFound)) ∧
    (r.find kind key view.toNat zone = .noView → exec i s = .next (r.bare i .badValue)) ∧
    (∀ l : List Word, r.find kind key view.toNat zone = .fields l →
      (first.toNat = 0 ∨ l.length < first.toNat → exec i s = .next (r.bare i .badValue)) ∧
      (1 ≤ first.toNat → first.toNat ≤ l.length → ∃ (t : State) (p : List Byte), exec i s = .next (t.holding i .ok p) ∧
        p.length = 16 ∧ p[0]? = some (BitVec.ofNat 8 l.length) ∧ p[1]? = some first ∧
        (∀ k < 7, Word.ofBytes (p.getD (2 + 2 * k) 0) (p.getD (3 + 2 * k) 0) = l.getD (first.toNat - 1 + k) 0x8000) ∧
        t = { r with registry := t.registry } ∧ t.registry = { s.registry with devices := t.registry.devices } ∧
        ∀ j : Fin 48, t.device j =
          if kind = .device ∧ key.toNat = j.val then (s.device j).map (fun d => { d with bad := 0 })
          else s.device j)) := by
  intro i r
  have hexec := exec_read kind key view first zone s
  refine ⟨fun h => exec_refused ht hexec (State.readRecord_notFound h),
    fun h => exec_refused ht hexec (State.readRecord_noView h),
    fun l h => ⟨fun hf => exec_refused ht hexec (State.readRecord_badFirst h hf), fun h1 h2 => ?_⟩⟩
  obtain ⟨hframe, hdevice⟩ := r.afterRead_spec kind key
  refine ⟨r.afterRead kind key, readPayload l first.toNat, ?_, ?_, ?_, ?_, fun k hk => readPayload_value l first.toNat hk, ?_, ?_,
    hdevice⟩
  · rw [hexec, State.command_of_takes ht, State.readRecord_fields h h1 h2]
  · simp [readPayload_eq, wordBytes_length, window_length]
  · rw [readPayload_eq]; rfl
  · rw [readPayload_eq]
    exact congrArg some (by simp)
  · rw [hframe]
  · rw [hframe]; rfl

end Sys2Proof.Machine

/-! The views of READ in the words of their tables (R5, R6, R23, R50, R65, R124, R138, R159, R162, R168, R178). -/

namespace Sys2Proof.Machine

/-! ### Codes are places in the manual's lists (R201) -/

theorem emitterCode_eq (x : Emitter) : emitterCode x = placeIn [.radiator, .floor] x := by cases x <;> rfl

theorem zoneStateCode_eq (x : ZoneState) : zoneStateCode x = placeIn [.disabled, .satisfied, .calling] x := by
  cases x <;> rfl

theorem sourceCode_eq (x : Source) : sourceCode x = placeIn [.hold, .vacant, .setback, .program, .default] x := by
  cases x <;> rfl

theorem tempSourceCode_eq (x : TempSource) : tempSourceCode x = placeIn [.room, .heads, .none] x := by cases x <;> rfl

theorem cylinderStateCode_eq (x : CylinderState) :
    cylinderStateCode x = placeIn [.disabled, .idle, .charging, .gap, .fault] x := by cases x <;> rfl

theorem cylinderSourceCode_eq (x : CylinderSource) :
    cylinderSourceCode x = placeIn [.hold, .vacant, .program, .default] x := by cases x <;> rfl

theorem modeCode_eq (x : Mode) : modeCode x = placeIn [.occupied, .setback, .vacant] x := by cases x <;> rfl

theorem lineCode_eq (x : Line) : lineCode x = placeIn [.stopped, .starting, .running, .lineFault] x := by cases x <;> rfl

theorem deviceKindCode_eq (x : DeviceKind) : deviceKindCode x = placeIn [.valveHead, .roomSensor, .roomUnit] x := by
  cases x <;> rfl

theorem deviceStateCode_eq (x : DeviceState) :
    deviceStateCode x = placeIn [.admitted, .active, .stale, .lost, .faulted, .retiring] x := by cases x <;> rfl

theorem motorCode_eq (x : MotorState) : motorCode x = placeIn [.idle, .running, .stalled] x := by cases x <;> rfl

theorem runKindCode_eq (x : RunKind) : runKindCode x = placeIn [.position, .exercise] x := by cases x <;> rfl

theorem classCode_eq (x : Class) : classCode x = placeIn [.urgent, .normal] x := by cases x <;> rfl

theorem phaseCode_eq (x : Phase) : phaseCode x = placeIn [.none, .opening] x := by cases x <;> rfl

/-! ### Zones (R5, R6, R138) -/

theorem controlFields_eq (c : Control) :
    controlFields c = [placeIn [.radiator, .floor] c.emitter, int c.weight, int c.kp, int c.ki] := by
  rw [controlFields, emitterCode_eq]

theorem Zone.configView_eq (r : Zone) : r.configView =
    [placeIn [.radiator, .floor] r.config.control.emitter, int r.config.control.weight, int r.config.control.kp,
      int r.config.control.ki] ++ [int r.config.minLift, int r.config.hysteresis, int r.config.headOffset,
      int r.config.frostFloor, int r.config.comfortCeiling, int r.config.defaultSetpoint, int r.config.requestOn,
      int r.config.requestOff, int r.config.blindDemand, int r.config.deviceHoldMinutes, flag r.config.vacantKeep] := by
  rw [Zone.configView, controlFields_eq]

theorem Zone.computedView_eq (r : Zone) : r.computedView = [placeIn [.disabled, .satisfied, .calling] r.state,
    int r.setpoint, placeIn [.hold, .vacant, .setback, .program, .default] r.source, intOr r.temp,
    placeIn [.room, .heads, .none] r.tempSource, int r.demand, int r.previous, int r.integral, nat r.valves,
    nat r.sensors, nat r.units] := by
  rw [Zone.computedView, zoneStateCode_eq, sourceCode_eq, tempSourceCode_eq]

theorem Zone.pendingView_eq (r : Zone) : r.pendingView = r.pending.elim [0, absent, absent, absent, absent]
    (fun p => 1 :: [placeIn [.radiator, .floor] p.emitter, int p.weight, int p.kp, int p.ki]) := by
  unfold Zone.pendingView
  cases r.pending with
  | none => rfl
  | some p => exact congrArg (List.cons 1) (controlFields_eq p)

/-- A key of a room zone: configuration, computed and pending view. -/
theorem State.find_room {s : State} {key : Word} {z : Fin 16} (hk : key.toNat = z.val) (zone : Byte) :
    s.find .zone key 0 zone = .fields (s.zone z).configView ∧ s.find .zone key 1 zone = .fields (s.zone z).computedView ∧
    s.find .zone key 2 zone = .fields (s.zone z).pendingView := by
  have hz : roomOf (roomIndex z) = some z := roomOf_roomIndex z
  have hview : ∀ view, s.find .zone key view zone = (s.zoneView (roomIndex z) view).elim .noView .fields := fun view =>
    State.find_zone hk view zone
  refine ⟨(hview 0).trans ?_, (hview 1).trans ?_, (hview 2).trans ?_⟩ <;> simp only [State.zoneView, hz, Option.elim_some]

theorem State.cylinderView_eq (s : State) : s.cylinderView =
    [placeIn [.disabled, .idle, .charging, .gap, .fault] s.cylinder.state, level s.cylinder.defaultTarget,
      level s.cylinder.target, placeIn [.hold, .vacant, .program, .default] s.cylinder.source, int s.cylinder.dhwHyst,
      int s.cylinder.chargeMargin, int s.cylinder.tPrio, int s.cylinder.tGap, level s.cylinder.defaultTarget] := by
  rw [← cylinderStateCode_eq, ← cylinderSourceCode_eq]; rfl

/-- An interval shown is less than a unit away from the interval, whichever way it is rounded. -/
theorem shown_bounds (ms : Nat) {unit : Nat} (h : 0 < unit) :
    shown ms unit * unit < ms + unit ∧ ms < shown ms unit * unit + unit := by
  have hdiv := Nat.div_add_mod ms unit
  have hmod := Nat.mod_lt ms h
  have hcomm : ms / unit * unit = unit * (ms / unit) := Nat.mul_comm _ _
  have hnext : (ms / unit + 1) * unit = ms / unit * unit + unit := Nat.succ_mul _ _
  unfold shown
  split
  · omega
  · split <;> omega

theorem State.channelView_spec (s : State) : ∃ run left : Nat,
    s.channelView = [placeIn [.disabled, .idle, .charging, .gap, .fault] s.cylinder.state, intOr s.boiler.tc.value,
      statusCode s.boiler.tc.status, level s.cylinder.target,
      if s.cylinder.state = .charging then intOr s.cylinderFlowTarget else absent,
      if s.cylinder.state = .charging ∧ s.cylinder.prio.isSome then nat run else absent,
      if s.cylinder.state = .gap ∧ s.cylinder.gap.isSome then nat left else absent,
      if s.cylinder.state = .fault then flag s.cylinder.recovery.isSome else absent] ∧
    (∀ a ∈ s.cylinder.prio, run * 60000 < (s.time.now - a) + 60000 ∧ s.time.now - a < run * 60000 + 60000) ∧
    ∀ a ∈ s.cylinder.gap, let rest := a + s.cylinder.tGap.toNat * 60000 - s.time.now
      left * 60000 < rest + 60000 ∧ rest < left * 60000 + 60000 := by
  refine ⟨s.cylinder.prio.elim 0 (fun t => shown (s.since t) 60000),
    s.cylinder.gap.elim 0 (fun t => shown (s.left t (minutes s.cylinder.tGap)) 60000), ?_, fun a ha => ?_, fun a ha => ?_⟩
  · have hrun : (if s.cylinder.state = .charging then
        natOr (s.cylinder.prio.map (fun t => shown (s.since t) Config.minute)) else absent) =
        if s.cylinder.state = .charging ∧ s.cylinder.prio.isSome then
          nat (s.cylinder.prio.elim 0 (fun t => shown (s.since t) 60000)) else absent := by
      cases s.cylinder.prio with
      | none => rw [if_neg (fun k : _ ∧ _ => nomatch k.2)]; exact ite_self _
      | some a => simp [natOr]; rfl
    have hleft : (if s.cylinder.state = .gap then
        natOr (s.cylinder.gap.map (fun t => shown (s.left t (minutes s.cylinder.tGap)) Config.minute)) else absent) =
        if s.cylinder.state = .gap ∧ s.cylinder.gap.isSome then
          nat (s.cylinder.gap.elim 0 (fun t => shown (s.left t (minutes s.cylinder.tGap)) 60000)) else absent := by
      cases s.cylinder.gap with
      | none => rw [if_neg (fun k : _ ∧ _ => nomatch k.2)]; exact ite_self _
      | some a => simp [natOr]; rfl
    rw [← hrun, ← hleft, ← cylinderStateCode_eq]
    rfl
  · rw [Option.mem_def.1 ha]
    exact shown_bounds (s.since a) (by decide)
  · rw [Option.mem_def.1 ha]
    exact shown_bounds (s.left a (minutes s.cylinder.tGap)) (by decide)

/-- The key of ZW: record and configuration, channel status, and no pending view. -/
theorem State.find_cylinder {s : State} {key : Word} (hk : key.toNat = 16) (zone : Byte) :
    s.find .zone key 0 zone = .fields s.cylinderView ∧ s.find .zone key 1 zone = .fields s.channelView ∧
    s.find .zone key 2 zone = .noView :=
  ⟨State.find_zone (z := zw) hk 0 zone, State.find_zone (z := zw) hk 1 zone, State.find_zone (z := zw) hk 2 zone⟩

/-- The program view of every zone, and no view past it. -/
theorem State.find_program {s : State} {key : Word} {z : Fin 17} (hk : key.toNat = z.val) (zone : Byte) :
    s.find .zone key 3 zone = .fields (s.programView z) ∧ ∀ view, 4 ≤ view → s.find .zone key view zone = .noView := by
  refine ⟨(State.find_zone hk 3 zone).trans ?_, fun view h => (State.find_zone hk view zone).trans ?_⟩
  · unfold State.zoneView
    cases roomOf z <;> rfl
  · obtain ⟨n, rfl⟩ := Nat.exists_eq_add_of_le' h
    unfold State.zoneView
    cases roomOf z <;> rfl

/-- A record but BOILER's and a zone's has view 0 alone. -/
theorem only0_other {view : Nat} (h : view ≠ 0) (l : List Word) : only0 view l = .noView := if_neg h

theorem only0?_other {view : Nat} (h : view ≠ 0) {x : Option (List Word)} {l : List Word} (hx : only0? 0 x = .fields l) :
    only0? view x = .noView := by
  cases x with
  | none => cases hx
  | some y => exact only0_other h y

theorem State.find_otherView {s : State} {kind : RecordKind} {key : Word} {zone : Byte} {l : List Word} {view : Nat}
    (hkind : kind ≠ .zone) (h0 : s.find kind key 0 zone = .fields l) (hview : view ≠ 0) (hboiler : kind = .boiler → 2 ≤ view) :
    s.find kind key view zone = .noView := by
  unfold State.find at h0 ⊢
  cases kind with
  | zone => exact absurd rfl hkind
  | point => exact only0?_other hview h0
  | hold =>
    dsimp only at h0 ⊢
    split at h0
    · next hk => rw [if_pos hk]; exact only0_other hview _
    · next hk => rw [if_neg hk]; exact only0?_other hview h0
  | house =>
    dsimp only at h0 ⊢
    split at h0
    · next hk => rw [if_pos hk]; exact only0_other hview _
    · cases h0
  | clock =>
    dsimp only at h0 ⊢
    split at h0
    · next hk => rw [if_pos hk]; exact only0_other hview _
    · cases h0
  | boiler =>
    obtain ⟨n, rfl⟩ := Nat.exists_eq_add_of_le' (hboiler rfl)
    dsimp only at h0 ⊢
    split at h0
    · next hk => exact (if_pos hk).trans rfl
    · cases h0
  | line =>
    dsimp only at h0 ⊢
    split at h0
    · exact only0_other hview _
    · exact only0_other hview _
    · cases h0
  | device =>
    dsimp only at h0 ⊢
    split at h0
    · next hk => rw [if_pos hk]; exact only0_other hview _
    · next hk => rw [if_neg hk]; exact only0?_other hview h0
  | join => exact only0?_other hview h0
  | motor =>
    dsimp only at h0 ⊢
    split at h0
    · next hk => rw [if_pos hk]; exact only0_other hview _
    · next hk => rw [if_neg hk]; exact only0?_other hview h0

end Sys2Proof.Machine

/-! The views of house, clock, boiler, line, devices and motor, and READ's fields assembled. -/

namespace Sys2Proof.Machine

/-! ### Holds, house and clock (R23, R50, R65) -/

theorem State.holdView_eq {s : State} (hs : s.HoldInv) {z : Fin 17} {h : Hold} {above below : List Hold}
    (hl : s.stackOf z = above ++ h :: below) : s.holdView z h = [nat h.handle, nat z.val, int h.setpoint,
      (match h.ending with | .nextPoint => 0 | .countdown _ => 1 | .indefinite => 2),
      (match h.ending with | .countdown m => nat m | _ => 0),
      (match h.origin with | .link => 0 | .device a => nat a), flag h.retain] ++ halves (BitVec.ofNat 32 h.pushed) ++
      [nat above.length, nat (s.stackOf z).length] := by
  have hplace := hs.findIdx_eq hl
  unfold State.holdView
  rw [hplace]
  cases h.ending <;> cases h.origin <;> rfl

theorem State.houseView_eq (s : State) : s.houseView = [placeIn [.occupied, .setback, .vacant] s.house.mode,
    nat (s.house.countdown.getD 0), flag s.house.wakeReturn, flag s.house.wakePresence, flag s.house.wakeInput,
    flag s.house.disarmOnWake,
    (match s.house.lastCause with
      | none => absent | some .link => 0 | some .return => 1 | some (.presence _) => 2 | some .input => 3),
    (match s.house.lastCause with | some (.presence a) => nat a | _ => absent),
    int s.house.setbackOffset, int s.house.vacantSetpoint] := by
  have hcause : causeCode s.house.lastCause = (match s.house.lastCause with
      | none => absent | some .link => 0 | some .return => 1 | some (.presence _) => 2 | some .input => 3) := by
    rcases s.house.lastCause with _ | _ | _ | _ | _ <;> rfl
  have haddress : causeAddress s.house.lastCause =
      (match s.house.lastCause with | some (.presence a) => nat a | _ => absent) := by
    rcases s.house.lastCause with _ | _ | _ | _ | _ <;> rfl
  rw [← modeCode_eq, ← hcause, ← haddress]
  rfl

theorem State.secondsToTick_spec (s : State) : s.secondsToTick ≤ 59 ∧
    ∀ due, s.clock.minuteAt = some due → s.time.now < due → due ≤ s.time.now + 59999 →
      s.secondsToTick = (due - s.time.now) / 1000 := by
  refine ⟨min_le_left _ _, fun due hdue _ hle => ?_⟩
  have hsecond : Config.second = 1000 := rfl
  unfold State.secondsToTick
  rw [hdue, Option.getD_some, hsecond]
  omega

/-! ### Boiler (R124) -/

theorem State.boilerStatus_eq (s : State) : s.boilerStatus = [
    (match s.boiler.burner with
      | .off => 0 | .ready => 1 | .wait _ => 2 | .firing => 3 | .lockedOut => 4 | .sensorFault => 5),
    (match s.boiler.burner with | .wait .starts => 0 | .wait .flow => 1 | _ => absent), flag s.boiler.pulse.isSome,
    nat s.boiler.attempts, (match s.boiler.pump with | .stopped => 0 | .running => 1 | .overrun _ => 2),
    int s.flowTarget, int s.roomLoad, int s.modulation, intOr s.leadSetpoint,
    intOr s.boiler.tf.value, statusCode s.boiler.tf.status, intOr s.boiler.tout.value, statusCode s.boiler.tout.status,
    intOr s.boiler.tc.value, statusCode s.boiler.tc.status, int s.outdoor.1,
    (match s.outdoor.2 with | .sensor => 0 | .held => 1 | .fallback => 2), nat s.boiler.startList.length] ++
    s.boiler.startList.map nat ++ [flag s.outdoorFrost, flag s.anyZoneFrost, flag s.burnerDemand,
    flag (s.boiler.reported.getD true), flag s.commandedPass, flag s.boiler.forcing] := by
  have hburner : burnerCode s.boiler.burner = (match s.boiler.burner with
      | .off => 0 | .ready => 1 | .wait _ => 2 | .firing => 3 | .lockedOut => 4 | .sensorFault => 5) := by
    cases s.boiler.burner <;> rfl
  have hwait : waitCode s.boiler.burner =
      (match s.boiler.burner with | .wait .starts => 0 | .wait .flow => 1 | _ => absent) := by
    rcases s.boiler.burner with _ | _ | _ | _ | _ | _ <;> rfl
  have hpump : pumpCode s.boiler.pump = (match s.boiler.pump with | .stopped => 0 | .running => 1 | .overrun _ => 2) := by
    cases s.boiler.pump <;> rfl
  have houtdoor : outdoorCode s.outdoor.2 = (match s.outdoor.2 with | .sensor => 0 | .held => 1 | .fallback => 2) := by
    cases s.outdoor.2 <;> rfl
  rw [← hburner, ← hwait, ← hpump, ← houtdoor]
  simp only [State.boilerStatus, sensorFields, listField, List.cons_append, List.nil_append, List.length_map]

theorem State.find_boiler {s : State} {key : Word} (hk : key = 0) (zone : Byte) :
    s.find .boiler key 0 zone = .fields s.boilerView ∧ s.find .boiler key 1 zone = .fields s.boilerStatus := by
  subst hk; exact ⟨rfl, rfl⟩

/-! ### Line and link (R159, R202) -/

theorem State.find_line (s : State) (key : Word) (zone : Byte) :
    (key.toNat = 0 → s.find .line key 0 zone = .fields s.lineView) ∧
    (key.toNat = 1 → s.find .line key 0 zone = .fields s.linkView) ∧
    (2 ≤ key.toNat → s.find .line key 0 zone = .notFound) := by
  refine ⟨fun hk => ?_, fun hk => ?_, fun hk => ?_⟩
  · simp only [State.find, hk]; rfl
  · simp only [State.find, hk]; rfl
  · obtain ⟨n, hn⟩ := Nat.exists_eq_add_of_le' hk
    simp only [State.find, hn]

theorem State.lineView_spec (s : State) : ∃ left : Nat, s.lineView = [
      placeIn [.stopped, .starting, .running, .lineFault] s.bus.line, nat s.bus.cycle,
      if s.bus.line = .starting then nat s.bus.starting else absent,
      if s.bus.line = .lineFault ∧ s.bus.recovery.isSome then nat left else absent, nat s.bus.announce.length] ++
      s.bus.announce.map (fun z => nat z.val) ∧
    ∀ a ∈ s.bus.recovery, let rest := a + 10000 - s.time.now
      left * 1000 < rest + 1000 ∧ rest < left * 1000 + 1000 := by
  refine ⟨s.bus.recovery.elim 0 (fun t => shown (s.left t 10000) 1000), ?_, fun a ha => ?_⟩
  · have hleft : (if s.bus.line = .lineFault then
        natOr (s.bus.recovery.map (fun t => shown (s.left t Config.tLFR) Config.second)) else absent) =
        if s.bus.line = .lineFault ∧ s.bus.recovery.isSome then
          nat (s.bus.recovery.elim 0 (fun t => shown (s.left t 10000) 1000)) else absent := by
      cases s.bus.recovery with
      | none => rw [if_neg (fun k : _ ∧ _ => nomatch k.2)]; exact ite_self _
      | some a => simp [natOr]; rfl
    have hlength : s.bus.announce.length = (s.bus.announce.map (fun z => nat z.val)).length := by simp
    rw [← hleft, ← lineCode_eq, hlength]
    rfl
  · rw [Option.mem_def.1 ha]
    exact shown_bounds (s.left a 10000) (by decide)

/-! ### Devices and motor (R162, R168, R178) -/

theorem only_eq (b : Bool) (w : Word) : only b w = if b = true then w else absent := rfl

theorem State.deviceView_eq (s : State) (i : Fin 48) (d : Device) : s.deviceView i d =
    let v := fun w : Word => if d.kind = .valveHead then w else absent
    [nat i.val, nat (i.val + 1)] ++ halves d.serial ++ [
      placeIn [.valveHead, .roomSensor, .roomUnit] d.kind, natOr (d.zone.map Fin.val),
      placeIn [.admitted, .active, .stale, .lost, .faulted, .retiring] d.state, intOr d.lastTemp, nat d.misses,
      nat d.bad, if d.kind = .roomUnit then nat d.lastSeq else absent, v (intOr d.commanded), v (int d.target),
      v (intOr d.reported), v (placeIn [.idle, .running, .stalled] d.motor),
      v (match d.grant with
        | some g => if g.running then 3 else 2
        | none => if (s.entryOf i).isSome then 1 else 0),
      v (intOr (d.next.map NextTarget.target)), v (nat d.failureRun),
      if d.kind = .valveHead then nat d.exerciseAge else 0, v (placeIn [.none, .opening] d.exercisePhase)] := by
  have hgrant : s.grantCode i d = (match d.grant with
      | some g => if g.running then 3 else 2
      | none => if (s.entryOf i).isSome then 1 else 0) := by
    unfold State.grantCode
    cases d.grant <;> rfl
  dsimp only
  rw [← deviceKindCode_eq, ← deviceStateCode_eq, ← motorCode_eq, ← phaseCode_eq, ← hgrant]
  simp only [State.deviceView, only_eq, beq_iff_eq, addressOf]

theorem State.find_admission {s : State} {key : Word} (hk : key.toNat = 65535) (zone : Byte) :
    s.find .device key 0 zone = .fields (nat s.registry.order.length :: s.registry.order.map (fun i => nat i.val) ++
      [natOr (s.registry.lastAssign.map Fin.val),
        nat ((List.finRange 48).filter (fun i => (s.device i).isNone)).length]) := by
  unfold State.find
  dsimp only
  rw [if_pos hk, State.admissionView, listField, List.length_map]
  rfl

theorem joinView_eq (e : JoinEntry) : joinView e = halves e.serial ++
    [placeIn [.valveHead, .roomSensor, .roomUnit] e.kind, nat e.sightings, nat e.age] := by
  rw [joinView, deviceKindCode_eq]

theorem entryView_eq (e : Entry) : entryView e = [nat e.slot.val, placeIn [.position, .exercise] e.kind, int e.target,
    placeIn [.urgent, .normal] e.cls] := by
  rw [entryView, runKindCode_eq, classCode_eq]

theorem State.find_entry {s : State} {key : Word} {before after : List Entry} {e : Entry}
    (hq : s.motor.queue = before ++ e :: after) (hk : key.toNat = before.length + 1) (zone : Byte) :
    s.find .motor key 0 zone = .fields (entryView e) := by
  have hget : s.motor.queue[key.toNat - 1]? = some e := by rw [hq, hk]; simp
  unfold State.find
  dsimp only
  rw [if_neg (by omega), hget]
  rfl

theorem State.find_entry_notFound {s : State} {key : Word} (h : s.motor.queue.length < key.toNat) (zone : Byte) :
    s.find .motor key 0 zone = .notFound := by
  have hget : s.motor.queue[key.toNat - 1]? = none := List.getElem?_eq_none (by omega)
  unfold State.find
  dsimp only
  rw [if_neg (by omega), hget]
  rfl

theorem toNat_ne_zero {key : Word} (h : key ≠ 0) : key.toNat ≠ 0 := fun h0 => h (BitVec.eq_of_toNat_eq h0)

/-- House, clock and boiler have the key 0 alone. -/
theorem State.find_single_notFound {s : State} {kind : RecordKind} (hkind : kind ∈ [RecordKind.house, .clock, .boiler])
    {key : Word} (hk : key ≠ 0) (view : Nat) (zone : Byte) : s.find kind key view zone = .notFound := by
  have hne := toNat_ne_zero hk
  simp only [List.mem_cons, List.not_mem_nil, or_false] at hkind
  unfold State.find
  rcases hkind with rfl | rfl | rfl <;> exact if_neg hne

/-- Keys of zones, and views that a kind has not. -/
theorem readZones (s : State) (key : Word) (zone : Byte) :
    (∀ z : Fin 17, key.toNat = z.val → s.find .zone key 3 zone = .fields [nat (s.pointsOf z).length, nat s.pointCount]) ∧
    (16 < key.toNat → ∀ view, s.find .zone key view zone = .notFound) ∧
    (key.toNat ≤ 16 → ∀ view, 4 ≤ view → s.find .zone key view zone = .noView) := by
  refine ⟨fun z hk => (State.find_program hk zone).1, fun hk view => ?_, fun hk view hview => ?_⟩
  · unfold State.find
    simp only [zoneKey_eq_none hk]
  · exact (State.find_program (z := ⟨key.toNat, by omega⟩) rfl zone).2 view hview

/-- Settles O11: the command answers what `find` names, and each view is its list of fields. -/
theorem readReturnsFields : Obligations.ReadReturnsFields := by
  refine ⟨readAnswers, fun s key zone => ?_⟩
  obtain ⟨hprogram, hzoneNotFound, hzoneNoView⟩ := readZones s key zone
  obtain ⟨hline, hlink, hlineNotFound⟩ := s.find_line key zone
  refine ⟨fun z hk => ?room, hprogram, fun hk => ?cylinder, hzoneNotFound, hzoneNoView,
    fun kind l view hkind h0 hview hboiler => State.find_otherView hkind h0 hview hboiler,
    fun z p hz hl hp hk => State.find_point hz hl hp hk, fun h => State.find_point_notFound h,
    fun z h above below hs hl hk => ?hold, fun hk h => State.find_hold_notFound hk h, fun hk => ?pool, fun hk => ?house,
    fun hk => ?clock, fun hk => ?boiler, fun hk => ?line, hlink, hlineNotFound,
    fun kind hkind hk view => State.find_single_notFound hkind hk view zone, fun i d hk hd => ?device,
    fun hk h => State.find_device_notFound hk h, fun hk => State.find_admission hk zone, fun e he hs hk => ?join,
    fun h => State.find_join_notFound h, fun hk => ?motor, fun before after e hq hk => ?entry,
    fun h => State.find_entry_notFound h zone⟩
  case room =>
    obtain ⟨hconfig, hcomputed, hpending⟩ := State.find_room (s := s) hk zone
    rw [Zone.configView_eq] at hconfig
    rw [Zone.computedView_eq] at hcomputed
    rw [Zone.pendingView_eq] at hpending
    exact ⟨hconfig, hcomputed, hpending⟩
  case cylinder =>
    obtain ⟨hrecord, hstatus, hpending⟩ := State.find_cylinder (s := s) hk zone
    obtain ⟨run, left, hview, hrun, hleft⟩ := s.channelView_spec
    rw [State.cylinderView_eq] at hrecord
    rw [hview] at hstatus
    exact ⟨hrecord, ⟨run, left, hstatus, hrun, hleft⟩, hpending⟩
  case hold => exact (State.find_hold hs hl hk).trans (congrArg Found.fields (State.holdView_eq hs hl))
  case pool => subst hk; rfl
  case house => subst hk; exact congrArg Found.fields s.houseView_eq
  case clock =>
    obtain ⟨hle, hdue⟩ := s.secondsToTick_spec
    subst hk
    exact ⟨s.secondsToTick, hle, rfl, hdue⟩
  case boiler =>
    obtain ⟨hconfig, hstatus⟩ := State.find_boiler (s := s) hk zone
    rw [State.boilerStatus_eq] at hstatus
    exact ⟨hconfig, hstatus⟩
  case line =>
    obtain ⟨left, hview, hleft⟩ := s.lineView_spec
    exact ⟨left, (hline hk).trans (congrArg Found.fields hview), hleft⟩
  case device => exact (State.find_device hk hd).trans (congrArg Found.fields (s.deviceView_eq i d))
  case join => exact (State.find_join hs he hk).trans (congrArg Found.fields (joinView_eq e))
  case motor => subst hk; rfl
  case entry => exact (State.find_entry hq hk zone).trans (congrArg Found.fields (entryView_eq e))

end Sys2Proof.Machine

/-! The pools of points and holds: how a stored list changes what all zones together hold (R27, R44), and the handle of a
push (R46). -/

namespace Sys2Proof.Machine

open scoped List

/-! ### One list of a table is stored -/

/-- A table of lists with one of them replaced holds the elements of the new list in place of those of the old. -/
theorem flatten_set_perm {α : Type} {n : Nat} (v : Vector (List α) n) (i : Fin n) (l : List α) :
    ((v.set i l).toList.flatten ++ v[i]).Perm (v.toList.flatten ++ l) := by
  have hi : i.val < v.toList.length := by simp
  have hold : v.toList = v.toList.take i ++ v[i] :: v.toList.drop (i + 1) := by
    have h := List.cons_getElem_drop_succ (l := v.toList) (h := hi)
    rw [Vector.getElem_toList] at h
    exact (List.take_append_drop i.val _).symm.trans (congrArg _ h.symm)
  have hnew : (v.set i l).toList = v.toList.take i ++ l :: v.toList.drop (i + 1) := by
    rw [Vector.toList_set, List.set_eq_take_append_cons_drop, if_pos hi]
  rw [hnew]
  conv_rhs => rw [hold]
  simp only [List.flatten_append, List.flatten_cons, List.append_assoc]
  refine List.Perm.append_left _ ?_
  generalize (v.toList.drop (i + 1)).flatten = rest
  calc l ++ (rest ++ v[i]) ~ (rest ++ v[i]) ++ l := List.perm_append_comm
    _ ~ (v[i] ++ rest) ++ l := List.perm_append_comm.append_right l
    _ = v[i] ++ (rest ++ l) := List.append_assoc ..

/-- The points in the pool after a list is stored (R27). -/
theorem State.pointCount_setPoints (s : State) (z : Fin 17) (l : List Point) :
    (s.setPoints z l).pointCount + (s.pointsOf z).length = s.pointCount + l.length := by
  have h := (flatten_set_perm s.points z l).length_eq
  simp only [List.length_append, List.length_flatten] at h
  exact h

/-- The holds in the pool after a stack is stored (R44). -/
theorem State.poolCount_setStack (s : State) (z : Fin 17) (l : List Hold) :
    (s.setStack z l).poolCount + (s.stackOf z).length = s.poolCount + l.length := by
  have h := (flatten_set_perm s.holds.stack z l).length_eq
  simp only [List.length_append, List.length_flatten] at h
  exact h

/-- The handles in use after a stack is stored. -/
theorem State.handlesInUse_setStack (s : State) (z : Fin 17) (l : List Hold) :
    ((s.setStack z l).handlesInUse ++ (s.stackOf z).map Hold.handle).Perm (s.handlesInUse ++ l.map Hold.handle) := by
  have h := (flatten_set_perm s.holds.stack z l).map Hold.handle
  simp only [List.map_append] at h
  exact h

/-- A hold on top of a stack adds its handle to those in use. -/
theorem State.handlesInUse_setStack_cons (s : State) (z : Fin 17) (h : Hold) (l : List Hold) :
    (s.setStack z (h :: l)).handlesInUse.Perm (h.handle :: (s.setStack z l).handlesInUse) := by
  refine (List.perm_append_right_iff ((s.stackOf z).map Hold.handle)).1 ?_
  calc (s.setStack z (h :: l)).handlesInUse ++ (s.stackOf z).map Hold.handle
      ~ s.handlesInUse ++ h.handle :: l.map Hold.handle := s.handlesInUse_setStack z (h :: l)
    _ ~ h.handle :: (s.handlesInUse ++ l.map Hold.handle) := List.perm_middle
    _ ~ h.handle :: ((s.setStack z l).handlesInUse ++ (s.stackOf z).map Hold.handle) :=
      ((s.handlesInUse_setStack z l).symm).cons _

theorem State.poolCount_eq (s : State) : s.poolCount = s.handlesInUse.length := by
  rw [State.handlesInUse, List.length_map, List.length_flatten]; rfl

/-! ### The handle of a push (R46) -/

/-- The handle `n` places after `h` in the round of 1..65535. -/
theorem nextHandle_iterate {h : Nat} (h1 : 1 ≤ h) (h2 : h ≤ 65535) (n : Nat) :
    nextHandle^[n] h = (h - 1 + n) % 65535 + 1 := by
  induction n with
  | zero => simp only [Function.iterate_zero, id]; omega
  | succ n ih =>
    rw [Function.iterate_succ_apply', ih, nextHandle]
    split <;> omega

/-- The search passes over handles in use, and stops at a free one unless its tries run out. -/
theorem freeHandle_spec (used : List Nat) (fuel h : Nat) : ∃ n ≤ fuel, freeHandle used fuel h = nextHandle^[n] h ∧
    (∀ m < n, nextHandle^[m] h ∈ used) ∧ (n < fuel → nextHandle^[n] h ∉ used) := by
  induction fuel generalizing h with
  | zero => exact ⟨0, le_rfl, rfl, by omega, by omega⟩
  | succ fuel ih =>
    unfold freeHandle
    by_cases hused : h ∈ used
    · obtain ⟨n, hle, heq, hbefore, hfree⟩ := ih (nextHandle h)
      rw [if_pos hused]
      refine ⟨n + 1, by omega, heq, fun m hm => ?_, fun hlt => hfree (by omega)⟩
      cases m with
      | zero => exact hused
      | succ m => exact hbefore m (by omega)
    · rw [if_neg hused]
      exact ⟨0, by omega, rfl, by omega, fun _ => hused⟩

/-- A push takes the first handle from the counter on that no hold has; with at most 24 in use it is found (R46). -/
theorem State.HoldInv.newHandle_spec {s : State} (hs : s.HoldInv) : ∃ n ≤ 24, s.newHandle = nextHandle^[n] s.holds.handles ∧
    (∀ m < n, nextHandle^[m] s.holds.handles ∈ s.handlesInUse) ∧ s.newHandle ∉ s.handlesInUse := by
  obtain ⟨-, hpool, -, -, hlow, hhigh⟩ := hs
  obtain ⟨n, hle, heq, hbefore, hfree⟩ := freeHandle_spec s.handlesInUse 25 s.holds.handles
  have hn : n ≤ 24 := by
    by_contra hgt
    have hdistinct : ((List.range 25).map (fun m => nextHandle^[m] s.holds.handles)).Nodup := by
      refine List.Nodup.map_on (fun a ha b hb hab => ?_) List.nodup_range
      rw [List.mem_range] at ha hb
      rw [nextHandle_iterate hlow hhigh, nextHandle_iterate hlow hhigh] at hab
      omega
    have hsub : (List.range 25).map (fun m => nextHandle^[m] s.holds.handles) ⊆ s.handlesInUse := fun x hx => by
      obtain ⟨m, hm, rfl⟩ := List.mem_map.1 hx
      rw [List.mem_range] at hm
      exact hbefore m (by omega)
    have hlen := (List.subperm_of_subset hdistinct hsub).length_le
    rw [s.poolCount_eq] at hpool
    simp only [List.length_map, List.length_range] at hlen
    omega
  have hnew : s.newHandle = nextHandle^[n] s.holds.handles := heq
  exact ⟨n, hn, hnew, hbefore, hnew ▸ hfree (by omega)⟩

theorem State.HoldInv.newHandle_range {s : State} (hs : s.HoldInv) : 1 ≤ s.newHandle ∧ s.newHandle ≤ 65535 := by
  obtain ⟨n, -, hnew, -⟩ := hs.newHandle_spec
  obtain ⟨-, -, -, -, hlow, hhigh⟩ := hs
  rw [hnew, nextHandle_iterate hlow hhigh]
  omega

theorem nextHandle_range {h : Nat} (h2 : h ≤ 65535) : 1 ≤ nextHandle h ∧ nextHandle h ≤ 65535 := by
  unfold nextHandle; split <;> omega

end Sys2Proof.Machine

/-! What a command or event keeps of the program lists, the hold stacks and the house record, said for one operation at a
time: the relation `KeepsStores`, and the operations that write these stores (R27, R28, R44 to R49, R64). -/

namespace Sys2Proof.Machine

variable {s t u : State}

/-! ### The relation -/

/-- `t` meets the invariants of Program Store, Hold Stacks and House Mode Unit that `s` meets. -/
structure KeepsStores (s t : State) : Prop where
  program : s.ProgramInv → t.ProgramInv
  hold : s.HoldInv → t.HoldInv
  house : s.HouseInv → t.HouseInv

theorem KeepsStores.refl (s : State) : KeepsStores s s := ⟨id, id, id⟩

theorem KeepsStores.trans (h : KeepsStores s t) (k : KeepsStores t u) : KeepsStores s u :=
  ⟨k.program ∘ h.program, k.hold ∘ h.hold, k.house ∘ h.house⟩

theorem KeepsStores.ite {c : Prop} [Decidable c] (h : c → KeepsStores s t) (k : ¬ c → KeepsStores s u) :
    KeepsStores s (if c then t else u) := by
  split
  · next hc => exact h hc
  · next hc => exact k hc

/-- A command with a check: the state it leaves either way. -/
theorem KeepsStores.ite_fst {c : Prop} [Decidable c] {a b : State × Answer} (h : c → KeepsStores s a.1)
    (k : ¬ c → KeepsStores s b.1) : KeepsStores s (if c then a else b).1 := by
  split
  · next hc => exact h hc
  · next hc => exact k hc

theorem KeepsStores.foldl {α : Type} {f : State → α → State} (h : ∀ (s : State) (a : α), KeepsStores s (f s a))
    (l : List α) (s : State) : KeepsStores s (l.foldl f s) := by
  induction l generalizing s with
  | nil => exact KeepsStores.refl s
  | cons a l ih => exact (h s a).trans (ih _)

/-- The three invariants read the three stores alone. -/
theorem KeepsStores.of_eq (hp : t.points = s.points) (hh : t.holds = s.holds) (hm : t.house = s.house) :
    KeepsStores s t := by
  refine ⟨fun h => ?_, fun h => ?_, fun h => ?_⟩
  · simpa only [State.ProgramInv, State.pointsOf, State.pointCount, hp] using h
  · simpa only [State.HoldInv, State.stackOf, State.poolCount, State.handlesInUse, hh] using h
  · simpa only [State.HouseInv, hm] using h

/-- An update beside the three stores comes first. -/
theorem KeepsStores.of_eq_left (k : KeepsStores t u) (hp : t.points = s.points) (hh : t.holds = s.holds)
    (hm : t.house = s.house) : KeepsStores s u :=
  (KeepsStores.of_eq hp hh hm).trans k

/-- Settling writes none of the three stores. -/
theorem State.SettlesTo.keepsStores (h : s.SettlesTo t) : KeepsStores s t := KeepsStores.of_eq h.points h.holds h.house

theorem State.ResolvesTo.keepsStores (h : s.ResolvesTo t) : KeepsStores s t := KeepsStores.of_eq h.points h.holds h.house

theorem keepsStores_evaluate (s : State) : KeepsStores s s.evaluate := s.settlesTo_evaluate.keepsStores

theorem keepsStores_evaluateFrom (s before : State) : KeepsStores s (s.evaluateFrom before) :=
  (s.settlesTo_evaluateFrom before).keepsStores

theorem keepsStores_resolve (s : State) (z : Fin 17) : KeepsStores s (s.resolve z) := (s.resolvesTo_resolve z).keepsStores

theorem keepsStores_resolveAll (s : State) : KeepsStores s s.resolveAll := s.resolvesTo_resolveAll.keepsStores

theorem keepsStores_reach (s : State) (n : Nat) : KeepsStores s (s.reach n) := KeepsStores.of_eq rfl rfl rfl

theorem keepsStores_takeEarly (s : State) (k : TickTaken) : KeepsStores s (s.takeEarly k) := KeepsStores.of_eq rfl rfl rfl

theorem keepsStores_setLink (s : State) (l : Link) : KeepsStores s (s.setLink l) := KeepsStores.of_eq rfl rfl rfl

theorem keepsStores_raise (s : State) (n : Notice) : KeepsStores s (s.raise n) := KeepsStores.of_eq rfl rfl rfl

theorem keepsStores_raiseIf (s : State) (b : Bool) (n : Notice) : KeepsStores s (s.raiseIf b n) :=
  KeepsStores.ite (fun _ => keepsStores_raise s n) fun _ => KeepsStores.refl s

/-! ### Points (R27 to R31) -/

/-- A list of the zone in its limits is stored, for which the pool has room. -/
theorem keepsStores_setPoints (s : State) (z : Fin 17) {l : List Point} (h : listOk z (s.pointsOf z) → listOk z l)
    (hroom : s.pointCount ≤ 256 → s.pointCount + l.length ≤ 256 + (s.pointsOf z).length) :
    KeepsStores s (s.setPoints z l) := by
  refine ⟨?_, id, id⟩
  rintro ⟨hlists, hpool⟩
  have hcount := s.pointCount_setPoints z l
  have hle := hroom hpool
  refine ⟨fun y => ?_, by omega⟩
  rw [State.setPoints_pointsOf]
  split
  · next e => subst e; exact h (hlists z)
  · exact hlists y

theorem keepsStores_editPoints (s : State) (z : Fin 17) {l : List Point} (h : listOk z (s.pointsOf z) → listOk z l)
    (hroom : s.pointCount ≤ 256 → s.pointCount + l.length ≤ 256 + (s.pointsOf z).length) :
    KeepsStores s (s.editPoints z l) :=
  ((keepsStores_setPoints s z h hroom).trans (keepsStores_resolve _ z)).trans (keepsStores_evaluateFrom _ s)

theorem listOk_withoutPoint {z : Fin 17} {l : List Point} (n : Nat) (h : listOk z l) : listOk z (withoutPoint l n) := by
  obtain ⟨hsorted, hlen, hpoints⟩ := h
  exact ⟨hsorted.filter _, (List.length_filter_le _ _).trans hlen, fun p hp => hpoints p (List.mem_filter.1 hp).1⟩

/-- A point of the week with a time of its own and a level of the zone takes its place in a list with room (R29). -/
theorem listOk_insertPoint {z : Fin 17} {l : List Point} {p : Point} (h : listOk z l) (hlen : l.length < 32)
    (hnew : ∀ q ∈ l, q.time ≠ p.time) (htime : p.time ≤ 10079) (hlevel : levelOk z p.level) :
    listOk z (insertPoint p l) := by
  obtain ⟨hsorted, -, hpoints⟩ := h
  refine ⟨pairwise_insertPoint hsorted hnew, by rw [length_insertPoint]; omega, fun q hq => ?_⟩
  rcases mem_insertPoint.1 hq with rfl | hq
  · exact ⟨htime, hlevel⟩
  · exact hpoints q hq

theorem pointAt_isSome_iff {l : List Point} {n : Nat} : (pointAt l n).isSome = true ↔ ∃ q ∈ l, q.time = n := by
  simp [pointAt, List.find?_isSome]

theorem pointAt_some {l : List Point} {n : Nat} {p : Point} (h : pointAt l n = some p) : p ∈ l ∧ p.time = n :=
  ⟨List.mem_of_find?_eq_some h, by simpa using List.find?_some h⟩

/-- The list without the point of a time is shorter where it held one. -/
theorem length_withoutPoint_lt {l : List Point} {p : Point} (hp : p ∈ l) : (withoutPoint l p.time).length < l.length :=
  List.length_filter_lt_length_iff_exists.2 ⟨p, hp, by simp⟩

theorem keepsStores_createPoint (s : State) (key : Word) (items : List Item) : KeepsStores s (s.createPoint key items).1 := by
  unfold State.createPoint
  refine KeepsStores.ite_fst (fun _ => ?_) fun _ => KeepsStores.refl s
  split
  · next z v _ _ =>
    refine KeepsStores.ite_fst (fun _ => KeepsStores.refl s) fun htime => ?_
    refine KeepsStores.ite_fst (fun _ => KeepsStores.refl s) fun hdup => ?_
    refine KeepsStores.ite_fst (fun hroom => ?_) fun _ => KeepsStores.refl s
    have hnew : ∀ q ∈ s.pointsOf z, q.time ≠ key.toNat := fun q hq e => hdup (pointAt_isSome_iff.2 ⟨q, hq, e⟩)
    simp only [State.pointRoom, Bool.and_eq_true, decide_eq_true_eq] at hroom
    refine keepsStores_editPoints s z (fun h => ?_) fun _ => ?_
    · exact listOk_insertPoint h hroom.1 hnew (by simpa using htime) (storedLevel_ok z v)
    · rw [length_insertPoint]; omega
  · exact KeepsStores.refl s

/-- The new time of a point as an accepted WRITE leaves it lies in the week (R30). -/
theorem movedPoint_time {z : Fin 17} {p : Point} {items : List Item} (h : newTimeOk items = true) (hp : p.time ≤ 10079) :
    (movedPoint z p items).time ≤ 10079 := by
  unfold newTimeOk at h
  unfold movedPoint
  cases hi : item items 2 with
  | none => exact hp
  | some v =>
    simp only [hi, Option.all_some, Bool.and_eq_true, decide_eq_true_eq] at h
    simp only [Option.elim_some]; omega

theorem keepsStores_writePoint (s : State) (key : Word) (items : List Item) : KeepsStores s (s.writePoint key items).1 := by
  unfold State.writePoint
  split
  · exact KeepsStores.refl s
  · next z p hfind =>
    refine KeepsStores.ite_fst (fun hok => KeepsStores.ite_fst (fun _ => KeepsStores.refl s) fun hdup => ?_)
      fun _ => KeepsStores.refl s
    have hp : p ∈ s.pointsOf z := by
      obtain ⟨y, -, hy⟩ := Option.bind_eq_some_iff.1 hfind
      obtain ⟨r, hr, he⟩ := Option.map_eq_some_iff.1 hy
      cases he
      exact (pointAt_some hr).1
    have hshorter := length_withoutPoint_lt hp
    refine keepsStores_editPoints s z (fun h => ?_) fun _ => ?_
    · have hlen := h.2.1
      obtain ⟨htime, hlevel⟩ := h.2.2 p hp
      refine listOk_insertPoint (listOk_withoutPoint p.time h) (by omega) (fun q hq e => hdup ?_)
        (movedPoint_time (Bool.and_eq_true_iff.1 hok).2 htime) (movedPoint_ok items hlevel)
      obtain ⟨hql, hqt⟩ := List.mem_filter.1 hq
      exact ⟨fun k => by simp [e.trans k] at hqt, pointAt_isSome_iff.2 ⟨q, hql, e⟩⟩
    · rw [movePoint, length_insertPoint]; omega

theorem keepsStores_retirePoint (s : State) (key : Word) (zone : Byte) : KeepsStores s (s.retirePoint key zone).1 := by
  unfold State.retirePoint
  split
  · exact KeepsStores.refl s
  · next z p _ =>
    refine keepsStores_editPoints s z (listOk_withoutPoint p.time) fun _ => ?_
    have := List.length_filter_le (fun q : Point => q.time != p.time) (s.pointsOf z)
    rw [withoutPoint]; omega

/-! ### Holds (R44 to R54) -/

/-- A stack loses holds or keeps their handles, and so does the pool. -/
theorem holdInv_of_sublist (hstacks : ∀ z, (t.stackOf z).length ≤ (s.stackOf z).length)
    (hsub : t.handlesInUse.Sublist s.handlesInUse) (hcounter : t.holds.handles = s.holds.handles) (h : s.HoldInv) :
    t.HoldInv := by
  obtain ⟨hlen, hpool, hnodup, hrange, hcount⟩ := h
  rw [State.poolCount_eq] at hpool
  refine ⟨fun z => (hstacks z).trans (hlen z), ?_, hsub.nodup hnodup, fun n hn => hrange n (hsub.subset hn), ?_⟩
  · rw [State.poolCount_eq]; exact hsub.length_le.trans hpool
  · rw [hcounter]; exact hcount

/-- The handles in use run along where every stack's do. -/
theorem handlesInUse_sublist (h : ∀ z, ((t.stackOf z).map Hold.handle).Sublist ((s.stackOf z).map Hold.handle)) :
    t.handlesInUse.Sublist s.handlesInUse := by
  rw [State.handlesInUse_eq, State.handlesInUse_eq]
  induction allZones with
  | nil => exact List.Sublist.refl _
  | cons z l ih => exact (h z).append ih

/-- The holds are written so that each stack's handles are some of those before, in their order. -/
theorem KeepsStores.holds {l : Holds} (h : ∀ z : Fin 17, (l.stack[z].map Hold.handle).Sublist ((s.stackOf z).map Hold.handle))
    (hcounter : l.handles = s.holds.handles) : KeepsStores s { s with holds := l } := by
  refine ⟨id, holdInv_of_sublist (fun z => ?_) (handlesInUse_sublist h) hcounter, id⟩
  have hlen := (h z).length_le
  simp only [List.length_map] at hlen
  exact hlen

theorem keepsStores_setStack (s : State) (z : Fin 17) {l : List Hold}
    (h : (l.map Hold.handle).Sublist ((s.stackOf z).map Hold.handle)) : KeepsStores s (s.setStack z l) := by
  refine KeepsStores.holds (fun y => ?_) rfl
  change ((State.setStack s z l).stackOf y |>.map Hold.handle).Sublist _
  rw [State.setStack_stackOf]
  split
  · next e => subst e; exact h
  · exact List.Sublist.refl _

theorem keepsStores_filterStack (s : State) (z : Fin 17) (f : Hold → Bool) :
    KeepsStores s (s.setStack z ((s.stackOf z).filter f)) :=
  keepsStores_setStack s z (List.filter_sublist.map _)

theorem keepsStores_retireNextPoint (s : State) (z : Fin 17) : KeepsStores s (s.retireNextPoint z) :=
  keepsStores_filterStack s z _

/-- A hold changed in its place keeps its handle (R51, R60). -/
theorem keepsStores_putHold (s : State) (z : Fin 17) (h : Hold) : KeepsStores s (s.putHold z h) := by
  have hhandles : ((s.stackOf z).map (fun g => if g.handle = h.handle then h else g)).map Hold.handle =
      (s.stackOf z).map Hold.handle := by
    rw [List.map_map]
    refine List.map_congr_left fun g _ => ?_
    simp only [Function.comp_apply]
    split
    · next e => exact e.symm
    · rfl
  exact keepsStores_setStack s z (hhandles ▸ List.Sublist.refl _)

theorem countDown_handle {g h : Hold} (k : countDown h = some g) : g.handle = h.handle := by
  rw [(countDown_spec k).1]

theorem handles_countDown (l : List Hold) : ((l.filterMap countDown).map Hold.handle).Sublist (l.map Hold.handle) := by
  induction l with
  | nil => exact List.Sublist.refl _
  | cons h l ih =>
    rw [List.filterMap_cons]
    split
    · exact ih.cons _
    · next g hg => rw [List.map_cons, List.map_cons, countDown_handle hg]; exact ih.cons_cons _

theorem keepsStores_countHolds (s : State) : KeepsStores s s.countHolds := by
  refine KeepsStores.holds (fun z => ?_) rfl
  rw [mapTable_get]
  exact handles_countDown _

theorem keepsStores_dropUnretained (s : State) : KeepsStores s s.dropUnretained := by
  refine KeepsStores.holds (fun z => ?_) rfl
  rw [mapTable_get]
  exact List.filter_sublist.map _

/-- A push that the pool has room for, or that displaces the bottom hold of a full stack (R46, R48, R49). -/
theorem keepsStores_push (s : State) (z : Fin 17) (v : Int) (e : EndKind) (o : Origin) (r : Bool)
    (hroom : s.pushRefused z = false) : KeepsStores s (s.push z v e o r) := by
  refine ⟨?_, fun hs => ?_, ?_⟩
  · rw [State.push_eq]; exact id
  · obtain ⟨-, -, -, -, hfree⟩ := hs.newHandle_spec
    have hrange := hs.newHandle_range
    have hnext := nextHandle_range hrange.2
    have hlen := hs.1 z
    generalize hh : Hold.mk s.newHandle (s.holdRange z v) e o r s.holds.pushes = h
    have hhandle : h.handle = s.newHandle := by rw [← hh]
    have hbelow := (keepsStores_setStack s z ((List.take_sublist 3 (s.stackOf z)).map Hold.handle)).hold hs
    have hperm := s.handlesInUse_setStack_cons z h ((s.stackOf z).take 3)
    have hpool : (s.setStack z (h :: (s.stackOf z).take 3)).poolCount ≤ 24 := by
      have hcount := s.poolCount_setStack z (h :: (s.stackOf z).take 3)
      have hle := hs.2.1
      simp only [State.pushRefused, Bool.and_eq_false_iff, decide_eq_false_iff_not] at hroom
      simp only [List.length_cons, List.length_take] at hcount
      omega
    have hnodup : (s.setStack z (h :: (s.stackOf z).take 3)).handlesInUse.Nodup := by
      rw [hperm.nodup_iff, List.nodup_cons, hhandle]
      refine ⟨fun hin => hfree ?_, hbelow.2.2.1⟩
      obtain ⟨y, g, hg, hgh⟩ := State.mem_handlesInUse.1 hin
      rw [State.setStack_stackOf] at hg
      split at hg
      · exact State.mem_handlesInUse.2 ⟨z, g, List.mem_of_mem_take hg, hgh⟩
      · exact State.mem_handlesInUse.2 ⟨y, g, hg, hgh⟩
    have hall : ∀ n ∈ (s.setStack z (h :: (s.stackOf z).take 3)).handlesInUse, 1 ≤ n ∧ n ≤ 65535 := fun n hn => by
      rcases List.mem_cons.1 (hperm.subset hn) with rfl | hn
      · rw [hhandle]; exact hrange
      · exact hbelow.2.2.2.1 n hn
    have hstacks : ∀ y, ((s.setStack z (h :: (s.stackOf z).take 3)).stackOf y).length ≤ 4 := fun y => by
      rw [State.setStack_stackOf]
      split
      · simp only [List.length_cons, List.length_take]; omega
      · exact hs.1 y
    rw [State.push_eq, hh]
    exact ⟨hstacks, hpool, hnodup, hall, hnext⟩
  · rw [State.push_eq]; exact id

theorem keepsStores_afterHold (s : State) (z : Fin 17) (before : State) : KeepsStores s (s.afterHold z before) :=
  (keepsStores_resolve s z).trans (keepsStores_evaluateFrom _ before)

theorem keepsStores_createHold (s : State) (items : List Item) : KeepsStores s (s.createHold items).1 := by
  unfold State.createHold
  refine KeepsStores.ite_fst (fun _ => ?_) fun _ => KeepsStores.refl s
  split
  · refine KeepsStores.ite_fst (fun _ => KeepsStores.refl s) fun hroom => ?_
    exact (keepsStores_push s _ _ _ _ _ (by simpa using hroom)).trans (keepsStores_afterHold _ _ s)
  · exact KeepsStores.refl s

theorem keepsStores_writeHold (s : State) (key : Word) (items : List Item) : KeepsStores s (s.writeHold key items).1 := by
  unfold State.writeHold
  split
  · exact KeepsStores.refl s
  · exact KeepsStores.ite_fst (fun _ => (keepsStores_putHold s _ _).trans (keepsStores_afterHold _ _ s))
      fun _ => KeepsStores.refl s

theorem keepsStores_retireHold (s : State) (key : Word) : KeepsStores s (s.retireHold key).1 := by
  refine KeepsStores.ite_fst (fun _ => KeepsStores.refl s) fun _ => ?_
  split
  · exact KeepsStores.refl s
  · exact (keepsStores_filterStack s _ _).trans (keepsStores_afterHold _ _ s)

theorem keepsStores_tickHolds (s : State) : KeepsStores s s.tickHolds :=
  ((keepsStores_countHolds s).trans (keepsStores_resolveAll _)).trans (keepsStores_evaluate _)

theorem keepsStores_expireHold (s : State) (n : Nat) : KeepsStores s (s.expireHold n) := by
  unfold State.expireHold
  split
  · exact KeepsStores.ite (fun _ => (keepsStores_takeEarly s _).trans (keepsStores_tickHolds _)) fun _ => KeepsStores.refl s
  · exact KeepsStores.refl s

/-! ### House record (R64 to R71) -/

theorem keepsStores_setHouse (s : State) {h : House} (k : s.HouseInv → (s.setHouse h).HouseInv) :
    KeepsStores s (s.setHouse h) := ⟨id, id, k⟩

/-- A change of mode stores mode and countdown; none in OCCUPIED, and never 0 (R64, R67). -/
theorem keepsStores_changeMode (s : State) {m : Mode} {c : Option Nat} (hm : m = .occupied → c = none) (hc : c ≠ some 0) :
    KeepsStores s (s.changeMode m c) := by
  have hset : KeepsStores s (s.setHouse { s.house with mode := m, countdown := c }) :=
    keepsStores_setHouse s fun ⟨_, _, hranges⟩ => ⟨hm, hc, hranges⟩
  exact (hset.trans (keepsStores_raise _ _)).trans (s.resolvesTo_changeMode m c).keepsStores

/-- What a wake disarms and records is outside the invariant's reach (R69, R71). -/
theorem keepsStores_setDisarmed (s : State) (c : WakeCause) :
    KeepsStores s (s.setHouse ({ s.house with lastCause := some c }.disarm c)) := by
  refine keepsStores_setHouse s fun h => ?_
  unfold House.disarm
  repeat' split
  all_goals exact h

theorem keepsStores_wake (s : State) (c : WakeCause) : KeepsStores s (s.wake c) :=
  KeepsStores.ite (fun _ => (keepsStores_setDisarmed s c).trans (keepsStores_changeMode _ (fun _ => rfl) (by simp)))
    fun _ => KeepsStores.refl s

theorem keepsStores_setCountdown (s : State) {c : Option Nat} (hm : c.isSome → s.house.mode ≠ .occupied) (hc : c ≠ some 0) :
    KeepsStores s (s.setHouse { s.house with countdown := c }) := by
  refine keepsStores_setHouse s ?_
  rintro ⟨-, -, hranges⟩
  refine ⟨fun ho => ?_, hc, hranges⟩
  by_contra hne
  exact hm (Option.isSome_iff_ne_none.2 hne) ho

theorem keepsStores_returnEnds (s : State) : KeepsStores s s.returnEnds :=
  (keepsStores_setCountdown s (by simp) (by simp)).trans (keepsStores_wake _ _)

theorem keepsStores_countReturn (s : State) : KeepsStores s s.countReturn := by
  unfold State.countReturn
  split
  · next n hn =>
    refine KeepsStores.ite (fun _ => keepsStores_returnEnds s) fun hgt => keepsStores_setHouse s ?_
    rintro ⟨hocc, -, hranges⟩
    refine ⟨fun ho => ?_, by simpa using (by omega : ¬ n - 1 = 0), hranges⟩
    rw [hocc ho] at hn; cases hn
  · exact KeepsStores.refl s

theorem keepsStores_tickHouse (s : State) : KeepsStores s s.tickHouse :=
  (keepsStores_countReturn s).trans (keepsStores_evaluate _)

theorem keepsStores_expireReturn (s : State) : KeepsStores s s.expireReturn :=
  KeepsStores.ite (fun _ => ((keepsStores_takeEarly s _).trans (keepsStores_returnEnds _)).trans (keepsStores_evaluateFrom _ s))
    fun _ => KeepsStores.refl s

theorem keepsStores_storeHouse (s : State) (items : List Item) : KeepsStores s (s.setHouse (s.house.store items)) := by
  refine keepsStores_setHouse s ?_
  rintro ⟨hocc, hzero, l1, u1, l2, u2⟩
  have b1 := takeItem_bounds (items := items) (code := 8) (by omega) ⟨l1, u1⟩
  have b2 := takeItem_bounds (items := items) (code := 9) (by omega) ⟨l2, u2⟩
  exact ⟨hocc, hzero, b1.1, b1.2, b2.1, b2.2⟩

theorem keepsStores_writeHouse (s : State) (key : Word) (items : List Item) : KeepsStores s (s.writeHouse key items).1 := by
  refine KeepsStores.ite_fst (fun _ => KeepsStores.refl s) fun _ => KeepsStores.ite_fst (fun _ => ?_) fun _ => KeepsStores.refl s
  have hstored := keepsStores_storeHouse s items
  exact KeepsStores.ite (fun _ => (hstored.trans (State.resolvesTo_resolveRooms _).keepsStores).trans
    (keepsStores_evaluateFrom _ s)) fun _ => hstored

theorem keepsStores_enterMode (s : State) {m : Mode} {c : Option Nat} (hm : m ≠ .occupied) (hc : c ≠ some 0) :
    KeepsStores s (s.enterMode m c) :=
  KeepsStores.ite (fun e => keepsStores_setCountdown s (fun _ => e ▸ hm) hc)
    fun _ => (keepsStores_changeMode s (fun e => absurd e hm) hc).trans (keepsStores_evaluateFrom _ s)

theorem countdownOf_ne_zero (w : Word) : countdownOf w ≠ some 0 := by
  unfold countdownOf
  split
  · simp
  · next h => simpa using h

theorem keepsStores_setMode (s : State) (mode : Byte) (countdown : Word) : KeepsStores s (s.setMode mode countdown).1 := by
  unfold State.setMode
  split
  · exact KeepsStores.refl s
  · exact KeepsStores.ite_fst (fun _ => (keepsStores_wake s _).trans (keepsStores_evaluateFrom _ s)) fun _ => KeepsStores.refl s
  · exact keepsStores_enterMode s (by simp) (countdownOf_ne_zero _)
  · exact keepsStores_enterMode s (by simp) (countdownOf_ne_zero _)

/-! ### Clock (R24, R25, R35, R36) -/

/-- The NEXT_POINT holds of some zones are retired. -/
theorem keepsStores_retireWhere (f : Fin 17 → Bool) (l : List (Fin 17)) (s : State) :
    KeepsStores s (l.foldl (fun t z => if f z then t.retireNextPoint z else t) s) :=
  KeepsStores.foldl (fun t z => KeepsStores.ite (fun _ => keepsStores_retireNextPoint t z) fun _ => KeepsStores.refl t) l s

theorem keepsStores_takePointChanges (s : State) (before : Option Nat) : KeepsStores s (s.takePointChanges before) := by
  unfold State.takePointChanges
  exact keepsStores_retireWhere (fun z => pointChanged (s.pointsOf z) before s.clock.timeOfWeek) _ s

theorem keepsStores_takeCrossings (s : State) : KeepsStores s s.takeCrossings := by
  unfold State.takeCrossings
  exact keepsStores_retireWhere s.crossed _ s

theorem keepsStores_setClock (s : State) (time : Word) : KeepsStores s (s.setClock time).1 := by
  refine KeepsStores.ite_fst (fun _ => KeepsStores.refl s) fun _ => ?_
  have hstart : KeepsStores s (s.startClock time.toNat) := KeepsStores.of_eq rfl rfl rfl
  have hresolved := (hstart.trans (keepsStores_takePointChanges _ s.clock.timeOfWeek)).trans (keepsStores_resolveAll _)
  dsimp only
  exact hresolved.trans (keepsStores_evaluateFrom _ s)

theorem keepsStores_tickClock (s : State) : KeepsStores s s.tickClock := by
  have hadvance : KeepsStores s { s with clock := s.clock.advanced } := KeepsStores.of_eq rfl rfl rfl
  exact ((hadvance.trans (keepsStores_takeCrossings _)).trans (keepsStores_resolveAll _)).trans (keepsStores_evaluate _)

end Sys2Proof.Machine

/-! The commands and events of the other blocks leave the program lists, the hold stacks and the house record alone; so
every command and event, and every step, keeps their invariants. -/

namespace Sys2Proof.Machine

/-! ### Zones (R8, R9, R13 to R17, R79) -/

theorem keepsStores_storeRoom (s : State) (z : Fin 16) (items : List Item) : KeepsStores s (s.storeRoom z items) := by
  have hannounce : ∀ (u : State) (b : Bool), KeepsStores u (u.announceIf b z) := fun u b =>
    KeepsStores.ite (fun _ => (u.resolvesTo_announce z).keepsStores) fun _ => KeepsStores.refl u
  have hresolve : ∀ (u : State) (b : Bool), KeepsStores u (u.resolveIf b (roomIndex z)) := fun u b =>
    KeepsStores.ite (fun _ => keepsStores_resolve u _) fun _ => KeepsStores.refl u
  rw [State.storeRoom_eq]
  exact ((hannounce _ _).trans (hresolve _ _)).of_eq_left rfl rfl rfl

theorem keepsStores_writeRoom (s : State) (z : Fin 16) (items : List Item) : KeepsStores s (s.writeRoom z items).1 :=
  KeepsStores.ite_fst (fun _ => (keepsStores_storeRoom s z items).trans (keepsStores_evaluateFrom _ s))
    fun _ => KeepsStores.refl s

theorem keepsStores_storeCylinder (s : State) (items : List Item) : KeepsStores s (s.storeCylinder items) := by
  cases hon : s.cylinder.turnedOn items with
  | false =>
    rw [State.storeCylinder_of_not_on hon]
    exact (State.settlesTo_shortened _ items).keepsStores.of_eq_left rfl rfl rfl
  | true =>
    rw [State.storeCylinder_of_on hon]
    exact KeepsStores.ite (fun _ => KeepsStores.of_eq rfl rfl rfl) fun _ => KeepsStores.of_eq rfl rfl rfl

theorem keepsStores_writeCylinder (s : State) (items : List Item) : KeepsStores s (s.writeCylinder items).1 :=
  KeepsStores.ite_fst (fun _ => (keepsStores_storeCylinder s items).trans (State.settlesTo_evaluateWrite _ items s).keepsStores)
    fun _ => KeepsStores.refl s

theorem keepsStores_writeZone (s : State) (key : Word) (items : List Item) : KeepsStores s (s.writeZone key items).1 := by
  unfold State.writeZone
  split
  · split
    · exact keepsStores_writeRoom s _ items
    · exact keepsStores_writeCylinder s items
  · exact KeepsStores.refl s

theorem keepsStores_zoneTick (s : State) (z : Fin 16) : KeepsStores s (s.zoneTick z) := by
  have htargets : ∀ u : State, KeepsStores u (u.targetValves z) := fun u => (u.settlesTo_targetValves z).keepsStores
  have hset : ∀ r : Zone, KeepsStores s (s.setZone z r) := fun _ => KeepsStores.of_eq rfl rfl rfl
  have hpending : ∀ (u : State) (st : ZoneState), KeepsStores u (u.applyPending z st) := fun u st =>
    KeepsStores.ite (fun _ => KeepsStores.of_eq rfl rfl rfl) fun _ => KeepsStores.refl u
  have hannounce : ∀ (u : State) (b : Bool), KeepsStores u (u.announceIf b z) := fun u b =>
    KeepsStores.ite (fun _ => (u.resolvesTo_announce z).keepsStores) fun _ => KeepsStores.refl u
  refine KeepsStores.ite (fun _ => ?_) fun _ => ((hset _).trans (htargets _)).trans (keepsStores_evaluateFrom _ s)
  exact ((((hset _).trans (hannounce _ _)).trans (htargets _)).trans (hpending _ _)).trans (keepsStores_evaluate _)

/-! ### Boiler and channel (R100 to R117, R131 to R133) -/

theorem keepsStores_setBoiler (s : State) (b : Boiler) : KeepsStores s (s.setBoiler b) := KeepsStores.of_eq rfl rfl rfl

theorem keepsStores_storeBoiler (s : State) (items : List Item) : KeepsStores s (s.storeBoiler items) := by
  have hrelease : KeepsStores s (s.releaseBypass items) :=
    KeepsStores.ite (fun _ => s.settlesTo_endForcing.keepsStores) fun _ => KeepsStores.refl s
  have hkeep : ∀ u : State, KeepsStores u u.keepPassing := fun u => u.settlesTo_keepPassing.keepsStores
  have hshort : ∀ u : State, KeepsStores u (((u.shortenMinOn items).shortenOff items).shortenOverrun items) := fun u =>
    KeepsStores.trans (KeepsStores.trans
      (KeepsStores.ite (fun _ => keepsStores_setBoiler u _) fun _ => KeepsStores.refl u)
      (KeepsStores.ite (fun _ => keepsStores_setBoiler _ _) fun _ => KeepsStores.refl _))
      (KeepsStores.ite (fun _ => keepsStores_setBoiler _ _) fun _ => KeepsStores.refl _)
  exact ((((hrelease.trans (keepsStores_setBoiler _ _)).trans (hkeep _)).trans (hshort _))).trans (keepsStores_evaluate _)

theorem keepsStores_writeBoiler (s : State) (key : Word) (items : List Item) : KeepsStores s (s.writeBoiler key items).1 :=
  KeepsStores.ite_fst (fun _ => KeepsStores.refl s) fun _ => KeepsStores.ite_fst
    (fun _ => KeepsStores.ite (fun _ => KeepsStores.refl s) fun _ => keepsStores_storeBoiler s items) fun _ => KeepsStores.refl s

theorem keepsStores_boilerReset (s : State) : KeepsStores s s.boilerReset.1 := by
  refine KeepsStores.ite_fst (fun _ => KeepsStores.ite_fst (fun _ => KeepsStores.refl s) fun _ => ?_) fun _ => KeepsStores.refl s
  exact KeepsStores.ite_fst (fun _ => keepsStores_setBoiler s _) fun _ => KeepsStores.refl s

theorem keepsStores_lockOut (s : State) : KeepsStores s s.lockOut := KeepsStores.of_eq rfl rfl rfl

theorem keepsStores_endLockout (s : State) : KeepsStores s s.endLockout :=
  KeepsStores.ite (fun _ => KeepsStores.of_eq rfl rfl rfl) fun _ => KeepsStores.of_eq rfl rfl rfl

theorem keepsStores_takeSample (s : State) (tflow tout tcyl : Int) : KeepsStores s (s.takeSample tflow tout tcyl) := by
  have hburner : ∀ (u : State) (r : Int), KeepsStores u (u.burnerSample r) := fun u r => by
    unfold State.burnerSample
    repeat' split
    all_goals exact KeepsStores.of_eq rfl rfl rfl
  have hchannel : ∀ u : State, KeepsStores u u.channelSample := fun u => by
    unfold State.channelSample
    repeat' split
    all_goals exact KeepsStores.of_eq rfl rfl rfl
  have hflow : KeepsStores s (s.sampleFlow tflow) := (keepsStores_setBoiler s _).trans (hburner _ tflow)
  have hout : KeepsStores (s.sampleFlow tflow) ((s.sampleFlow tflow).sampleOutdoor tout) :=
    (keepsStores_setBoiler _ _).trans (keepsStores_raiseIf _ _ _)
  exact ((hflow.trans hout).trans ((keepsStores_setBoiler _ _).trans (hchannel _))).trans (keepsStores_evaluate _)

theorem keepsStores_tickStarts (s : State) : KeepsStores s s.tickStarts :=
  (keepsStores_setBoiler s _).trans (keepsStores_evaluate _)

theorem keepsStores_expireStart (s : State) : KeepsStores s s.expireStart :=
  KeepsStores.ite (fun _ => (keepsStores_takeEarly s _).trans (keepsStores_tickStarts _)) fun _ => KeepsStores.refl s

theorem exec_boilerTimer_keepsStores (s : State) {c : Instr} (h : c = .outdoorHoldExpiry ∨ c = .sensorRecoveryExpiry ∨
    c = .tboffExpiry ∨ c = .tbonExpiry ∨ c = .waitFlowExpiry ∨ c = .pumpOverrunExpiry) :
    ∃ t, exec c s = .next t ∧ KeepsStores s t := by
  have hwritten : ∀ (n : Nat) (b : Boiler), KeepsStores s ((s.reach n).setBoiler b).evaluate := fun n b =>
    ((keepsStores_reach s n).trans (keepsStores_setBoiler _ b)).trans (keepsStores_evaluate _)
  rcases h with rfl | rfl | rfl | rfl | rfl | rfl <;> refine ⟨_, rfl, ?_⟩
  · split
    · exact hwritten _ _
    · exact KeepsStores.refl s
  · split
    · exact hwritten _ _
    · exact KeepsStores.refl s
  · exact KeepsStores.ite (fun _ => hwritten _ _) fun _ => KeepsStores.refl s
  · split
    · exact hwritten _ _
    · exact KeepsStores.refl s
  · split
    · exact (keepsStores_evaluate _).of_eq_left rfl rfl rfl
    · exact KeepsStores.refl s
  · split
    · exact KeepsStores.ite (fun _ => (keepsStores_reach s _).trans (keepsStores_evaluate _)) fun _ => hwritten _ _
    · exact KeepsStores.refl s

theorem exec_lockout_keepsStores (s : State) {c : Instr}
    (h : c = .lockoutAssert ∨ c = .lockoutRelease ∨ c = .lockoutResetPulseEnd) :
    ∃ t, exec c s = .next t ∧ KeepsStores s t := by
  rcases h with rfl | rfl | rfl <;> refine ⟨_, rfl, ?_⟩
  · have hpin := keepsStores_setBoiler s { s.boiler with lockoutPin := true }
    exact KeepsStores.ite (fun _ => (hpin.trans (keepsStores_lockOut _)).trans (keepsStores_evaluate _)) fun _ => hpin
  · have hpin := keepsStores_setBoiler s { s.boiler with lockoutPin := false }
    exact KeepsStores.ite (fun _ => (hpin.trans (keepsStores_endLockout _)).trans (keepsStores_evaluate _)) fun _ => hpin
  · split
    · next t _ =>
      have hpulse : KeepsStores s
          ((s.reach (t + Config.tRST)).setBoiler { (s.reach (t + Config.tRST)).boiler with pulse := none }) :=
        (keepsStores_reach s _).trans (keepsStores_setBoiler _ _)
      exact KeepsStores.ite (fun _ => hpulse.trans (KeepsStores.of_eq rfl rfl rfl))
        fun _ => (hpulse.trans (keepsStores_endLockout _)).trans (keepsStores_evaluate _)
    · exact KeepsStores.refl s

theorem keepsStores_toIdle (s : State) : KeepsStores s s.toIdle := by
  unfold State.toIdle State.evalIdle
  split <;> exact KeepsStores.of_eq rfl rfl rfl

theorem exec_cylinderTimer_keepsStores (s : State) {c : Instr}
    (h : c = .tprioExpiry ∨ c = .tgapExpiry ∨ c = .cylinderRecoveryExpiry) :
    ∃ t, exec c s = .next t ∧ KeepsStores s t := by
  have hprio : ∀ u : State, KeepsStores u u.prioExpires := fun u =>
    KeepsStores.ite (fun _ => KeepsStores.of_eq rfl rfl rfl) fun _ => KeepsStores.of_eq rfl rfl rfl
  have hgap : ∀ u : State, KeepsStores u u.gapExpires := fun u =>
    KeepsStores.ite (fun _ => KeepsStores.of_eq rfl rfl rfl) fun _ => keepsStores_toIdle u
  rcases h with rfl | rfl | rfl <;> refine ⟨_, rfl, ?_⟩
  · split
    · exact ((keepsStores_reach s _).trans (hprio _)).trans (keepsStores_evaluate _)
    · exact KeepsStores.refl s
  · split
    · exact ((keepsStores_reach s _).trans (hgap _)).trans (keepsStores_evaluate _)
    · exact KeepsStores.refl s
  · split
    · exact ((keepsStores_reach s _).trans (keepsStores_toIdle _)).trans (keepsStores_evaluate _)
    · exact KeepsStores.refl s

/-! ### Device Registry and join list (R161 to R173) -/

theorem keepsStores_addMember (s : State) (z : Option (Fin 16)) (k : DeviceKind) : KeepsStores s (s.addMember z k) := by
  rw [State.addMember_eq]; exact KeepsStores.of_eq rfl rfl rfl

theorem keepsStores_dropMember (s : State) (z : Option (Fin 16)) (k : DeviceKind) : KeepsStores s (s.dropMember z k) := by
  rw [State.dropMember_eq]; exact KeepsStores.of_eq rfl rfl rfl

theorem keepsStores_enterOrder (s : State) (i : Fin 48) : KeepsStores s (s.enterOrder i) := by
  rw [State.enterOrder_eq]; exact KeepsStores.of_eq rfl rfl rfl

theorem keepsStores_setDevice (s : State) (i : Fin 48) (d : Option Device) : KeepsStores s (s.setDevice i d) :=
  KeepsStores.of_eq rfl rfl rfl

theorem keepsStores_joinForcing (s : State) (i : Fin 48) : KeepsStores s (s.joinForcing i) :=
  (s.settlesTo_joinForcing i).keepsStores

theorem keepsStores_admitDevice (s : State) (serial : BitVec 32) (zone : Byte) :
    KeepsStores s (s.admitDevice serial zone).1 := by
  unfold State.admitDevice
  split
  · exact KeepsStores.refl s
  split
  · exact KeepsStores.refl s
  split
  · exact KeepsStores.refl s
  next e _ _ i _ =>
  refine KeepsStores.ite_fst (fun _ => KeepsStores.refl s) fun _ => ?_
  have hdrop : ∀ u : State, KeepsStores u (u.dropJoin e.number) := fun _ => KeepsStores.of_eq rfl rfl rfl
  exact (((((keepsStores_setDevice s i _).trans (keepsStores_addMember _ _ _)).trans (hdrop _)).trans
    (keepsStores_enterOrder _ i)).trans (keepsStores_joinForcing _ i)).trans (keepsStores_evaluateFrom _ s)

theorem keepsStores_rebind (s : State) (i : Fin 48) (d : Device) (zone : Option (Fin 16)) : KeepsStores s (s.rebind i d zone) :=
  ((((keepsStores_setDevice s i _).trans (keepsStores_dropMember _ _ _)).trans (keepsStores_addMember _ _ _)).trans
    (keepsStores_joinForcing _ i)).trans (keepsStores_evaluateFrom _ s)

theorem keepsStores_writeDevice (s : State) (key : Word) (items : List Item) : KeepsStores s (s.writeDevice key items).1 := by
  unfold State.writeDevice
  split
  · unfold State.rebindOr
    split
    · exact KeepsStores.refl s
    · refine KeepsStores.ite_fst (fun _ => KeepsStores.refl s)
        fun _ => KeepsStores.ite_fst (fun _ => KeepsStores.refl s) fun _ => ?_
      exact KeepsStores.ite_fst (fun _ => KeepsStores.refl s) fun _ => keepsStores_rebind s _ _ _
  · exact KeepsStores.refl s

theorem keepsStores_endGrant (s : State) (i : Fin 48) (d : Device) : KeepsStores s (s.endGrant i d) := by
  rw [State.endGrant_eq]; exact KeepsStores.of_eq rfl rfl rfl

theorem keepsStores_retireDevice (s : State) (key : Word) : KeepsStores s (s.retireDevice key).1 := by
  unfold State.retireDevice
  split
  · next i d _ =>
    refine KeepsStores.ite_fst (fun _ => KeepsStores.refl s) fun _ => KeepsStores.trans ?_ (keepsStores_evaluateFrom _ s)
    have hended : KeepsStores s ((s.setQueue (dequeue s.motor.queue i)).endGrant i { d with state := .retiring }) :=
      (keepsStores_endGrant (s.setQueue _) i _).of_eq_left rfl rfl rfl
    exact KeepsStores.ite (fun _ => hended.trans (KeepsStores.of_eq rfl rfl rfl)) fun _ => hended
  · exact KeepsStores.refl s

theorem keepsStores_retireJoin (s : State) (key : Word) : KeepsStores s (s.retireJoin key).1 := by
  unfold State.retireJoin
  split <;> exact KeepsStores.of_eq rfl rfl rfl

theorem keepsStores_writeMotor (s : State) (key : Word) (items : List Item) : KeepsStores s (s.writeMotor key items).1 := by
  refine KeepsStores.ite_fst (fun _ => KeepsStores.refl s) fun _ => KeepsStores.ite_fst (fun _ => ?_) fun _ => KeepsStores.refl s
  exact KeepsStores.ite_fst (fun _ => KeepsStores.refl s) fun _ => KeepsStores.of_eq rfl rfl rfl

theorem keepsStores_refind (s : State) (i : Fin 48) (d : Device) : KeepsStores s (s.refind i d) := by
  have hentered := (keepsStores_endGrant s i d.refound).trans (keepsStores_enterOrder _ i)
  exact KeepsStores.ite (fun _ => hentered.trans (keepsStores_joinForcing _ i)) fun _ => hentered

theorem keepsStores_takeJoin (s : State) (serial : BitVec 32) (k : DeviceKind) : KeepsStores s (s.takeJoin serial k) := by
  unfold State.takeJoin
  split
  · unfold State.knownJoin
    split
    · exact KeepsStores.ite (fun _ => KeepsStores.refl s) fun _ => keepsStores_refind s _ _
    · exact KeepsStores.refl s
  · exact KeepsStores.of_eq rfl rfl rfl
  · rw [State.newJoin_eq]; exact KeepsStores.of_eq rfl rfl rfl

theorem keepsStores_advanceHour (s : State) : KeepsStores s s.advanceHour := by
  have hat : ∀ (u : State) (i : Fin 48), KeepsStores u (u.exerciseAt i) := fun u i => by
    unfold State.exerciseAt State.exerciseFree State.openExercise
    repeat' split
    all_goals exact KeepsStores.of_eq rfl rfl rfl
  unfold State.advanceHour
  exact (KeepsStores.foldl hat _ s.ageValves).of_eq_left rfl rfl rfl

/-! ### The line and its cycle (R141 to R158, R182 to R186) -/

theorem keepsStores_leaveRunning (s : State) : KeepsStores s s.leaveRunning := by
  refine KeepsStores.ite (fun _ => ?_) fun _ => KeepsStores.refl s
  rw [State.revoke_eq]; exact KeepsStores.of_eq rfl rfl rfl

theorem keepsStores_setBus (s : State) (b : Bus) : KeepsStores s (s.setBus b) := KeepsStores.of_eq rfl rfl rfl

theorem keepsStores_newCycle (s : State) : KeepsStores s s.newCycle := by
  rw [State.newCycle_eq]; exact KeepsStores.of_eq rfl rfl rfl

theorem keepsStores_startLine (s : State) : KeepsStores s s.startLine :=
  (keepsStores_setBus s _).trans (keepsStores_newCycle _)

theorem keepsStores_stopLine (s : State) : KeepsStores s s.stopLine :=
  (keepsStores_leaveRunning s).trans (keepsStores_setBus _ _)

theorem keepsStores_faultLine (s : State) : KeepsStores s s.faultLine :=
  ((keepsStores_leaveRunning s).trans (keepsStores_setBus _ _)).trans (keepsStores_raise _ _)

theorem keepsStores_runLine (s : State) : KeepsStores s s.runLine.1 := by
  unfold State.runLine
  split
  · exact keepsStores_startLine s
  all_goals exact KeepsStores.refl s

theorem keepsStores_stop (s : State) : KeepsStores s s.stop.1 := by
  unfold State.stop
  split
  · exact KeepsStores.refl s
  all_goals exact (keepsStores_stopLine s).trans (keepsStores_evaluateFrom _ s)

theorem keepsStores_takeBoundary (s : State) : KeepsStores s s.takeBoundary := by
  unfold State.takeBoundary State.issue
  dsimp only
  repeat' split
  all_goals exact KeepsStores.of_eq rfl rfl rfl

theorem exec_line_keepsStores (s : State) {c : Instr} (h : c = .overcurrent ∨ c = .lineFaultRecoveryExpiry ∨ c = .cycleBegin ∨
    ∃ k, c = .windowBoundary k) : ∃ t, exec c s = .next t ∧ KeepsStores s t := by
  rcases h with rfl | rfl | rfl | ⟨k, rfl⟩ <;> refine ⟨_, rfl, ?_⟩
  · exact KeepsStores.ite (fun _ => (keepsStores_faultLine s).trans (keepsStores_evaluateFrom _ s)) fun _ => KeepsStores.refl s
  · split
    · exact (keepsStores_reach s _).trans (keepsStores_startLine _)
    · exact KeepsStores.refl s
  · exact KeepsStores.ite (fun _ => (keepsStores_reach s _).trans (keepsStores_newCycle _)) fun _ => KeepsStores.refl s
  · exact KeepsStores.ite (fun _ => ((keepsStores_reach s _).trans (keepsStores_setBus _ _)).trans (keepsStores_takeBoundary _))
      fun _ => KeepsStores.refl s

theorem keepsStores_serveSlot (s : State) (i : Fin 48) : KeepsStores s (s.serveSlot i) := by
  have hbegin : ∀ (p : Part) (x : Option Telegram) (a : Option (Fin 48)) (b : Bool), KeepsStores s (s.beginPart p x a b) :=
    fun _ _ _ _ => keepsStores_setBus s _
  unfold State.serveSlot
  split
  · refine KeepsStores.ite (fun _ => hbegin _ _ _ _) fun _ => KeepsStores.ite (fun _ => ?_) fun _ => ?_
    · exact ((hbegin _ _ _ _).trans (keepsStores_setDevice _ i _)).trans (keepsStores_dropMember _ _ _)
    · split
      · exact KeepsStores.ite (fun _ => hbegin _ _ _ _) fun _ => (hbegin _ _ _ _).trans (keepsStores_setDevice _ i _)
      · exact hbegin _ _ _ _
  · exact hbegin _ _ _ _

theorem keepsStores_serveGroup (s : State) : KeepsStores s s.serveGroup := by
  unfold State.serveGroup
  split <;> exact KeepsStores.of_eq rfl rfl rfl

theorem keepsStores_serveJoin (s : State) : KeepsStores s s.serveJoin := by
  unfold State.serveJoin
  split <;> exact KeepsStores.of_eq rfl rfl rfl

theorem keepsStores_handNext (s : State) (i : Fin 48) (n f : Option NextTarget) : KeepsStores s (s.handNext i n f) :=
  (s.handNext_settles i n f).keepsStores

theorem keepsStores_returnToken (s : State) : KeepsStores s s.returnToken := KeepsStores.of_eq rfl rfl rfl

theorem keepsStores_endDone (s : State) (i : Fin 48) (d : Device) (g : Grant) : KeepsStores s (s.endDone i d g) := by
  unfold State.endDone
  split <;> exact ((keepsStores_setDevice s i _).trans (keepsStores_returnToken _)).trans (keepsStores_handNext _ _ _ _)

theorem keepsStores_endFailed (s : State) (i : Fin 48) (d : Device) (g : Grant) : KeepsStores s (s.endFailed i d g) := by
  refine KeepsStores.ite (fun _ => ?_) fun _ => ?_
  · exact ((keepsStores_setDevice s i _).trans (keepsStores_returnToken _)).trans (keepsStores_handNext _ _ _ _)
  · exact KeepsStores.ite (fun _ => KeepsStores.of_eq rfl rfl rfl) fun _ => KeepsStores.of_eq rfl rfl rfl

theorem keepsStores_takePosition (s : State) (i : Fin 48) (d : Device) (position : Int) (motor : MotorState) :
    KeepsStores s (s.takePosition i d position motor) := by
  have hstored := keepsStores_setDevice s i (some { d with reported := some position, motor })
  unfold State.takePosition
  dsimp only
  split
  · refine KeepsStores.ite (fun _ => hstored.trans ?_) fun _ => hstored
    unfold State.takeOutcome
    split
    · exact keepsStores_setDevice _ i _
    · exact KeepsStores.ite (fun _ => keepsStores_endDone _ i _ _) fun _ => KeepsStores.refl _
    · exact keepsStores_endFailed _ i _ _
  · exact hstored

/-! ### Buttons (R58 to R61) -/

theorem keepsStores_pressAt (s : State) (z : Fin 16) (address : Nat) (b : Button) : KeepsStores s (s.pressAt z address b) := by
  have hshown : ∀ u : State, KeepsStores u ((u.raise .holdByDevice).resolve (roomIndex z)) := fun u =>
    (keepsStores_raise u _).trans (keepsStores_resolve _ _)
  have hpush : ∀ d, KeepsStores s (s.pushStep z address d) := fun d =>
    KeepsStores.ite (fun _ => KeepsStores.refl s) fun hroom =>
      (keepsStores_push s _ _ _ _ _ (by simpa using hroom)).trans (hshown _)
  have hstep : ∀ d, KeepsStores s (s.step5 z address d) := fun d => by
    unfold State.step5
    split
    · exact KeepsStores.ite (fun _ => (keepsStores_putHold s _ _).trans (hshown _)) fun _ => hpush d
    · exact hpush d
  unfold State.pressAt
  split
  · exact hstep 5
  · exact hstep (-5)
  · unfold State.cancelTop
    split
    · next h l hl =>
      refine (keepsStores_setStack s (roomIndex z) ?_).trans (hshown _)
      rw [hl]; exact (List.sublist_cons_self h l).map _
    · exact KeepsStores.refl s
  all_goals exact KeepsStores.refl s

theorem keepsStores_press (s : State) (zone : Option (Fin 16)) (address : Nat) (b : Button) :
    KeepsStores s (s.press zone address b) := by
  refine KeepsStores.ite (fun _ => keepsStores_wake s _) fun _ => ?_
  split
  · exact keepsStores_pressAt s _ address b
  · exact KeepsStores.refl s

theorem keepsStores_takeReading (s : State) (i : Fin 48) (d : Device) (temp : Int) :
    KeepsStores s (s.takeReading i d temp) := by
  have hread := (keepsStores_setDevice s i (some (d.reported3 temp))).trans
    (keepsStores_raiseIf _ (reportState d.state != d.state) .deviceState)
  exact KeepsStores.ite (fun _ => hread.trans (KeepsStores.of_eq rfl rfl rfl)) fun _ => hread

theorem keepsStores_takeReport (s : State) (i : Fin 48) (d : Device) (r : Report) : KeepsStores s (s.takeReport i d r) := by
  have hread := keepsStores_takeReading s i d r.temp
  unfold State.takeReport
  dsimp only
  cases r with
  | valve temp position motor => exact hread.trans (keepsStores_takePosition _ i _ position motor)
  | sensor temp => exact hread
  | unit temp b q =>
    exact hread.trans (KeepsStores.ite (fun _ => KeepsStores.refl _)
      fun _ => (keepsStores_setDevice _ i _).trans (keepsStores_press _ _ _ b))

theorem keepsStores_takeSlot (s : State) (i : Fin 48) (received : Option (List Byte)) :
    KeepsStores s (s.takeSlot i received) := by
  have hmiss : ∀ (d : Device) (bad : Bool), KeepsStores s (s.takeMiss i d bad) := fun d bad =>
    (keepsStores_setDevice s i _).trans (keepsStores_raiseIf _ _ _)
  unfold State.takeSlot
  split
  · refine KeepsStores.ite (fun _ => KeepsStores.refl s) fun _ => ?_
    split
    · exact keepsStores_takeReport s i _ _
    · exact hmiss _ false
    · exact hmiss _ true
  · exact KeepsStores.refl s

theorem exec_slot_keepsStores (s : State) {c : Instr} (h : (∃ i, c = .deviceSlotBegin i) ∨ (∃ i r, c = .deviceSlotEnd i r) ∨
    (∃ i, c = .grantTimeout i) ∨ c = .groupSlot ∨ c = .joinSlot ∨ ∃ r, c = .joinReq r) :
    ∃ t, exec c s = .next t ∧ KeepsStores s t := by
  have hend : ∀ n : Nat, KeepsStores s (s.reach n).endPart := fun n => (keepsStores_reach s n).trans (keepsStores_setBus _ _)
  rcases h with ⟨i, rfl⟩ | ⟨i, r, rfl⟩ | ⟨i, rfl⟩ | rfl | rfl | ⟨r, rfl⟩ <;> refine ⟨_, rfl, ?_⟩
  · exact KeepsStores.ite (fun _ => ((keepsStores_reach s _).trans (keepsStores_serveSlot _ i)).trans
      (keepsStores_evaluateFrom _ s)) fun _ => KeepsStores.refl s
  · exact KeepsStores.ite (fun _ => ((hend _).trans (keepsStores_takeSlot _ i r)).trans (keepsStores_evaluateFrom _ s))
      fun _ => KeepsStores.refl s
  · split
    · split
      · exact ((keepsStores_reach s _).trans (keepsStores_endFailed _ i _ _)).trans (keepsStores_evaluateFrom _ s)
      · exact KeepsStores.refl s
    · exact KeepsStores.refl s
  · exact KeepsStores.ite (fun _ => (keepsStores_reach s _).trans (keepsStores_serveGroup _)) fun _ => KeepsStores.refl s
  · exact KeepsStores.ite (fun _ => (keepsStores_reach s _).trans (keepsStores_serveJoin _)) fun _ => KeepsStores.refl s
  · refine KeepsStores.ite (fun _ => ?_) fun _ => KeepsStores.refl s
    dsimp only
    split
    · exact ((hend _).trans (keepsStores_takeJoin _ _ _)).trans (keepsStores_evaluateFrom _ s)
    · exact hend _

/-! ### Resets and the minute tick (R22, R24, R63, R207) -/

theorem keepsStores_warm (s : State) : KeepsStores s s.warm := by
  have hdropped : KeepsStores s s.warmZones.dropUnretained :=
    (keepsStores_dropUnretained s.warmZones).of_eq_left rfl rfl rfl
  exact hdropped.trans (KeepsStores.of_eq rfl rfl rfl)

theorem keepsStores_tickUnless (taken : Bool) {f : State → State} (h : ∀ s, KeepsStores s (f s)) (s : State) :
    KeepsStores s (s.tickUnless taken f) :=
  KeepsStores.ite (fun _ => KeepsStores.refl s) fun _ => h s

theorem keepsStores_ageJoins (s : State) : KeepsStores s s.ageJoins := KeepsStores.of_eq rfl rfl rfl

theorem keepsStores_minuteTick (s : State) : KeepsStores s s.minuteTick :=
  ((((keepsStores_tickClock s).trans (keepsStores_tickUnless _ keepsStores_tickHolds _)).trans
    (keepsStores_tickUnless _ keepsStores_tickHouse _)).trans (keepsStores_tickUnless _ keepsStores_tickStarts _)).trans
      (keepsStores_tickUnless _ keepsStores_ageJoins _)

theorem keepsStores_expireJoin (s : State) (n : Nat) : KeepsStores s (s.expireJoin n) := by
  unfold State.expireJoin
  split
  · exact KeepsStores.ite (fun _ => (keepsStores_takeEarly s _).trans (keepsStores_ageJoins _)) fun _ => KeepsStores.refl s
  · exact KeepsStores.refl s

theorem keepsStores_stopAtReady (s : State) : KeepsStores s s.stopAtReady :=
  KeepsStores.ite (fun _ => keepsStores_setBoiler s _) fun _ => KeepsStores.refl s

theorem keepsStores_readyLockout (s : State) : KeepsStores s s.readyLockout :=
  KeepsStores.ite (fun _ => KeepsStores.ite (fun _ => KeepsStores.refl s) fun _ => keepsStores_lockOut s)
    fun _ => KeepsStores.ite (fun _ => keepsStores_endLockout s) fun _ => KeepsStores.refl s

theorem keepsStores_readyFault (s : State) : KeepsStores s s.readyFault :=
  KeepsStores.ite (fun _ => KeepsStores.of_eq rfl rfl rfl) fun _ => KeepsStores.refl s

theorem keepsStores_setTime (s : State) (k : TimeBase) : KeepsStores s { s with time := k } := KeepsStores.of_eq rfl rfl rfl

theorem keepsStores_firstReady (s : State) (tflow tout tcyl : Int) : KeepsStores s (s.firstReady tflow tout tcyl) := by
  have hblocks : ∀ u : State, KeepsStores u (u.stopAtReady.readyLockout.takeSample tflow tout tcyl) := fun u =>
    ((keepsStores_stopAtReady u).trans (keepsStores_readyLockout _)).trans (keepsStores_takeSample _ _ _ _)
  exact (hblocks _).of_eq_left rfl rfl rfl

theorem keepsStores_warmReady (s : State) (tflow tout tcyl : Int) : KeepsStores s (s.warmReady tflow tout tcyl) := by
  have hzones : KeepsStores s ((s.setReady.resolveAll).refill s) :=
    ((keepsStores_setTime s _).trans (keepsStores_resolveAll s.setReady)).trans (keepsStores_setBus _ _)
  have hboiler := ((hzones.trans (keepsStores_stopAtReady _)).trans (keepsStores_readyLockout _)).trans
    (keepsStores_readyFault _)
  have hsample : ∀ u : State, KeepsStores u (u.dueSample tflow tout tcyl) := fun u =>
    KeepsStores.ite (fun _ => (keepsStores_setTime u _).trans (keepsStores_takeSample _ _ _ _)) fun _ => KeepsStores.refl u
  have hminute : ∀ u : State, KeepsStores u u.dueMinute := fun u =>
    KeepsStores.ite (fun _ => (keepsStores_setTime u _).trans (keepsStores_minuteTick _)) fun _ => KeepsStores.refl u
  have hcontrol : ∀ u : State, KeepsStores u u.dueControl := fun u =>
    KeepsStores.ite (fun _ => KeepsStores.of_eq rfl rfl rfl) fun _ => KeepsStores.refl u
  exact (((hboiler.trans (keepsStores_evaluate _)).trans (hsample _)).trans (hminute _)).trans (hcontrol _)

theorem exec_tick_keepsStores (s : State) {c : Instr} (h : c = .minuteTick ∨ c = .controlTick ∨ (∃ z, c = .zoneControlTick z) ∨
    c = .hourCountAdvance ∨ ∃ a b d, c = .sensorSample a b d) : ∃ t, exec c s = .next t ∧ KeepsStores s t := by
  rcases h with rfl | rfl | ⟨z, rfl⟩ | rfl | ⟨a, b, d, rfl⟩ <;> refine ⟨_, rfl, ?_⟩
  · split
    · exact KeepsStores.refl s
    · exact KeepsStores.ite (fun _ => (keepsStores_minuteTick (s.advanceMinute _)).of_eq_left rfl rfl rfl)
        fun _ => KeepsStores.of_eq rfl rfl rfl
  · split
    · exact KeepsStores.refl s
    · exact KeepsStores.ite (fun _ => KeepsStores.of_eq rfl rfl rfl) fun _ => KeepsStores.of_eq rfl rfl rfl
  · exact KeepsStores.ite (fun _ => (keepsStores_zoneTick s z).trans (keepsStores_setTime _ _)) fun _ => KeepsStores.refl s
  · exact KeepsStores.ite (fun _ => (keepsStores_advanceHour _).of_eq_left rfl rfl rfl) fun _ => KeepsStores.refl s
  · split
    · exact KeepsStores.refl s
    · exact KeepsStores.ite (fun _ => (keepsStores_takeSample (s.advanceSample _) a b d).of_eq_left rfl rfl rfl)
        fun _ => KeepsStores.of_eq rfl rfl rfl

/-! ### The host link -/

theorem keepsStores_takeFrame (s : State) {f : State → State} (h : ∀ s, KeepsStores s (f s)) :
    KeepsStores s (s.takeFrame f) :=
  KeepsStores.ite (fun _ => keepsStores_setLink s _) fun _ => (keepsStores_setLink s _).trans (h _)

/-- A command keeps what its body keeps. -/
theorem keepsStores_command (s : State) (c : Instr) {body : State → State × Answer} (h : ∀ s, KeepsStores s (body s).1) :
    KeepsStores s (s.command c body) :=
  keepsStores_takeFrame s fun t => ((keepsStores_setLink t _).trans (h _)).trans (keepsStores_setLink _ _)

theorem keepsStores_afterRead (s : State) (kind : RecordKind) (key : Word) : KeepsStores s (s.afterRead kind key) := by
  unfold State.afterRead State.clearBad
  repeat' split
  all_goals exact KeepsStores.of_eq rfl rfl rfl

theorem keepsStores_readRecord (s : State) (kind : RecordKind) (key : Word) (view first zone : Byte) :
    KeepsStores s (s.readRecord kind key view first zone).1 := by
  unfold State.readRecord
  split
  · exact KeepsStores.refl s
  · exact KeepsStores.refl s
  · exact KeepsStores.ite_fst (fun _ => keepsStores_afterRead s kind key) fun _ => KeepsStores.refl s

theorem keepsStores_seek (s : State) (kind : RecordKind) : KeepsStores s (s.seek kind).1 :=
  KeepsStores.ite_fst (fun _ => keepsStores_setLink s _) fun _ => KeepsStores.refl s

theorem keepsStores_nextRecord (s : State) (view first : Byte) : KeepsStores s (s.nextRecord view first).1 := by
  unfold State.nextRecord
  split
  · exact KeepsStores.refl s
  split
  · unfold State.returnNext
    split
    · exact KeepsStores.ite_fst (fun _ => (keepsStores_afterRead s _ _).trans (keepsStores_setLink _ _))
        fun _ => KeepsStores.refl s
    all_goals exact KeepsStores.refl s
  · exact KeepsStores.refl s

/-! ### Every command and event, and every step -/

theorem exec_keepsStores (c : Instr) (s : State) : ∃ t, exec c s = .next t ∧ KeepsStores s t := by
  cases c with
  | powerOnReset =>
    obtain ⟨hprogram, hhold, hhouse⟩ := reset_storesInv
    exact ⟨_, rfl, fun _ => hprogram, fun _ => hhold, fun _ => hhouse⟩
  | readySet a b d => exact ⟨_, rfl, KeepsStores.ite (fun _ => KeepsStores.refl s) fun _ =>
      KeepsStores.ite (fun _ => keepsStores_warmReady s a b d) fun _ => keepsStores_firstReady s a b d⟩
  | frameCrcError bytes =>
    exact ⟨_, rfl, keepsStores_takeFrame s fun t => (keepsStores_setLink t _).trans (keepsStores_raiseIf _ _ _)⟩
  | shortFrame bytes => exact ⟨_, rfl, KeepsStores.ite (fun _ => keepsStores_setLink s _)
      fun _ => keepsStores_takeFrame s fun t => keepsStores_setLink t _⟩
  | frameWhileNotReady => exact ⟨_, rfl, KeepsStores.ite (fun _ => keepsStores_setLink s _) fun _ => KeepsStores.refl s⟩
  | nop => exact ⟨_, rfl, keepsStores_takeFrame s fun t => keepsStores_setLink t _⟩
  | read kind key view first zone =>
    exact ⟨_, rfl, keepsStores_command s _ fun t => keepsStores_readRecord t kind key view first zone⟩
  | writeZone key items => exact ⟨_, rfl, keepsStores_command s _ fun t => keepsStores_writeZone t key items⟩
  | enable z => exact ⟨_, rfl, keepsStores_command s _ fun t => keepsStores_writeRoom t z _⟩
  | disable z => exact ⟨_, rfl, keepsStores_command s _ fun t => keepsStores_writeRoom t z _⟩
  | zwEnable => exact ⟨_, rfl, keepsStores_command s _ fun t => keepsStores_writeCylinder t _⟩
  | zwDisable => exact ⟨_, rfl, keepsStores_command s _ fun t => keepsStores_writeCylinder t _⟩
  | createPoint key items => exact ⟨_, rfl, keepsStores_command s _ fun t => keepsStores_createPoint t key items⟩
  | writePoint key items => exact ⟨_, rfl, keepsStores_command s _ fun t => keepsStores_writePoint t key items⟩
  | retirePoint key zone => exact ⟨_, rfl, keepsStores_command s _ fun t => keepsStores_retirePoint t key zone⟩
  | createHold items => exact ⟨_, rfl, keepsStores_command s _ fun t => keepsStores_createHold t items⟩
  | writeHold key items => exact ⟨_, rfl, keepsStores_command s _ fun t => keepsStores_writeHold t key items⟩
  | retireHold key => exact ⟨_, rfl, keepsStores_command s _ fun t => keepsStores_retireHold t key⟩
  | writeHouse key items => exact ⟨_, rfl, keepsStores_command s _ fun t => keepsStores_writeHouse t key items⟩
  | writeBoiler key items => exact ⟨_, rfl, keepsStores_command s _ fun t => keepsStores_writeBoiler t key items⟩
  | writeDevice key items => exact ⟨_, rfl, keepsStores_command s _ fun t => keepsStores_writeDevice t key items⟩
  | retireDevice key => exact ⟨_, rfl, keepsStores_command s _ fun t => keepsStores_retireDevice t key⟩
  | retireJoin key => exact ⟨_, rfl, keepsStores_command s _ fun t => keepsStores_retireJoin t key⟩
  | writeMotor key items => exact ⟨_, rfl, keepsStores_command s _ fun t => keepsStores_writeMotor t key items⟩
  | seek kind => exact ⟨_, rfl, keepsStores_command s _ fun t => keepsStores_seek t kind⟩
  | next view first => exact ⟨_, rfl, keepsStores_command s _ fun t => keepsStores_nextRecord t view first⟩
  | admitDevice serial zone => exact ⟨_, rfl, keepsStores_command s _ fun t => keepsStores_admitDevice t serial zone⟩
  | setClock time => exact ⟨_, rfl, keepsStores_command s _ fun t => keepsStores_setClock t time⟩
  | setMode mode countdown => exact ⟨_, rfl, keepsStores_command s _ fun t => keepsStores_setMode t mode countdown⟩
  | run => exact ⟨_, rfl, keepsStores_command s _ fun t => keepsStores_runLine t⟩
  | stop => exact ⟨_, rfl, keepsStores_command s _ fun t => keepsStores_stop t⟩
  | boilerReset => exact ⟨_, rfl, keepsStores_command s _ fun t => keepsStores_boilerReset t⟩
  | readNotices => exact ⟨_, rfl, keepsStores_command s _ fun t => keepsStores_setLink t _⟩
  | writeNoticeEnables mask => exact ⟨_, rfl, keepsStores_command s _ fun t => keepsStores_setLink t _⟩
  | warmReset => exact ⟨_, rfl, keepsStores_command s _ fun t => keepsStores_warm t⟩
  | minuteTick => exact exec_tick_keepsStores s (by simp)
  | holdCountdownExpiry handle =>
    exact ⟨_, rfl, KeepsStores.ite (fun _ => keepsStores_expireHold s handle) fun _ => KeepsStores.refl s⟩
  | returnCountdownExpiry => exact ⟨_, rfl, KeepsStores.ite (fun _ => keepsStores_expireReturn s) fun _ => KeepsStores.refl s⟩
  | hourCountAdvance => exact exec_tick_keepsStores s (by simp)
  | startListEntryExpiry => exact ⟨_, rfl, KeepsStores.ite (fun _ => keepsStores_expireStart s) fun _ => KeepsStores.refl s⟩
  | joinEntryExpiry number =>
    exact ⟨_, rfl, KeepsStores.ite (fun _ => keepsStores_expireJoin s number) fun _ => KeepsStores.refl s⟩
  | controlTick => exact exec_tick_keepsStores s (by simp)
  | zoneControlTick z => exact exec_tick_keepsStores s (by simp)
  | sensorSample a b d => exact exec_tick_keepsStores s (by simp)
  | outdoorHoldExpiry => exact exec_boilerTimer_keepsStores s (by simp)
  | sensorRecoveryExpiry => exact exec_boilerTimer_keepsStores s (by simp)
  | tboffExpiry => exact exec_boilerTimer_keepsStores s (by simp)
  | tbonExpiry => exact exec_boilerTimer_keepsStores s (by simp)
  | waitFlowExpiry => exact exec_boilerTimer_keepsStores s (by simp)
  | lockoutAssert => exact exec_lockout_keepsStores s (by simp)
  | lockoutRelease => exact exec_lockout_keepsStores s (by simp)
  | lockoutResetPulseEnd => exact exec_lockout_keepsStores s (by simp)
  | pumpOverrunExpiry => exact exec_boilerTimer_keepsStores s (by simp)
  | tprioExpiry => exact exec_cylinderTimer_keepsStores s (by simp)
  | tgapExpiry => exact exec_cylinderTimer_keepsStores s (by simp)
  | cylinderRecoveryExpiry => exact exec_cylinderTimer_keepsStores s (by simp)
  | wakeInputEdge => exact ⟨_, rfl, KeepsStores.ite (fun _ => (keepsStores_wake s _).trans (keepsStores_evaluateFrom _ s))
      fun _ => KeepsStores.refl s⟩
  | cycleBegin => exact exec_line_keepsStores s (by simp)
  | windowBoundary k => exact exec_line_keepsStores s (by simp)
  | deviceSlotBegin i => exact exec_slot_keepsStores s (by simp)
  | deviceSlotEnd i r => exact exec_slot_keepsStores s (by simp)
  | grantTimeout i => exact exec_slot_keepsStores s (by simp)
  | groupSlot => exact exec_slot_keepsStores s (by simp)
  | joinSlot => exact exec_slot_keepsStores s (by simp)
  | joinReq r => exact exec_slot_keepsStores s (by simp)
  | overcurrent => exact exec_line_keepsStores s (by simp)
  | lineFaultRecoveryExpiry => exact exec_line_keepsStores s (by simp)
  | frameBegin => exact ⟨_, rfl, keepsStores_setLink s _⟩
  | resetnRelease => exact ⟨_, rfl, KeepsStores.ite (fun _ => KeepsStores.refl s) fun _ => KeepsStores.of_eq rfl rfl rfl⟩
  | badCommand command kind => exact ⟨_, rfl, keepsStores_command s _ fun t => KeepsStores.refl t⟩

theorem step_keepsStores {s t : State} (h : step s = .next t) : KeepsStores s t := by
  unfold step at h
  split at h
  · cases h; exact keepsStores_reach s _
  · next c rest _ =>
    obtain ⟨u, hu, hkeeps⟩ := exec_keepsStores c { s with pending := rest }
    cases hu.symm.trans h
    exact hkeeps.of_eq_left rfl rfl rfl

/-- Settles O55, from what each operation keeps of the three stores: lists and stacks change by one insertion, removal or
filter at a time, and a push takes a free handle (`State.HoldInv.newHandle_spec`). -/
theorem stepKeepsStores : Obligations.StepKeepsStores := fun _ _ hprogram hhold hhouse h =>
  have hkeeps := step_keepsStores h
  ⟨hkeeps.program hprogram, hkeeps.hold hhold, hkeeps.house hhouse⟩

end Sys2Proof.Machine

/-! The point in force, the commands on points, and the resolution of all zones (R28 to R31, R33, R34, R37 to R42). -/

namespace Sys2Proof.Machine

/-! ### The point in force (R34) -/

/-- The last point of a list that rises in time is the latest. -/
theorem time_le_of_getLast? {l : List Point} {p : Point} (hl : l.Pairwise (fun a b => a.time < b.time))
    (hp : l.getLast? = some p) : ∀ q ∈ l, q.time ≤ p.time := by
  obtain ⟨before, rfl⟩ := List.getLast?_eq_some_iff.1 hp
  intro q hq
  rcases List.mem_append.1 hq with hq | hq
  · exact ((List.pairwise_append.1 hl).2.2 q hq p List.mem_cons_self).le
  · rw [List.mem_singleton.1 hq]

/-- With points at or before the time, the point in force is the latest of these. -/
theorem inForce_of_reached {l : List Point} {time : Nat} (hl : l.Pairwise (fun a b => a.time < b.time))
    (h : ∃ q ∈ l, q.time ≤ time) : ∃ p ∈ l, inForce l (some time) = some p ∧ p.time ≤ time ∧
      ∀ q ∈ l, q.time ≤ time → q.time ≤ p.time := by
  obtain ⟨q, hq, hle⟩ := h
  have hne : l.filter (fun p => decide (p.time ≤ time)) ≠ [] :=
    List.ne_nil_of_mem (List.mem_filter.2 ⟨hq, decide_eq_true hle⟩)
  obtain ⟨p, hp⟩ : ∃ p, (l.filter (fun p => decide (p.time ≤ time))).getLast? = some p :=
    ⟨_, List.getLast?_eq_some_getLast hne⟩
  obtain ⟨hmem, hptime⟩ := List.mem_filter.1 (List.mem_of_getLast? hp)
  refine ⟨p, hmem, by simp only [inForce, hp], of_decide_eq_true hptime, fun x hx hxt => ?_⟩
  exact time_le_of_getLast? (hl.filter _) hp x (List.mem_filter.2 ⟨hx, decide_eq_true hxt⟩)

/-- With every point still to come, the point in force is the last of the list. -/
theorem inForce_of_ahead {l : List Point} {time : Nat} (h : ∀ q ∈ l, time < q.time) :
    inForce l (some time) = l.getLast? := by
  have hnone : l.filter (fun p => decide (p.time ≤ time)) = [] :=
    List.filter_eq_nil_iff.2 fun q hq => by simpa using h q hq
  simp only [inForce, hnone, List.getLast?_nil]

/-- Settles O15, by cases on whether a point stands at or before the time of week. -/
theorem pointInForce : Obligations.PointInForce := by
  intro s z hl
  refine ⟨fun hunset => by rw [State.pointInForce, hunset]; rfl, fun hempty => ?_, fun time htime hne => ?_⟩
  · rw [State.pointInForce, hempty]
    cases s.clock.timeOfWeek <;> rfl
  · rw [State.pointInForce, htime]
    by_cases hreached : ∃ q ∈ s.pointsOf z, q.time ≤ time
    · obtain ⟨p, hp, hforce, hle, hlatest⟩ := inForce_of_reached hl hreached
      obtain ⟨q, hq, hqt⟩ := hreached
      exact ⟨p, hp, hforce, fun _ => ⟨hle, hlatest⟩, fun hahead => absurd hqt (hahead q hq).not_ge⟩
    · have hahead : ∀ q ∈ s.pointsOf z, time < q.time := fun q hq => by
        by_contra hge
        exact hreached ⟨q, hq, by omega⟩
      have hlast := List.getLast?_eq_some_getLast hne
      refine ⟨_, List.getLast_mem hne, (inForce_of_ahead hahead).trans hlast, fun h => absurd h hreached, fun _ => ?_⟩
      exact time_le_of_getLast? hl hlast

/-! ### Levels and places (R28, R29) -/

/-- A level written, as a point of the zone stores it. -/
theorem storedLevel_eq (z : Fin 17) (v : Int) : storedLevel z v =
    if z = zw then (if v < 300 then .off else .deg (min v 650)) else .deg (clamp v 50 300) := by
  unfold storedLevel cylinderLevel roomLevel
  split
  · split
    · rfl
    · next h => rw [clamp_eq_max_min (by omega)]; congr 1; omega
  · rfl

/-- The level stored differs from the level written. -/
theorem levelClamped_iff (z : Fin 17) (v : Int) : levelClamped z v = true ↔
    (z = zw ∧ ((v < 300 ∧ v ≠ 0 ∧ v ≠ -32768) ∨ 650 < v)) ∨ (z ≠ zw ∧ (v < 50 ∨ 300 < v)) := by
  unfold levelClamped
  split
  · next h => simp [cylinderLevelClamped_iff, h]
  · next h =>
    rw [decide_eq_true_eq, Ne, clamp_eq_self]
    simp only [h, false_and, false_or, ne_eq, not_false_eq_true, true_and]
    omega

theorem okOrClamped_levelClamped (z : Fin 17) (v : Int) : okOrClamped (levelClamped z v) =
    if (z = zw ∧ ((v < 300 ∧ v ≠ 0 ∧ v ≠ -32768) ∨ 650 < v)) ∨ (z ≠ zw ∧ (v < 50 ∨ 300 < v)) then .clamped
    else .ok := by
  rw [okOrClamped]
  exact if_congr (levelClamped_iff z v) rfl rfl

/-- A point takes its place behind those at or before its time. -/
theorem insertPoint_eq_takeWhile (p : Point) (l : List Point) : insertPoint p l =
    l.takeWhile (fun q => decide (q.time ≤ p.time)) ++ p :: l.dropWhile (fun q => decide (q.time ≤ p.time)) := by
  induction l with
  | nil => rfl
  | cons q l ih =>
    unfold insertPoint
    by_cases h : p.time < q.time
    · simp [h, Nat.not_le.2 h]
    · simp [h, Nat.le_of_not_lt h, ih]

/-! ### CREATE of a point (R29, R33) -/

theorem zoneItem_of_itemNat {items : List Item} {code n : Nat} (h : itemNat items code = some n) :
    zoneItem items code = zoneKey n := by
  rw [zoneItem, h]; rfl

theorem carries_of_itemNat {items : List Item} {code n : Nat} (h : itemNat items code = some n) :
    carries items code = true := by
  unfold itemNat at h
  unfold carries
  cases hw : itemWord items code with
  | none => rw [hw] at h; cases h
  | some w => rfl

/-- The zone a number names, and no other. -/
theorem zoneKey_eq_some {n : Nat} {z : Fin 17} (h : zoneKey n = some z) : n = z.val := by
  unfold zoneKey at h
  split at h <;> cases h
  rfl

/-- CREATE with its zone and level in place is checked in order: time, duplicate, room. -/
theorem State.createPoint_eq (s : State) {key : Word} {items : List Item} {z : Fin 17} {v : Int}
    (hcodes : codesOk [1, 2, 3] items = true) (hz : itemNat items 1 = some z.val) (hv : item items 3 = some v) :
    s.createPoint key items =
      if 10079 < key.toNat then refuse .badValue s
      else if (pointAt (s.pointsOf z) key.toNat).isSome then refuse .duplicate s
      else if s.pointRoom z then
        (s.editPoints z (insertPoint { time := key.toNat, level := storedLevel z v } (s.pointsOf z)),
          .record (okOrClamped (levelClamped z v)) key (pointView z { time := key.toNat, level := storedLevel z v }))
      else refuse .full s := by
  have hcheck : (codesOk pointCodes items && carries items 1) = true :=
    Bool.and_eq_true_iff.2 ⟨hcodes, carries_of_itemNat hz⟩
  simp only [State.createPoint, hcheck, ↓reduceIte, zoneItem_of_itemNat hz, zoneKey_eq rfl, hv]

/-- A zone above 16 is BAD_VALUE before anything else is looked at. -/
theorem State.createPoint_zone (s : State) {key : Word} {items : List Item} {n : Nat} (hz : itemNat items 1 = some n)
    (hn : 16 < n) : s.createPoint key items = refuse .badValue s := by
  unfold State.createPoint
  rw [zoneItem_of_itemNat hz, zoneKey_eq_none hn]
  split <;> rfl

/-- An edit of a list resolves its zone, and its evaluations settle (R33). -/
theorem State.settlesTo_editPoints (s : State) (z : Fin 17) (l : List Point) :
    ((s.setPoints z l).resolve z).SettlesTo (s.editPoints z l) := State.settlesTo_evaluateFrom _ s

/-- Settles O16: the checks in the model's order, then the list, the answer and the resolution of the edit. -/
theorem createPoint : Obligations.CreatePoint := by
  refine ⟨fun key items z v s ht hcodes hz hv hkey hnew hlen hpool => ?_, fun key items n v s ht hcodes hz hv => ⟨?_, ?_⟩⟩
  · intro i p r
    have hnodup : (pointAt ((s.received i).pointsOf z) key.toNat).isSome = false :=
      Bool.eq_false_iff.2 fun h => by
        obtain ⟨q, hq, hqt⟩ := pointAt_isSome_iff.1 h
        exact hnew q hq hqt
    have hroom : (s.received i).pointRoom z = true := Bool.and_eq_true_iff.2 ⟨decide_eq_true hlen, decide_eq_true hpool⟩
    have hp : ({ time := key.toNat, level := storedLevel z v } : Point) = p := by rw [storedLevel_eq]
    have hbody := (s.received i).createPoint_eq (key := key) hcodes hz hv
    rw [if_neg (by omega), if_neg (by simp [hnodup]), if_pos hroom, hp, okOrClamped_levelClamped] at hbody
    refine ⟨(s.received i).editPoints z (insertPoint p (s.pointsOf z)), ?_, ?_⟩
    · have hexec : exec i s = .next (s.command i (fun t => t.createPoint key items)) := rfl
      have hview : pointView z p = [nat z.val, key, level p.level] := by
        rw [pointView, show nat p.time = key from nat_of_toNat rfl]
      rw [hexec, State.command_of_takes ht, hbody, hview]
      rfl
    · rw [← insertPoint_eq_takeWhile]
      exact State.settlesTo_editPoints _ z _
  · intro hbad
    refine exec_refused ht rfl ?_
    by_cases hn : 16 < n
    · exact State.createPoint_zone _ hz hn
    · have hz' : itemNat items 1 = some (⟨n, by omega⟩ : Fin 17).val := hz
      rw [State.createPoint_eq _ hcodes hz' hv, if_pos (hbad.resolve_left hn)]
  · rintro z rfl hkey
    have hbody := (s.received (.createPoint key items)).createPoint_eq (key := key) hcodes hz hv
    rw [if_neg (by omega)] at hbody
    refine ⟨fun hdup => exec_refused ht rfl ?_, fun hnew hfull => exec_refused ht rfl ?_⟩
    · have hsome : (pointAt ((s.received (.createPoint key items)).pointsOf z) key.toNat).isSome = true :=
        pointAt_isSome_iff.2 hdup
      rw [hbody, if_pos hsome]
    · have hnodup : ¬ (pointAt ((s.received (.createPoint key items)).pointsOf z) key.toNat).isSome = true := fun h => by
        obtain ⟨q, hq, hqt⟩ := pointAt_isSome_iff.1 h
        exact hnew q hq hqt
      have hroom : ¬ (s.received (.createPoint key items)).pointRoom z = true := fun h => by
        obtain ⟨hlen, hpool⟩ := Bool.and_eq_true_iff.1 h
        have hlen' : (s.pointsOf z).length < 32 := of_decide_eq_true hlen
        have hpool' : s.pointCount < 256 := of_decide_eq_true hpool
        omega
      rw [hbody, if_neg hnodup, if_neg hroom]

/-! ### WRITE and RETIRE of a point (R30, R31) -/

/-- A list that rises in time holds one point at a time. -/
theorem eq_of_time_eq {l : List Point} {p q : Point} (hl : l.Pairwise (fun a b => a.time < b.time)) (hp : p ∈ l)
    (hq : q ∈ l) (h : p.time = q.time) : p = q :=
  Option.some.inj ((pointAt_eq hl hp h).symm.trans (pointAt_eq hl hq rfl))

/-- WRITE of a point that its key names: the items and the new time are checked, then the time's other holder. -/
theorem State.writePoint_eq (s : State) {key : Word} {items : List Item} {z : Fin 17} {p : Point}
    (hcodes : codesOk [1, 2, 3] items = true) (hz : itemNat items 1 = some z.val)
    (hp : pointAt (s.pointsOf z) key.toNat = some p) : s.writePoint key items =
      if newTimeOk items then
        if (movedPoint z p items).time ≠ p.time ∧ (pointAt (s.pointsOf z) (movedPoint z p items).time).isSome then
          refuse .duplicate s
        else (s.editPoints z (movePoint (s.pointsOf z) p (movedPoint z p items)),
          .record (okOrClamped ((item items 3).any (levelClamped z))) (nat (movedPoint z p items).time)
            (pointView z (movedPoint z p items)))
      else refuse .badValue s := by
  have hcodes' : codesOk pointCodes items = true := hcodes
  simp only [State.writePoint, zoneItem_of_itemNat hz, zoneKey_eq rfl, Option.bind_some, hp, Option.map_some, hcodes',
    Bool.true_and]

theorem newTimeOk_iff (items : List Item) (p : Point) : newTimeOk items = true ↔
    carries items 2 = true → 0 ≤ (item items 2).getD p.time ∧ (item items 2).getD p.time ≤ 10079 := by
  unfold newTimeOk carries item
  cases itemWord items 2 with
  | none => simp
  | some w => simp

/-- The point as an accepted WRITE leaves it, in the words of R30. -/
theorem movedPoint_eq (z : Fin 17) (p : Point) (items : List Item) : movedPoint z p items = {
    time := ((item items 2).getD p.time).toNat
    level := (item items 3).elim p.level (fun v =>
      if z = zw then (if v < 300 then .off else .deg (min v 650)) else .deg (clamp v 50 300)) } := by
  have hlevel : storedLevel z = fun v =>
      if z = zw then (if v < 300 then .off else .deg (min v 650)) else .deg (clamp v 50 300) := funext (storedLevel_eq z)
  rw [movedPoint, hlevel]
  cases item items 2 <;> rfl

/-- A key that names no point on the list it names. -/
theorem bind_pointAt_eq_none {s : State} {o : Option (Fin 17)} {n : Nat}
    (h : ∀ z, o = some z → ∀ p ∈ s.pointsOf z, p.time ≠ n) :
    o.bind (fun z => (pointAt (s.pointsOf z) n).map (fun p => (z, p))) = none := by
  refine Option.bind_eq_none_iff.2 fun z hz => ?_
  have hnone : pointAt (s.pointsOf z) n = none := List.find?_eq_none.2 fun p hp => by simpa using h z hz p hp
  rw [hnone]; rfl

theorem writePoint_named {key : Word} {items : List Item} {z : Fin 17} {p : Point} {s : State} (ht : s.takes)
    (hcodes : codesOk [1, 2, 3] items = true) (hz : itemNat items 1 = some z.val)
    (hl : (s.pointsOf z).Pairwise (fun a b => a.time < b.time)) (hp : p ∈ s.pointsOf z) (hkey : p.time = key.toNat) :
    (newTimeOk items = false → exec (.writePoint key items) s =
      .next ((s.received (.writePoint key items)).bare (.writePoint key items) .badValue)) ∧
    (newTimeOk items = true →
      ((∃ q ∈ s.pointsOf z, q ≠ p ∧ q.time = (movedPoint z p items).time) → exec (.writePoint key items) s =
        .next ((s.received (.writePoint key items)).bare (.writePoint key items) .duplicate)) ∧
      ((∀ q ∈ s.pointsOf z, q ≠ p → q.time ≠ (movedPoint z p items).time) → exec (.writePoint key items) s =
        .next (((s.received (.writePoint key items)).editPoints z
          (movePoint (s.pointsOf z) p (movedPoint z p items))).holding (.writePoint key items)
            (okOrClamped ((item items 3).any (levelClamped z)))
            (keyedPayload (nat (movedPoint z p items).time) (pointView z (movedPoint z p items)) 1)))) := by
  have hbody := (s.received (.writePoint key items)).writePoint_eq hcodes hz (pointAt_eq hl hp hkey)
  refine ⟨fun hno => exec_refused ht rfl ?_, fun hok => ⟨?_, fun hfree => ?_⟩⟩
  · rw [hbody, if_neg (by simp [hno])]
  · rintro ⟨q, hq, hne, hqt⟩
    refine exec_refused ht rfl ?_
    have hmoved : (movedPoint z p items).time ≠ p.time := fun h => hne (eq_of_time_eq hl hq hp (hqt.trans h))
    rw [hbody, if_pos hok, if_pos ⟨hmoved, pointAt_isSome_iff.2 ⟨q, hq, hqt⟩⟩]
  · have hnodup : ¬ ((movedPoint z p items).time ≠ p.time ∧
        (pointAt ((s.received (.writePoint key items)).pointsOf z) (movedPoint z p items).time).isSome = true) := by
      rintro ⟨hmoved, hsome⟩
      obtain ⟨q, hq, hqt⟩ := pointAt_isSome_iff.1 hsome
      exact hfree q hq (fun h => hmoved (by rw [← hqt, h])) hqt
    have hexec : exec (.writePoint key items) s =
        .next (s.command (.writePoint key items) (fun t => t.writePoint key items)) := rfl
    rw [hexec, State.command_of_takes ht, hbody, if_pos hok, if_neg hnodup]
    rfl

/-- Settles O17: the point the key names, then the checks of the new time, then the list the model writes. -/
theorem writeAndRetirePoint : Obligations.WriteAndRetirePoint := by
  refine ⟨?_, ?_, ?_⟩
  · intro key items z p s ht hcodes hz hl hp hkey i time
    obtain ⟨hbad, hchecked⟩ := writePoint_named ht hcodes hz hl hp hkey
    refine ⟨fun hout hcarries => hbad (Bool.eq_false_iff.2 fun h => ?_), fun h0 hmax => ?_⟩
    · have := (newTimeOk_iff items p).1 h hcarries
      omega
    · obtain ⟨hdup, hstored⟩ := hchecked ((newTimeOk_iff items p).2 fun _ => ⟨h0, hmax⟩)
      have hmoved : (movedPoint z p items).time = time.toNat := by rw [movedPoint_eq]
      have hsame : ∀ q : Point, q.time = (movedPoint z p items).time ↔ (q.time : Int) = time := fun q => by omega
      refine ⟨fun ⟨q, hq, hne, hqt⟩ => hdup ⟨q, hq, hne, (hsame q).2 hqt⟩, fun hfree => ?_⟩
      refine ⟨(s.received i).editPoints z (movePoint (s.pointsOf z) p (movedPoint z p items)), ?_⟩
      intro q clamped
      have hq : movedPoint z p items = q := movedPoint_eq z p items
      rw [hq] at hstored hsame ⊢
      have hclamped : (item items 3).any (levelClamped z) = true ↔ clamped := by
        simp only [Option.any_eq_true, levelClamped_iff]; rfl
      refine ⟨⟨_, fun h => ?_, fun h => ?_, hstored fun x hx hne hxt => hfree x hx hne ((hsame x).1 hxt)⟩, ?_⟩
      · exact if_pos (hclamped.2 h)
      · exact if_neg fun hc => h (hclamped.1 hc)
      · intro rest
        rw [← insertPoint_eq_takeWhile]
        exact State.settlesTo_editPoints _ z _
  · intro key items s ht hnone
    have hbind := bind_pointAt_eq_none (s := s.received (.writePoint key items)) (o := zoneItem items 1)
      (n := key.toNat) fun z hz => by
        obtain ⟨n, hn, hzn⟩ := Option.bind_eq_some_iff.1 hz
        exact hnone z (by rw [hn, zoneKey_eq_some hzn])
    refine exec_refused ht rfl ?_
    simp only [State.writePoint, hbind]
  · intro key zone s ht i
    refine ⟨fun hnone => exec_refused ht rfl ?_, fun z p hz hp hkey => ?_⟩
    · have hbind := bind_pointAt_eq_none (s := s.received i) (o := zoneKey zone.toNat) (n := key.toNat)
        fun z hz => hnone z (zoneKey_eq_some hz)
      simp only [State.retirePoint, hbind]
    · have hsome : (pointAt ((s.received i).pointsOf z) key.toNat).isSome = true := pointAt_isSome_iff.2 ⟨p, hp, hkey⟩
      obtain ⟨p', hp'⟩ := Option.isSome_iff_exists.1 hsome
      have hbody : (s.received i).retirePoint key zone =
          ((s.received i).editPoints z (withoutPoint (s.pointsOf z) key.toNat), .plain .ok) := by
        simp only [State.retirePoint, zoneKey_eq hz, Option.bind_some, hp', Option.map_some, (pointAt_some hp').2]
        rfl
      have hexec : exec i s = .next (s.command i (fun t => t.retirePoint key zone)) := rfl
      refine ⟨(s.received i).editPoints z (withoutPoint (s.pointsOf z) key.toNat), ?_, State.settlesTo_editPoints _ z _⟩
      rw [hexec, State.command_of_takes ht, hbody]
      rfl

end Sys2Proof.Machine

/-! The resolution of all zones: what it stores and what it queues (R37 to R39, R42). -/

namespace Sys2Proof.Machine

/-- Resolving the room zone changes its setpoint, and the queue does not hold it yet. -/
def State.joinsQueue (s : State) (z : Fin 16) : Bool :=
  decide (s.roomSetpoint z ≠ (s.zone z).setpoint) && decide (z ∉ s.bus.announce)

/-- Resolving a room zone stores its record and queues it if it has to join (R38, R42). -/
theorem State.resolveRoom_eq (s : State) (z : Fin 16) : s.resolveRoom z = { s with
    zones := (s.resolveRoom z).zones
    bus := { s.bus with announce := s.bus.announce ++ [z].filter s.joinsQueue } } := by
  unfold State.resolveRoom
  dsimp only
  split
  · next hsame => rw [List.filter_cons_of_neg (by simp [State.joinsQueue, hsame])]; simp [State.setZone]
  · next hchanged =>
    unfold State.announce
    split
    · next hmem =>
      have hqueued : z ∈ s.bus.announce := hmem
      rw [List.filter_cons_of_neg (by simp [State.joinsQueue, hqueued])]; simp [State.setZone]
    · next hnew =>
      have hout : z ∉ s.bus.announce := hnew
      rw [List.filter_cons_of_pos (by simp [State.joinsQueue, hchanged, hout])]; rfl

/-- Resolving one zone leaves another's question as it stands. -/
theorem State.resolveRoom_joinsQueue (s : State) {y z : Fin 16} (h : y ≠ z) :
    (s.resolveRoom z).joinsQueue y = s.joinsQueue y := by
  have hzone : (s.resolveRoom z).zone y = s.zone y := by rw [State.resolveRoom_zone, if_neg h]
  have hmem : y ∈ (s.resolveRoom z).bus.announce ↔ y ∈ s.bus.announce := by
    rw [State.resolveRoom_eq]; simp [h]
  have hframe := s.resolvesTo_resolveRoom z
  have hset := State.roomSetpoint_congr (congrArg Zone.config hzone) hframe.house hframe.holds hframe.points hframe.clock
  simp only [State.joinsQueue, hset, hzone, hmem]

/-- The room zones of a list are queued in its order. -/
theorem State.foldl_resolveRoom (l : List (Fin 16)) (hl : l.Nodup) (s : State) : l.foldl State.resolveRoom s = { s with
    zones := (l.foldl State.resolveRoom s).zones
    bus := { s.bus with announce := s.bus.announce ++ l.filter s.joinsQueue } } := by
  induction l generalizing s with
  | nil => simp
  | cons z l ih =>
    obtain ⟨hz, hl⟩ := List.nodup_cons.1 hl
    have hrest : l.filter (s.resolveRoom z).joinsQueue = l.filter s.joinsQueue :=
      List.filter_congr fun y hy => s.resolveRoom_joinsQueue (fun h => hz (h ▸ hy))
    have hqueue : (s.resolveRoom z).bus.announce ++ l.filter (s.resolveRoom z).joinsQueue =
        s.bus.announce ++ (z :: l).filter s.joinsQueue := by
      rw [hrest, State.resolveRoom_eq, List.append_assoc, ← List.filter_append]; rfl
    rw [List.foldl_cons, ih hl (s.resolveRoom z), hqueue, State.resolveRoom_eq]

/-- Resolving all zones changes room records, the announcement queue and ZW's target and source. -/
theorem State.resolveAll_eq (s : State) : s.resolveAll = { s with
    zones := s.resolveAll.zones
    cylinder := { s.cylinder with target := s.resolveAll.cylinder.target, source := s.resolveAll.cylinder.source }
    bus := { s.bus with announce := s.bus.announce ++ rooms.filter s.joinsQueue } } := by
  have hfold := State.foldl_resolveRoom rooms (List.nodup_finRange 16) s
  unfold State.resolveAll State.resolveRooms
  generalize rooms = l at hfold ⊢
  rw [hfold]
  rfl

theorem State.resolveAll_setpoint (s : State) (z : Fin 16) : (s.resolveAll.zone z).setpoint = s.roomSetpoint z := by
  rw [s.resolveAll_zone]

theorem State.resolveAll_source (s : State) (z : Fin 16) : (s.resolveAll.zone z).source = (s.roomCandidate z).2 := by
  rw [s.resolveAll_zone]

/-! ### The candidate by mode, stack and program (R37, R38) -/

theorem State.roomCandidate_vacant {s : State} (z : Fin 16) (h : s.house.mode = .vacant) : s.roomCandidate z =
    (if (s.zone z).config.vacantKeep then s.house.vacantSetpoint else (s.zone z).config.frostFloor, .vacant) := by
  rw [State.roomCandidate, h]

theorem State.roomCandidate_held {s : State} {z : Fin 16} {h : Hold} {l : List Hold} (hmode : s.house.mode ≠ .vacant)
    (hl : s.stackOf (roomIndex z) = h :: l) : s.roomCandidate z = (h.setpoint, .hold) := by
  unfold State.roomCandidate
  rw [hl]
  split
  · next hv => exact absurd hv hmode
  all_goals rfl

theorem State.roomCandidate_scheduled {s : State} {z : Fin 16} (hmode : s.house.mode ≠ .vacant)
    (hl : s.stackOf (roomIndex z) = []) : s.roomCandidate z =
      if s.house.mode = .setback then ((s.roomScheduled z).1 - s.house.setbackOffset, .setback)
      else s.roomScheduled z := by
  unfold State.roomCandidate
  rw [hl]
  split
  · next hv => exact absurd hv hmode
  · next ho => rw [if_neg (by rw [ho]; decide)]; rfl
  · next hs => rw [if_pos hs]; rfl

theorem State.roomScheduled_source (s : State) (z : Fin 16) : (s.roomScheduled z).2 =
    if (s.pointInForce (roomIndex z)).isSome then .program else .default := by
  unfold State.roomScheduled
  cases s.pointInForce (roomIndex z) with
  | none => rfl
  | some p => obtain ⟨t, _ | v⟩ := p <;> rfl

theorem State.roomScheduled_level {s : State} {z : Fin 16} {v : Int}
    (hpoint : ∀ p : Point, s.pointInForce (roomIndex z) = some p → p.level = .deg v)
    (hdefault : s.pointInForce (roomIndex z) = none → v = (s.zone z).config.defaultSetpoint) :
    (s.roomScheduled z).1 = v := by
  unfold State.roomScheduled
  cases hp : s.pointInForce (roomIndex z) with
  | none => exact (hdefault hp).symm
  | some p =>
    obtain ⟨t, l⟩ := p
    obtain rfl : l = .deg v := hpoint _ hp
    rfl

/-! ### ZW's target (R39) -/

theorem State.cylinderResolved_vacant {s : State} (h : s.house.mode = .vacant) :
    s.cylinderResolved = (.off, .vacant) := by
  rw [State.cylinderResolved, h]

theorem State.cylinderResolved_held {s : State} {h : Hold} {l : List Hold} (hmode : s.house.mode ≠ .vacant)
    (hl : s.stackOf zw = h :: l) : s.cylinderResolved = (.deg h.setpoint, .hold) := by
  unfold State.cylinderResolved
  rw [hl]
  split
  · next hv => exact absurd hv hmode
  all_goals rfl

theorem State.cylinderResolved_scheduled {s : State} {p : Point} (hmode : s.house.mode ≠ .vacant)
    (hl : s.stackOf zw = []) (hp : s.pointInForce zw = some p) : s.cylinderResolved = (p.level, .program) := by
  unfold State.cylinderResolved
  rw [hl, hp]
  split
  · next hv => exact absurd hv hmode
  all_goals rfl

theorem State.cylinderResolved_default {s : State} (hmode : s.house.mode ≠ .vacant)
    (hl : s.stackOf zw = []) (hp : s.pointInForce zw = none) :
    s.cylinderResolved = (s.cylinder.defaultTarget, .default) := by
  unfold State.cylinderResolved
  rw [hl, hp]
  split
  · next hv => exact absurd hv hmode
  all_goals rfl

/-- Settles O18: the frame is that of the fold over the rooms, the values are the candidates by mode and stack. -/
theorem resolutionOfAllZones : Obligations.ResolutionOfAllZones := by
  intro s
  have hset : ∀ z : Fin 16, s.resolveAll.zones[z].setpoint = s.roomSetpoint z := s.resolveAll_setpoint
  have hsource : ∀ z : Fin 16, s.resolveAll.zones[z].source = (s.roomCandidate z).2 := s.resolveAll_source
  have htarget : s.resolveAll.cylinder.target = s.cylinderResolved.1 := congrArg Cylinder.target s.resolveAll_cylinder
  have horigin : s.resolveAll.cylinder.source = s.cylinderResolved.2 := congrArg Cylinder.source s.resolveAll_cylinder
  refine ⟨s.resolveAll.zones, ?_, fun z => ?_, fun z => ?_, ?_, ?_, ?_⟩
  · have hframe := s.resolveAll_eq
    unfold State.joinsQueue at hframe
    simp only [hset]
    exact hframe
  · rw [hset, hsource]
    exact s.resolveAll_zone z
  · rw [hset, hsource, State.roomSetpoint]
    refine ⟨fun hv => ?_, fun h l hl hmode => ?_, fun hl hmode => ?_⟩
    · rw [State.roomCandidate_vacant z hv]; exact ⟨rfl, rfl⟩
    · rw [State.roomCandidate_held hmode hl]; exact ⟨rfl, rfl⟩
    · rw [State.roomCandidate_scheduled hmode hl]
      refine ⟨?_, fun v hpoint hdefault => ?_⟩
      · rw [← s.roomScheduled_source]; split <;> rfl
      · rw [← State.roomScheduled_level hpoint hdefault]; split <;> rfl
  · intro hv
    rw [htarget, horigin, State.cylinderResolved_vacant hv]; exact ⟨rfl, rfl⟩
  · intro h l hl hmode
    rw [htarget, horigin, State.cylinderResolved_held hmode hl]; exact ⟨rfl, rfl⟩
  · intro hl hmode
    refine ⟨fun p hp => ?_, fun hp => ?_⟩
    · rw [htarget, horigin, State.cylinderResolved_scheduled hmode hl hp]; exact ⟨rfl, rfl⟩
    · rw [htarget, horigin, State.cylinderResolved_default hmode hl hp]; exact ⟨rfl, rfl⟩

end Sys2Proof.Machine

/-! RETIRE of a hold (R52). -/

namespace Sys2Proof.Machine

/-- Dropping a hold by its handle leaves those above and below it in their order. -/
theorem State.HoldInv.filter_handle {s : State} (hs : s.HoldInv) {z : Fin 17} {h : Hold} {above below : List Hold}
    (hl : s.stackOf z = above ++ h :: below) :
    (s.stackOf z).filter (fun g => g.handle != h.handle) = above ++ below := by
  have hnodup := hs.stack_handles z
  rw [hl, List.map_append, List.map_cons] at hnodup
  have hbelow : ∀ g ∈ below, g.handle ≠ h.handle := fun g hg he =>
    (List.nodup_cons.1 (List.nodup_append.1 hnodup).2.1).1 (he ▸ List.mem_map_of_mem hg)
  have keeps : ∀ l : List Hold, (∀ g ∈ l, g.handle ≠ h.handle) → l.filter (fun g => g.handle != h.handle) = l :=
    fun l hne => List.filter_eq_self.2 fun g hg => bne_iff_ne.2 (hne g hg)
  rw [hl, List.filter_append, keeps above (hs.above_ne hl), List.filter_cons_of_neg (by simp), keeps below hbelow]

/-- An operation that leaves the holds leaves their count. -/
theorem State.poolCount_congr {s t : State} (h : t.holds = s.holds) : t.poolCount = s.poolCount := by
  simp only [State.poolCount, h]

/-- RETIRE of a hold by its handle (R52). -/
theorem State.retireHold_eq {s : State} (hs : s.HoldInv) {key : Word} {z : Fin 17} {h : Hold} {above below : List Hold}
    (hl : s.stackOf z = above ++ h :: below) (hkey : h.handle = key.toNat) :
    s.retireHold key = ((s.setStack z (above ++ below)).afterHold z s, .plain .ok) := by
  have hmem : h ∈ s.stackOf z := by rw [hl]; simp
  have hpos : h.handle ≠ 0 := Nat.one_le_iff_ne_zero.1 (hs.handle_range hmem).1
  simp only [State.retireHold, ← hkey, if_neg hpos, State.findHold_eq hs hl, State.dropHold, hs.filter_handle hl]

/-- Settles O22: the stack without the hold, its count, and the resolution and evaluations, which leave the stacks. -/
theorem retireHoldRemoves : Obligations.RetireHoldRemoves := by
  refine ⟨fun key z h above below s ht hs hl hkey => ?_, fun key s ht hpos hnone => ?_, fun s ht => ?_⟩
  · let u := (s.received (.retireHold key)).setStack z (above ++ below)
    have hbody : (s.received (.retireHold key)).retireHold key = (u.afterHold z (s.received (.retireHold key)), .plain .ok) :=
      State.retireHold_eq (s := s.received (.retireHold key)) hs hl hkey
    have hsettles : (u.resolve z).SettlesTo (u.afterHold z (s.received (.retireHold key))) :=
      State.settlesTo_evaluateFrom _ _
    have hholds : (u.afterHold z (s.received (.retireHold key))).holds = u.holds :=
      hsettles.holds.trans (u.resolvesTo_resolve z).holds
    have hexec : exec (.retireHold key) s = .next (s.command (.retireHold key) (fun t => t.retireHold key)) := rfl
    refine ⟨u.afterHold z (s.received (.retireHold key)), ?_, ?_, ?_, hsettles⟩
    · rw [hexec, State.command_of_takes ht, hbody]
      rfl
    · rw [stackOf_congr hholds, State.setStack_stackOf, if_pos rfl]
    · have hcount : u.poolCount + (s.stackOf z).length = s.poolCount + (above ++ below).length :=
        (s.received (.retireHold key)).poolCount_setStack z (above ++ below)
      rw [hl, List.length_append, List.length_append, List.length_cons] at hcount
      rw [State.poolCount_congr hholds]
      omega
  · have hfind : (s.received (.retireHold key)).findHold key.toNat = none :=
      State.findHold_eq_none (s := s.received (.retireHold key)) hnone
    have hkey : key.toNat ≠ 0 := fun h => hpos (BitVec.eq_of_toNat_eq h)
    exact exec_refused ht rfl (by simp only [State.retireHold, if_neg hkey, hfind])
  · exact exec_refused ht rfl rfl

end Sys2Proof.Machine

/-! SET CLOCK (R25, R36, R54). -/

namespace Sys2Proof.Machine

/-- Retiring the NEXT_POINT holds of some zones writes their stacks and nothing else. -/
theorem State.foldl_retireNextPoint_frame (b : Fin 17 → Bool) (l : List (Fin 17)) (s : State) :
    l.foldl (fun t z => if b z then t.retireNextPoint z else t) s = { s with
      holds := { s.holds with stack := (l.foldl (fun t z => if b z then t.retireNextPoint z else t) s).holds.stack } } := by
  induction l generalizing s with
  | nil => rfl
  | cons z l ih =>
    rw [List.foldl_cons, ih]
    split <;> rfl

theorem State.retireNextPoint_if_stackOf (b : Bool) (s : State) (y z : Fin 17) :
    (if b then s.retireNextPoint y else s).stackOf z =
      if b = true ∧ y = z then (s.stackOf z).filter (fun h => h.ending != .nextPoint) else s.stackOf z := by
  cases b with
  | false => simp
  | true => simp only [↓reduceIte, true_and, State.retireNextPoint_stackOf]

/-- A stack loses its NEXT_POINT holds when its zone is named and tested. -/
theorem State.foldl_retireNextPoint_stackOf (b : Fin 17 → Bool) (z : Fin 17) (l : List (Fin 17)) (s : State) :
    (l.foldl (fun t z => if b z then t.retireNextPoint z else t) s).stackOf z =
      if b z = true ∧ z ∈ l then (s.stackOf z).filter (fun h => h.ending != .nextPoint) else s.stackOf z := by
  induction l generalizing s with
  | nil => simp
  | cons y l ih =>
    rw [List.foldl_cons, ih, State.retireNextPoint_if_stackOf]
    by_cases hy : y = z
    · subst hy
      by_cases hb : b y = true <;> simp [hb, List.filter_filter]
    · simp [hy, Ne.symm hy]

/-- SET CLOCK changes stacks alone between the clock and the resolution (R36). -/
theorem State.takePointChanges_frame (s : State) (before : Option Nat) : s.takePointChanges before = { s with
    holds := { s.holds with stack := (s.takePointChanges before).holds.stack } } := by
  unfold State.takePointChanges
  generalize allZones = l
  exact State.foldl_retireNextPoint_frame (fun z => pointChanged (s.pointsOf z) before s.clock.timeOfWeek) l s

/-- A change of the point in force retires the NEXT_POINT holds of its zone (R36, R54). -/
theorem State.takePointChanges_stackOf (s : State) (before : Option Nat) (z : Fin 17) :
    (s.takePointChanges before).stackOf z =
      if inForce (s.pointsOf z) before = inForce (s.pointsOf z) s.clock.timeOfWeek then s.stackOf z
      else (s.stackOf z).filter (fun h => h.ending != .nextPoint) := by
  have hall : z ∈ allZones := List.mem_finRange z
  have hfold := State.foldl_retireNextPoint_stackOf
    (fun z => pointChanged (s.pointsOf z) before s.clock.timeOfWeek) z allZones s
  have hchanged : pointChanged (s.pointsOf z) before s.clock.timeOfWeek = true ↔
      ¬ inForce (s.pointsOf z) before = inForce (s.pointsOf z) s.clock.timeOfWeek := bne_iff_ne
  unfold State.takePointChanges
  generalize allZones = l at hall hfold ⊢
  rw [hfold]
  by_cases h : inForce (s.pointsOf z) before = inForce (s.pointsOf z) s.clock.timeOfWeek
  · rw [if_pos h, if_neg fun hc => hchanged.1 hc.1 h]
  · rw [if_neg h, if_pos ⟨hchanged.2 h, hall⟩]

/-- Settles O35: the clock restarted, the stacks of the changed points, then resolution and evaluations. -/
theorem setClockStores : Obligations.SetClockStores := by
  refine ⟨fun time s ht hbig => exec_refused ht rfl (if_pos hbig), fun time s ht hsmall => ?_⟩
  let u := (s.received (.setClock time)).startClock time.toNat
  let w := u.takePointChanges s.clock.timeOfWeek
  have hbody : (s.received (.setClock time)).setClock time =
      (w.resolveAll.evaluateFrom (s.received (.setClock time)),
        .record .ok 0 (w.resolveAll.evaluateFrom (s.received (.setClock time))).clockView) :=
    if_neg (Nat.not_lt.2 hsmall)
  have hexec : exec (.setClock time) s = .next (s.command (.setClock time) (fun t => t.setClock time)) := rfl
  refine ⟨w.resolveAll.evaluateFrom (s.received (.setClock time)), w.holds.stack, ?_, fun z => ?_, ?_⟩
  · rw [hexec, State.command_of_takes ht, hbody]
    generalize w.resolveAll.evaluateFrom (s.received (.setClock time)) = t
    rfl
  · exact u.takePointChanges_stackOf s.clock.timeOfWeek z
  · have hw : w = { s.received (.setClock time) with
        clock := { s.clock with
          timeOfWeek := some time.toNat, minuteAt := some (s.time.now + 60000)
          taken := { holds := false, house := false, starts := false, joins := false } }
        holds := { s.holds with stack := w.holds.stack } } := u.takePointChanges_frame s.clock.timeOfWeek
    rw [← hw]
    exact State.settlesTo_evaluateFrom _ _

end Sys2Proof.Machine

/-! The cylinder channel: its timers, and a mode that changes its target (R67, R128 to R135). -/

namespace Sys2Proof.Machine

/-! ### Evaluations of the channel with their outcome -/

/-- A charge whose target is not reached goes on (R130). -/
theorem State.evaluate_charging_on {s : State} (h : s.cylinder.state = .charging) (hc : ¬ s.warmEnough) :
    s.evaluate.cylinder = s.cylinder := by
  have hdone : ¬ s.chargeDone = true := fun hd => hc (s.chargeDone_iff.1 hd)
  rw [s.evaluate_cylinder, State.evalCylinder_charging h, if_neg hdone, ite_self]

/-- IDLE without a charge start stays IDLE (R129). -/
theorem State.evaluate_idle_on {s : State} (h : s.cylinder.state = .idle) (hc : ¬ s.coolBy s.cylinder.dhwHyst) :
    s.evaluate.cylinder = s.cylinder := by
  have hwanted : ¬ s.chargeWanted = true := fun hw => hc (s.chargeWanted_iff.1 hw)
  rw [s.evaluate_cylinder, State.evalCylinder_idle h, if_neg hwanted, ite_self]

/-- A charge that starts below its target lasts through the event's evaluation (R129, R132). -/
theorem State.startCharge_evaluate {s : State} {k : Int} (hk : 1 ≤ k) (hc : s.coolBy k) : s.startCharge.evaluate.cylinder =
    { s.cylinder with state := .charging, prio := some s.time.now, gap := none, recovery := none } :=
  State.evaluate_charging_on (s := s.startCharge) rfl fun hw => State.not_warmEnough_of_coolBy hk hc hw

theorem State.toIdle_of_cool {s : State} (hc : s.coolBy s.cylinder.dhwHyst) : s.toIdle = s.startCharge := by
  have hwanted : State.chargeWanted { s with cylinder := s.cylinder.moveTo .idle } = true := s.chargeWanted_iff.2 hc
  rw [State.toIdle, State.evalIdle, if_pos hwanted]
  rfl

theorem State.toIdle_of_not_cool {s : State} (hc : ¬ s.coolBy s.cylinder.dhwHyst) :
    s.toIdle = { s with cylinder := s.cylinder.moveTo .idle } := by
  have hwanted : ¬ State.chargeWanted { s with cylinder := s.cylinder.moveTo .idle } = true :=
    fun hw => hc (s.chargeWanted_iff.1 hw)
  rw [State.toIdle, State.evalIdle, if_neg hwanted]

/-- A move into IDLE ends there unless the cylinder is cool (R129). -/
theorem State.toIdle_evaluate_idle {s : State} (hc : ¬ s.coolBy s.cylinder.dhwHyst) : s.toIdle.evaluate.cylinder =
    { s.cylinder with state := .idle, prio := none, gap := none, recovery := none } := by
  rw [State.toIdle_of_not_cool hc]
  exact State.evaluate_idle_on (s := { s with cylinder := s.cylinder.moveTo .idle }) rfl hc

theorem State.settlesTo_toIdle (s : State) : s.SettlesTo s.toIdle := by
  unfold State.toIdle State.evalIdle State.startCharge
  split <;> exact s.settlesTo_setCylinder rfl

/-- Below the target by something: the condition of a charge that resumes (R132). -/
theorem State.coolBy_one_iff (s : State) : s.coolBy 1 ↔ s.boiler.tc.status = some .ok ∧
    ∃ v τ : Int, s.boiler.tc.value = some v ∧ s.cylinder.target = .deg τ ∧ v < τ := by
  simp only [State.coolBy, Int.le_sub_one_iff]

/-! ### The timers (R131 to R133) -/

theorem tprioExpiry_calling {s : State} {a : Nat} (hstate : s.cylinder.state = .charging) (ha : s.cylinder.prio = some a)
    (hcall : s.anyCalling = true) : ∃ t, exec .tprioExpiry s = .next t ∧
      (s.reach (a + minutes s.cylinder.tPrio)).SettlesTo t ∧ t.cylinder = { s.cylinder with
        state := .gap, prio := none, gap := some (s.reach (a + minutes s.cylinder.tPrio)).time.now, recovery := none } := by
  let u := s.reach (a + minutes s.cylinder.tPrio)
  have hexec : exec .tprioExpiry s = execTprioExpiry s := rfl
  have hu : u.prioExpires = { u with cylinder := { u.cylinder.moveTo .gap with gap := some u.time.now } } := if_pos hcall
  refine ⟨u.prioExpires.evaluate, ?_, u.settlesTo_prioExpires.trans (State.settlesTo_evaluate _), ?_⟩
  · rw [hexec, execTprioExpiry, hstate, ha]
  · have hgap : u.prioExpires.cylinder.state = .gap := by rw [hu]; rfl
    rw [State.evaluate_waiting (by rw [hgap]; decide) (by rw [hgap]; decide), hu]
    rfl

theorem tprioExpiry_restart {s : State} {a : Nat} (hstate : s.cylinder.state = .charging) (ha : s.cylinder.prio = some a)
    (hcall : s.anyCalling = false) (hdone : s.chargeDone = false) : ∃ t, exec .tprioExpiry s = .next t ∧
      (s.reach (a + minutes s.cylinder.tPrio)).SettlesTo t ∧
      t.cylinder = { s.cylinder with prio := some (s.reach (a + minutes s.cylinder.tPrio)).time.now } := by
  let u := s.reach (a + minutes s.cylinder.tPrio)
  have hexec : exec .tprioExpiry s = execTprioExpiry s := rfl
  have hu : u.prioExpires = { u with cylinder := { u.cylinder with prio := some u.time.now } } :=
    if_neg (Bool.eq_false_iff.1 hcall)
  have hon : ¬ s.warmEnough := fun hw => Bool.eq_false_iff.1 hdone (s.chargeDone_iff.2 hw)
  refine ⟨u.prioExpires.evaluate, ?_, u.settlesTo_prioExpires.trans (State.settlesTo_evaluate _), ?_⟩
  · rw [hexec, execTprioExpiry, hstate, ha]
  · rw [hu]
    exact State.evaluate_charging_on (s := { u with cylinder := { u.cylinder with prio := some u.time.now } }) hstate hon

theorem tgapExpiry_outcome {s : State} {a : Nat} (hyst : 1 ≤ s.cylinder.dhwHyst) (hstate : s.cylinder.state = .gap)
    (ha : s.cylinder.gap = some a) : ∃ t, exec .tgapExpiry s = .next t ∧
      (s.reach (a + minutes s.cylinder.tGap)).SettlesTo t ∧
      (s.coolBy 1 → t.cylinder = { s.cylinder with
        state := .charging, prio := some (s.reach (a + minutes s.cylinder.tGap)).time.now, gap := none, recovery := none }) ∧
      (¬ s.coolBy 1 → t.cylinder = { s.cylinder with state := .idle, prio := none, gap := none, recovery := none }) := by
  let u := s.reach (a + minutes s.cylinder.tGap)
  have hexec : exec .tgapExpiry s = execTgapExpiry s := rfl
  refine ⟨u.gapExpires.evaluate, ?_, u.settlesTo_gapExpires.trans (State.settlesTo_evaluate _), fun hc => ?_, fun hc => ?_⟩
  · rw [hexec, execTgapExpiry, hstate, ha]
  · have hu : u.gapExpires = u.startCharge := if_pos (u.gapResumes_iff.2 hc)
    rw [hu]
    exact State.startCharge_evaluate (s := u) le_rfl hc
  · have hu : u.gapExpires = u.toIdle := if_neg fun h => hc (u.gapResumes_iff.1 h)
    rw [hu]
    exact State.toIdle_evaluate_idle (s := u) fun h => hc (State.coolBy_mono hyst h)

theorem cylinderRecoveryExpiry_outcome {s : State} {a : Nat} (hyst : 1 ≤ s.cylinder.dhwHyst)
    (hstate : s.cylinder.state = .fault) (ha : s.cylinder.recovery = some a) :
    ∃ t, exec .cylinderRecoveryExpiry s = .next t ∧ (s.reach (a + Config.sensorRecovery)).SettlesTo t ∧
      (s.coolBy s.cylinder.dhwHyst → t.cylinder = { s.cylinder with
        state := .charging, prio := some (s.reach (a + Config.sensorRecovery)).time.now, gap := none, recovery := none }) ∧
      (¬ s.coolBy s.cylinder.dhwHyst →
        t.cylinder = { s.cylinder with state := .idle, prio := none, gap := none, recovery := none }) := by
  let u := s.reach (a + Config.sensorRecovery)
  have hexec : exec .cylinderRecoveryExpiry s = execCylinderRecoveryExpiry s := rfl
  refine ⟨u.toIdle.evaluate, ?_, u.settlesTo_toIdle.trans (State.settlesTo_evaluate _), fun hc => ?_, fun hc => ?_⟩
  · rw [hexec, execCylinderRecoveryExpiry, hstate, ha]
  · rw [State.toIdle_of_cool (s := u) hc]
    exact State.startCharge_evaluate (s := u) hyst hc
  · exact State.toIdle_evaluate_idle (s := u) hc

/-! ### A mode that changes the target (R39, R67, R69) -/

theorem State.announceAll_cylinder (s : State) : s.announceAll.cylinder = s.cylinder := by
  unfold State.announceAll
  generalize rooms = l
  refine foldl_leaves State.cylinder (fun s z => ?_) l s
  unfold State.announce
  split <;> rfl

/-- A change of mode gives ZW the target of the new mode (R39). -/
theorem State.changeMode_cylinder (s : State) (m : Mode) (c : Option Nat) {target : Level} {source : CylinderSource}
    (h : (s.setHouse { s.house with mode := m, countdown := c }).cylinderResolved = (target, source)) :
    (s.changeMode m c).cylinder = { s.cylinder with target := target, source := source } := by
  let u := (s.setHouse { s.house with mode := m, countdown := c }).raise .modeChanged
  have hframe := u.resolvesTo_announceAll
  have hcyl : u.announceAll.cylinder = s.cylinder := u.announceAll_cylinder
  have hresolved : u.announceAll.cylinderResolved = (target, source) :=
    (State.cylinderResolved_of_eq (s := s.setHouse { s.house with mode := m, countdown := c }) (by rw [hframe.house]; rfl)
      hframe.holds hframe.points hframe.clock (congrArg Cylinder.defaultTarget hcyl)).trans h
  have hchange : s.changeMode m c = u.announceAll.resolveAll := rfl
  rw [hchange, State.resolveAll_cylinder, hresolved, hcyl]

theorem State.evaluateFrom_of_target {s before : State} (h : s.cylinder.target ≠ before.cylinder.target) :
    s.evaluateFrom before = s.evaluate :=
  if_neg fun k => h (by rw [k.2.1])

/-- VACANT sets the target OFF, which ends a charge (R67, R130). -/
theorem setMode_vacant_cylinder {s : State} {countdown : Word} (hready : s.time.ready = true)
    (hmode : s.house.mode ≠ .vacant) (hstate : s.cylinder.state = .charging) (htarget : s.cylinder.target ≠ .off) :
    (s.enterMode .vacant (countdownOf countdown)).cylinder = { s.cylinder with
      state := .idle, target := .off, source := .vacant, prio := none, gap := none, recovery := none } := by
  let w := s.changeMode .vacant (countdownOf countdown)
  have hcyl : w.cylinder = { s.cylinder with target := .off, source := .vacant } :=
    s.changeMode_cylinder _ _ (State.cylinderResolved_vacant rfl)
  have hoff : w.cylinder.target = .off := by rw [hcyl]
  have hcharging : w.cylinder.state = .charging := by rw [hcyl]; exact hstate
  have hnotcool : ¬ w.coolBy w.cylinder.dhwHyst := by
    rintro ⟨-, v, τ, -, hτ, -⟩
    rw [hoff] at hτ; cases hτ
  have hreadyw : w.time.ready = true := by
    rw [(s.resolvesTo_changeMode .vacant (countdownOf countdown)).time]; exact hready
  have henter : s.enterMode .vacant (countdownOf countdown) = w.evaluateFrom s := if_neg hmode
  rw [henter, State.evaluateFrom_of_target (by rw [hoff]; exact htarget.symm), w.evaluate_cylinder, if_pos hreadyw,
    State.evalCylinder_charging hcharging, if_pos (w.chargeDone_iff.2 (.inl hoff)), State.toIdle_of_not_cool hnotcool]
  change w.cylinder.moveTo .idle = _
  rw [hcyl]
  rfl

/-- The LINK wake gives ZW its default target again, and a cool cylinder a charge (R69, R129). -/
theorem wake_link_cylinder {s : State} {v τ : Int} (hready : s.time.ready = true) (hmode : s.house.mode = .vacant)
    (hstate : s.cylinder.state = .idle) (htarget : s.cylinder.target = .off) (hstack : s.stackOf zw = [])
    (hpoints : s.pointsOf zw = []) (hdefault : s.cylinder.defaultTarget = .deg τ)
    (htc : s.boiler.tc = { value := some v, status := some .ok }) (hcold : v ≤ τ - s.cylinder.dhwHyst) :
    ((s.wake .link).evaluateFrom s).cylinder = { s.cylinder with
      state := .charging, target := .deg τ, source := .default, prio := some s.time.now, gap := none, recovery := none } := by
  let u := s.setHouse { s.house with lastCause := some .link }
  let w := u.changeMode .occupied none
  have hwake : s.wake .link = w := if_pos ⟨rfl, by rw [hmode]; decide⟩
  have hforce : s.pointInForce zw = none := by
    rw [State.pointInForce, hpoints]
    cases s.clock.timeOfWeek <;> rfl
  have hcyl : w.cylinder = { s.cylinder with target := .deg τ, source := .default } := by
    have hresolved : (u.setHouse { u.house with mode := .occupied, countdown := none }).cylinderResolved =
        (s.cylinder.defaultTarget, .default) := State.cylinderResolved_default (by simp [State.setHouse]) hstack hforce
    rw [hdefault] at hresolved
    exact u.changeMode_cylinder _ _ hresolved
  have hframe := u.resolvesTo_changeMode .occupied none
  have htime : w.time = s.time := hframe.time
  have hboiler : w.boiler = s.boiler := hframe.boiler
  have hwanted : w.chargeWanted = true := by
    refine w.chargeWanted_iff.2 ⟨?_, v, τ, ?_, ?_, ?_⟩
    · rw [hboiler, htc]
    · rw [hboiler, htc]
    · rw [hcyl]
    · rw [hcyl]; exact hcold
  have hidle : w.cylinder.state = .idle := by rw [hcyl]; exact hstate
  have hchanged : w.cylinder.target ≠ s.cylinder.target := by rw [hcyl, htarget]; exact Level.noConfusion
  rw [hwake, State.evaluateFrom_of_target hchanged, w.evaluate_cylinder, if_pos (by rw [htime]; exact hready),
    State.evalCylinder_idle hidle, if_pos hwanted, hcyl, htime]
  rfl

/-- Settles O34, timer by timer and mode by mode. -/
theorem cylinderTimers : Obligations.CylinderTimers := by
  refine ⟨fun s => ?_, fun s a hstate ha => ⟨?_, ?_⟩, fun s a hs hstate ha => ?_,
    fun s a hready hs hstate ha => ?_, ?_, ?_⟩
  · exact beq_iff_eq
  · exact tprioExpiry_calling hstate ha
  · exact tprioExpiry_restart hstate ha
  · obtain ⟨-, -, hyst, -⟩ := hs
    intro now u below
    have hbelow : s.coolBy 1 ↔ below := s.coolBy_one_iff
    rw [← hbelow]
    exact tgapExpiry_outcome (by omega) hstate ha
  · obtain ⟨-, -, hyst, -⟩ := hs
    exact cylinderRecoveryExpiry_outcome (by omega) hstate ha
  · intro countdown s ht hready hmode hstate htarget
    let i := Instr.setMode 2 countdown
    have hexec : exec i s = .next (s.command i (fun t => t.setMode 2 countdown)) := rfl
    have hcyl := setMode_vacant_cylinder (s := s.received i) (countdown := countdown) hready hmode hstate htarget
    let t := (s.received i).enterMode .vacant (countdownOf countdown)
    refine ⟨t, keyedPayload 0 t.houseView 1, ?_, ?_, hcyl⟩
    · rw [hexec, State.command_of_takes ht]; rfl
    · rw [State.divertPin, hcyl]; rfl
  · intro s v τ ht hready hmode hstate htarget hstack hpoints hdefault htc hcold
    let i := Instr.setMode 0 0
    have hexec : exec i s = .next (s.command i (fun t => t.setMode 0 0)) := rfl
    have hcyl := wake_link_cylinder (s := s.received i) hready hmode hstate htarget hstack hpoints hdefault htc hcold
    let t := ((s.received i).wake .link).evaluateFrom (s.received i)
    refine ⟨t, keyedPayload 0 t.houseView 1, ?_, ?_, hcyl⟩
    · rw [hexec, State.command_of_takes ht]; rfl
    · rw [State.divertPin, hcyl]; rfl

end Sys2Proof.Machine

/-! The minute tick (R24, R35, R53, R70, R112, R165): what its blocks leave of the other records, and the whole of it. -/

namespace Sys2Proof.Machine

variable {s t u : State}

/-! ### What the blocks of the tick leave of the other records -/

/-- `t` has the records of `s` but for setpoints, which queue their zones, for the notices, and for what evaluations
settle. -/
structure Ticked (s t : State) : Prop where
  announce : s.bus.announce <+: t.bus.announce
  queued : ∀ z : Fin 16, (t.zone z).setpoint ≠ (s.zone z).setpoint → z ∈ t.bus.announce
  bus : t.bus = { s.bus with announce := t.bus.announce }
  zones : ∀ z : Fin 16, t.zone z = { s.zone z with setpoint := (t.zone z).setpoint, source := (t.zone z).source }
  boilerConfig : t.boiler.config = s.boiler.config
  link : t.link = { s.link with flags := t.link.flags }
  devices : ∀ i : Fin 48, (t.device i).map Device.kept = (s.device i).map Device.kept
  order : t.registry.order = s.registry.order
  outstanding : t.motor.outstanding = s.motor.outstanding

theorem Ticked.of_eq (hzones : t.zones = s.zones) (hbus : t.bus = s.bus) (hboiler : t.boiler.config = s.boiler.config)
    (hlink : t.link = { s.link with flags := t.link.flags }) (hregistry : t.registry = s.registry)
    (hmotor : t.motor = s.motor) : Ticked s t where
  announce := by rw [hbus]
  queued z h := absurd (by rw [State.zone, hzones, State.zone]) h
  bus := by rw [hbus]
  zones z := by simp only [State.zone, hzones]
  boilerConfig := hboiler
  link := hlink
  devices i := by simp only [State.device, hregistry]
  order := by rw [hregistry]
  outstanding := by rw [hmotor]

theorem Ticked.line (h : Ticked s t) : t.bus.line = s.bus.line := by rw [h.bus]
theorem Ticked.cycle (h : Ticked s t) : t.bus.cycle = s.bus.cycle := by rw [h.bus]
theorem Ticked.held (h : Ticked s t) : t.link.held = s.link.held := by rw [h.link]
theorem Ticked.enables (h : Ticked s t) : t.link.enables = s.link.enables := by rw [h.link]

theorem Ticked.refl (s : State) : Ticked s s := Ticked.of_eq rfl rfl rfl rfl rfl rfl

theorem Ticked.trans (h : Ticked s t) (k : Ticked t u) : Ticked s u where
  announce := h.announce.trans k.announce
  queued z hne := by
    by_cases hfirst : (t.zone z).setpoint = (s.zone z).setpoint
    · exact k.queued z (by rw [hfirst]; exact hne)
    · exact k.announce.subset (h.queued z hfirst)
  bus := by rw [k.bus, h.bus]
  zones z := by rw [k.zones z, h.zones z]
  boilerConfig := k.boilerConfig.trans h.boilerConfig
  link := by rw [k.link, h.link]
  devices i := (k.devices i).trans (h.devices i)
  order := k.order.trans h.order
  outstanding := k.outstanding.trans h.outstanding

theorem ticked_foldl {α : Type} {f : State → α → State} (h : ∀ (s : State) (a : α), Ticked s (f s a)) (l : List α)
    (s : State) : Ticked s (l.foldl f s) := by
  induction l generalizing s with
  | nil => exact Ticked.refl s
  | cons a l ih => exact (h s a).trans (ih _)

theorem ticked_settles (h : s.SettlesTo t) : Ticked s t where
  announce := by rw [h.bus]
  queued z hne := absurd (by rw [State.zone, h.zones, State.zone]) hne
  bus := by rw [h.bus]
  zones z := by simp only [State.zone, h.zones]
  boilerConfig := by rw [h.1]
  link := by rw [h.link]
  devices := h.2
  order := h.order
  outstanding := h.outstanding

theorem ticked_evaluate (s : State) : Ticked s s.evaluate := ticked_settles s.settlesTo_evaluate

/-- A resolution queues every zone whose setpoint it changes (R42). -/
theorem ticked_resolveAll (s : State) : Ticked s s.resolveAll where
  announce := by rw [s.resolveAll_eq]; exact List.prefix_append _ _
  queued z hne := by
    rw [s.resolveAll_setpoint] at hne
    rw [s.resolveAll_eq]
    by_cases hmem : z ∈ s.bus.announce
    · exact List.mem_append_left _ hmem
    · refine List.mem_append_right _ (List.mem_filter.2 ⟨List.mem_finRange z, ?_⟩)
      exact Bool.and_eq_true_iff.2 ⟨decide_eq_true hne, decide_eq_true hmem⟩
  bus := by rw [s.resolveAll_eq]
  zones z := by rw [s.resolveAll_zone]
  boilerConfig := by rw [s.resolvesTo_resolveAll.boiler]
  link := by rw [s.resolvesTo_resolveAll.link]
  devices i := by simp only [State.device, s.resolvesTo_resolveAll.registry]
  order := by rw [s.resolvesTo_resolveAll.registry]
  outstanding := by rw [s.resolvesTo_resolveAll.motor]

theorem ticked_announce (s : State) (z : Fin 16) : Ticked s (s.announce z) := by
  unfold State.announce
  split
  · exact Ticked.refl s
  · exact ⟨List.prefix_append _ _, fun y hne => absurd rfl hne, rfl, fun y => rfl, rfl, rfl, fun i => rfl, rfl, rfl⟩

theorem ticked_announceAll (s : State) : Ticked s s.announceAll := by
  unfold State.announceAll
  generalize rooms = l
  exact ticked_foldl ticked_announce l s

theorem ticked_setHouse (s : State) (h : House) : Ticked s (s.setHouse h) := Ticked.of_eq rfl rfl rfl rfl rfl rfl

theorem ticked_raise (s : State) (n : Notice) : Ticked s (s.raise n) := Ticked.of_eq rfl rfl rfl rfl rfl rfl

theorem ticked_changeMode (s : State) (m : Mode) (c : Option Nat) : Ticked s (s.changeMode m c) := by
  let v := (s.setHouse { s.house with mode := m, countdown := c }).raise .modeChanged
  have hstore : Ticked s v := (ticked_setHouse s _).trans (ticked_raise _ _)
  exact (hstore.trans (ticked_announceAll v)).trans (ticked_resolveAll v.announceAll)

theorem ticked_wake (s : State) (c : WakeCause) : Ticked s (s.wake c) := by
  unfold State.wake
  split
  · exact (ticked_setHouse s _).trans (ticked_changeMode _ _ _)
  · exact Ticked.refl s

/-! ### The blocks -/

theorem ticked_tickClock (s : State) : Ticked s s.tickClock := by
  let v : State := { s with clock := s.clock.advanced }
  have hcrossed : Ticked s v.takeCrossings := by
    rw [v.takeCrossings_frame]
    exact Ticked.of_eq rfl rfl rfl rfl rfl rfl
  exact (hcrossed.trans (ticked_resolveAll _)).trans (ticked_evaluate _)

theorem ticked_tickHolds (s : State) : Ticked s s.tickHolds := by
  have hcounted : Ticked s s.countHolds := Ticked.of_eq rfl rfl rfl rfl rfl rfl
  exact (hcounted.trans (ticked_resolveAll _)).trans (ticked_evaluate _)

theorem ticked_tickHouse (s : State) : Ticked s s.tickHouse := by
  have hcounted : Ticked s s.countReturn := by
    unfold State.countReturn
    split
    · split
      · exact (ticked_setHouse s _).trans (ticked_wake _ _)
      · exact ticked_setHouse s _
    · exact Ticked.refl s
  exact hcounted.trans (ticked_evaluate _)

theorem ticked_tickStarts (s : State) : Ticked s s.tickStarts := by
  have haged : Ticked s s.ageStarts := Ticked.of_eq rfl rfl rfl rfl rfl rfl
  exact haged.trans (ticked_evaluate _)

theorem ticked_tickUnless {tick : State → State} (h : ∀ s, Ticked s (tick s)) (b : Bool) (s : State) :
    Ticked s (s.tickUnless b tick) := by
  cases b with
  | true => exact Ticked.refl s
  | false => exact h s

/-! ### ZW's source (R39) -/

/-- ZW has the source that its inputs give. -/
def State.Sourced (s : State) : Prop := s.cylinder.source = s.cylinderResolved.2

theorem State.Sourced.of_eq (h : s.Sourced) (hmode : t.house.mode = s.house.mode) (hholds : t.holds = s.holds)
    (hpoints : t.points = s.points) (hclock : t.clock = s.clock)
    (hdefault : t.cylinder.defaultTarget = s.cylinder.defaultTarget) (hsource : t.cylinder.source = s.cylinder.source) :
    t.Sourced := by
  rw [State.Sourced, hsource, State.cylinderResolved_of_eq hmode hholds hpoints hclock hdefault]
  exact h

theorem State.Sourced.settles (hs : s.Sourced) (h : s.SettlesTo t) : t.Sourced :=
  hs.of_eq (by rw [h.house]) h.holds h.points h.clock (by rw [h.1]) (by rw [h.1])

theorem sourced_evaluate (h : s.Sourced) : s.evaluate.Sourced := h.settles s.settlesTo_evaluate

theorem sourced_resolveAll (s : State) : s.resolveAll.Sourced := by
  have h := s.resolvesTo_resolveAll
  have hdefault : s.resolveAll.cylinder.defaultTarget = s.cylinder.defaultTarget := by rw [s.resolveAll_cylinder]
  rw [State.Sourced, State.cylinderResolved_of_eq (by rw [h.house]) h.holds h.points h.clock hdefault,
    s.resolveAll_cylinder]

theorem sourced_tickClock (s : State) : s.tickClock.Sourced := sourced_evaluate (sourced_resolveAll _)

theorem sourced_tickHolds (s : State) : s.tickHolds.Sourced := sourced_evaluate (sourced_resolveAll _)

theorem sourced_changeMode (s : State) (m : Mode) (c : Option Nat) : (s.changeMode m c).Sourced := sourced_resolveAll _

theorem sourced_tickHouse (h : s.Sourced) : s.tickHouse.Sourced := by
  refine sourced_evaluate ?_
  have hset : ∀ c : Option Nat, (s.setHouse { s.house with countdown := c }).Sourced :=
    fun c => h.of_eq rfl rfl rfl rfl rfl rfl
  unfold State.countReturn
  split
  · split
    · rw [State.returnEnds_eq]
      split
      · exact sourced_changeMode _ _ _
      · exact hset none
    · exact hset _
  · exact h

theorem sourced_tickStarts (h : s.Sourced) : s.tickStarts.Sourced := sourced_evaluate (s := s.ageStarts) h

/-! ### The whole tick -/

/-- The blocks of the tick before the join list. -/
def State.tickBlocks (s : State) : State :=
  ((s.tickClock.tickUnless s.clock.taken.holds State.tickHolds).tickUnless s.clock.taken.house
    State.tickHouse).tickUnless s.clock.taken.starts State.tickStarts

/-- The join list ages last (R165). -/
theorem State.minuteTick_tickBlocks (s : State) :
    s.minuteTick = s.tickBlocks.tickUnless s.clock.taken.joins State.ageJoins := rfl

theorem ticked_tickBlocks (s : State) : Ticked s s.tickBlocks :=
  (((ticked_tickClock s).trans (ticked_tickUnless ticked_tickHolds _ _)).trans
    (ticked_tickUnless ticked_tickHouse _ _)).trans (ticked_tickUnless ticked_tickStarts _ _)

theorem sourced_tickUnless {tick : State → State} (h : ∀ s : State, s.Sourced → (tick s).Sourced) (b : Bool)
    (hs : s.Sourced) : (s.tickUnless b tick).Sourced := by
  cases b with
  | true => exact hs
  | false => exact h s hs

theorem sourced_tickBlocks (s : State) : s.tickBlocks.Sourced :=
  sourced_tickUnless (fun _ => sourced_tickStarts) _ (sourced_tickUnless (fun _ => sourced_tickHouse) _
    (sourced_tickUnless (fun t _ => sourced_tickHolds t) _ (sourced_tickClock s)))

/-- The tick ages the join list unless the list has taken it, and leaves the other records as its blocks do. -/
theorem State.minuteTick_joins (s : State) : ∃ n, s.minuteTick = { s.tickBlocks with
    bus := { s.tickBlocks.bus with
      joins := if s.clock.taken.joins then s.bus.joins else s.bus.joins.filterMap JoinEntry.aged
      lastEntry := n } } := by
  have hjoins : s.tickBlocks.bus.joins = s.bus.joins := by rw [(ticked_tickBlocks s).bus]
  rw [s.minuteTick_tickBlocks, ← hjoins]
  generalize s.tickBlocks = t
  cases s.clock.taken.joins with
  | true => exact ⟨t.bus.lastEntry, rfl⟩
  | false => exact ⟨t.ageJoins.bus.lastEntry, rfl⟩

/-- A stack after the tick: the crossing first, then the minute of each countdown (R53, R54). -/
theorem crossedStack_counted (s : State) (z : Fin 17) :
    (if s.clock.taken.holds then s.crossedStack z else (s.crossedStack z).filterMap countDown) =
      (s.crossedStack z).filterMap (fun h =>
        match h.ending with
        | .countdown m => if s.clock.taken.holds then some h
            else if m ≤ 1 then none else some { h with ending := .countdown (m - 1) }
        | _ => some h) := by
  cases s.clock.taken.holds with
  | false => rfl
  | true =>
    refine (List.filterMap_some (l := s.crossedStack z)).symm.trans (List.filterMap_congr fun h _ => ?_)
    cases h.ending <;> rfl

/-- The house record without a countdown to count. -/
theorem House.counted_none {h : House} (hc : h.countdown = none) : h.counted = h := by
  simp only [House.counted, hc]

theorem House.counted_more {h : House} {m : Nat} (hc : h.countdown = some m) (hm : 1 < m) :
    h.counted = { h with countdown := some (m - 1) } := by
  simp only [House.counted, hc, if_neg (Nat.not_le.2 hm)]

theorem House.counted_last {h : House} {m : Nat} (hc : h.countdown = some m) (hm : m ≤ 1) (hmode : h.mode ≠ .occupied) :
    h.counted = if h.wakeReturn then { h with mode := .occupied, countdown := none, lastCause := some .return }
      else { h with countdown := none } := by
  simp only [House.counted, hc, if_pos hm]
  exact if_congr (and_iff_left hmode) rfl rfl

theorem exec_minuteTick {s : State} {due : Nat} (hdue : s.clock.minuteAt = some due) : exec .minuteTick s = .next
    (if s.time.ready then (s.advanceMinute due).minuteTick
      else { s.advanceMinute due with time := { (s.advanceMinute due).time with minuteDue := true } }) := by
  have hexec : exec .minuteTick s = execMinuteTick s := rfl
  rw [hexec, execMinuteTick, hdue]

/-- Settles O36: the tick at the state its time base has reached, block by block; the start list with the burner at
rest, where no evaluation moves it. -/
theorem minuteTick : Obligations.MinuteTick := by
  refine ⟨fun s due hdue => ⟨fun hlow => ?_, fun hready => ?_⟩, fun s t due hdue hready hrest ht => ?_⟩
  · rw [exec_minuteTick hdue, if_neg (by simp [hlow])]
    rfl
  · let u := s.advanceMinute due
    have hm := minuteTaken_minuteTick u
    obtain ⟨n, heq⟩ := u.minuteTick_joins
    have hstart : Ticked s u := Ticked.of_eq rfl rfl rfl rfl rfl rfl
    have hblocks : Ticked s u.tickBlocks := hstart.trans (ticked_tickBlocks u)
    have hsourced := sourced_tickBlocks u
    have hhouse : u.minuteTick.house = if s.clock.taken.house then s.house else s.house.counted := hm.house
    obtain ⟨hrooms, hzw⟩ := hm.resolved
    refine ⟨u.minuteTick, by rw [exec_minuteTick hdue, if_pos hready], hm.time, ⟨hm.clock, fun z => ?_⟩, hrooms, hzw,
      ?_, ?_, fun z hne => ?_, fun htaken => ?_, fun m hc hgt htaken => ?_, fun hc => ?_,
      fun m hc hle htaken hmode => ⟨?_, fun hw => ?_⟩, ?_, ?_, ?_, fun z => ?_, ?_, hm.points, hm.pending, ?_, ?_,
      fun i => ?_, ?_, ?_⟩
    · exact (hm.held z).trans (crossedStack_counted u z)
    · rw [heq]; exact hsourced
    · rw [heq]; exact hblocks.announce
    · rw [heq] at hne ⊢; exact hblocks.queued z hne
    · rw [hhouse, if_pos htaken]
    · rw [hhouse, htaken]; exact House.counted_more hc hgt
    · rw [hhouse, House.counted_none hc, ite_self]
    · rw [hhouse, htaken]; exact House.counted_last hc hle hmode
    · exact hm.woken htaken m hc hle hw hmode
    · rw [heq]; rfl
    · rw [heq]; exact hblocks.line
    · rw [heq]; exact hblocks.cycle
    · have hzone := hblocks.zones z
      have hsame : u.minuteTick.zone z = u.tickBlocks.zone z := by rw [heq]; rfl
      rw [hsame, hzone]
      exact ⟨rfl, rfl, rfl, rfl⟩
    · rw [heq]; exact hblocks.boilerConfig
    · rw [heq]; exact hblocks.held
    · rw [heq]; exact hblocks.enables
    · rw [heq]; exact hblocks.devices i
    · rw [heq]; exact hblocks.order
    · rw [heq]; exact hblocks.outstanding
  · have hm := minuteTaken_minuteTick (s.advanceMinute due)
    rw [exec_minuteTick hdue, if_pos hready] at ht
    cases ht
    exact ⟨hm.starts hrest, (hm.burner hrest).1⟩

end Sys2Proof.Machine

/-! CREATE and WRITE of a hold, and the handle of a push (R45 to R51). -/

namespace Sys2Proof.Machine

/-- Settles O19: the search's answer, its places counted from the counter round 1..65535. -/
theorem newHandleIsFree : Obligations.NewHandleIsFree := by
  intro s hs
  obtain ⟨n, hle, hnew, hbefore, hfree⟩ := hs.newHandle_spec
  obtain ⟨hlow, hhigh⟩ := hs.newHandle_range
  obtain ⟨-, -, -, -, hfirst, hlast⟩ := hs
  have hround := nextHandle_iterate hfirst hlast
  refine ⟨fun hcounter => ?_, hfree, hlow, hhigh, n, hle, by rw [hnew, hround], fun m hm => hround m ▸ hbefore m hm⟩
  cases n with
  | zero => exact hnew
  | succ n => exact absurd (hbefore 0 n.succ_pos) hcounter

/-! ### CREATE of a hold (R45 to R49) -/

/-- The end kinds by their codes, a countdown of 0 taken as 1 (R47). -/
theorem endKindOf_eq (code m : Nat) : endKindOf code m =
    match code with
    | 0 => .nextPoint
    | 1 => .countdown (max m 1)
    | _ => .indefinite := by
  match code with
  | 0 => rfl
  | 1 =>
    have hmax : (if m = 0 then 1 else m) = max m 1 := by split <;> omega
    exact congrArg EndKind.countdown hmax
  | _ + 2 => rfl

/-- The hold that the next push puts on a stack (R45, R46). -/
def State.nextHold (s : State) (z : Fin 17) (v : Int) (e : EndKind) (o : Origin) (r : Bool) : Hold where
  handle := s.newHandle
  setpoint := s.holdRange z v
  ending := e
  origin := o
  retain := r
  pushed := s.holds.pushes

/-- A push onto a stack of at most 4 displaces exactly from one of 4 (R46, R48). -/
theorem State.push_of_le {s : State} {z : Fin 17} (h : (s.stackOf z).length ≤ 4) (v : Int) (e : EndKind) (o : Origin)
    (r : Bool) : s.push z v e o r = { (if (s.stackOf z).length = 4 then s.raise .holdDisplaced else s) with holds := {
      stack := s.holds.stack.set z (s.nextHold z v e o r :: (s.stackOf z).take 3)
      handles := if s.newHandle = 65535 then 1 else s.newHandle + 1
      pushes := (s.holds.pushes + 1) % 4294967296 } } := by
  rw [State.push_eq]
  by_cases hfull : (s.stackOf z).length = 4
  · rw [if_pos hfull, if_pos hfull.ge]; rfl
  · rw [if_neg hfull, if_neg (by omega)]; rfl

/-- The hold pushed is on top. -/
theorem State.push_head (s : State) (z : Fin 17) (v : Int) (e : EndKind) (o : Origin) (r : Bool) :
    ((s.push z v e o r).stackOf z).head? = some (s.nextHold z v e o r) := by
  rw [State.push_eq]
  simp [State.stackOf, State.nextHold]

/-- A push is refused where the stack is not full and the pool holds 24 (R49). -/
theorem State.pushRefused_iff (s : State) (z : Fin 17) :
    s.pushRefused z = true ↔ (s.stackOf z).length < 4 ∧ 24 ≤ s.poolCount := by
  simp [State.pushRefused]

theorem carries_eq_false {items : List Item} {code : Nat} (h : itemNat items code = none) : carries items code = false := by
  rw [carries, Option.map_eq_none_iff.1 h]; rfl

theorem carries_of_item {items : List Item} {code : Nat} {v : Int} (h : item items code = some v) :
    carries items code = true := by
  obtain ⟨w, hw, -⟩ := Option.map_eq_some_iff.1 h
  rw [carries, hw]; rfl

theorem enumOk_of_itemNat {items : List Item} {code n v : Nat} (h : itemNat items code = some v) :
    enumOk items code n = decide (v < n) := by
  rw [enumOk, h]; rfl

/-- The items of a CREATE that pass its checks, read once (R47). -/
structure HoldItems (items : List Item) (z : Fin 17) (v : Int) (code k : Nat) : Prop where
  codes : codesOk [1, 2, 3, 4, 5, 6, 7, 8] items = true
  zone : itemNat items 2 = some z.val
  setpoint : item items 3 = some v
  ending : itemNat items 4 = some code
  ending_lt : code < 3
  retain : itemNat items 7 = some k
  retain_lt : k < 2
  minutes : code = 1 → carries items 5 = true

variable {items : List Item} {z : Fin 17} {v : Int} {code k : Nat}

theorem HoldItems.check (h : HoldItems items z v code k) :
    (codesOk holdCodes items && createHoldComplete items && enumOk items 4 3 && enumOk items 7 2) = true := by
  have hcomplete : createHoldComplete items = true := by
    rw [createHoldComplete, carries_of_itemNat h.zone, carries_of_item h.setpoint, carries_of_itemNat h.ending,
      carries_of_itemNat h.retain, h.ending]
    by_cases hcode : code = 1
    · rw [h.minutes hcode]; simp
    · simp [hcode]
  rw [show codesOk holdCodes items = true from h.codes, hcomplete, enumOk_of_itemNat h.ending, enumOk_of_itemNat h.retain,
    decide_eq_true h.ending_lt, decide_eq_true h.retain_lt]
  rfl

/-- CREATE with its items in place: the pool, then the push (R47). -/
theorem State.createHold_eq (h : HoldItems items z v code k) {e : EndKind}
    (he : endKindOf code ((itemNat items 5).getD 0) = e) (s : State) : s.createHold items =
    if s.pushRefused z then refuse .full s
    else ((s.push z v e .link (decide (k = 1))).afterHold z s,
      .record (okOrClamped (s.createHoldClamped z items v)) (nat s.newHandle)
        ((s.push z v e .link (decide (k = 1))).holdView z (s.nextHold z v e .link (decide (k = 1))))) := by
  have hretain : takeFlag items 7 false = decide (k = 1) := by rw [takeFlag, h.retain]; exact beq_eq_decide k 1
  simp only [State.createHold, h.check, ↓reduceIte, zoneItem_of_itemNat h.zone, zoneKey_eq rfl, h.setpoint, h.ending,
    hretain, he, State.push_head, Option.map_some, Option.getD_some]

/-- CREATE answers CLAMPED where the setpoint or a countdown of 0 was taken into range (R47). -/
theorem HoldItems.result (h : HoldItems items z v code k) (s : State) : okOrClamped (s.createHoldClamped z items v) =
    if s.holdRange z v ≠ v ∨ (code = 1 ∧ (itemNat items 5).getD 0 = 0) then .clamped else .ok := by
  refine if_congr ?_ rfl rfl
  have hminutes : code = 1 → (itemNat items 5 = some 0 ↔ (itemNat items 5).getD 0 = 0) := fun hcode => by
    have hsome := h.minutes hcode
    unfold carries at hsome
    obtain ⟨w, hw⟩ := Option.isSome_iff_exists.1 hsome
    simp [itemNat, hw]
  simp only [State.createHoldClamped, h.ending, Bool.or_eq_true, Bool.and_eq_true, decide_eq_true_eq, beq_iff_eq,
    Option.some_inj]
  exact or_congr_right (and_congr_right hminutes)

/-- A keyed answer begins with the number of fields, the first field and the key (R203). -/
theorem keyedPayload_take (key : Word) (view : List Word) (first : Nat) : (keyedPayload key view first).take 4 =
    [BitVec.ofNat 8 view.length, BitVec.ofNat 8 first, key.hi, key.lo] := by
  simp [keyedPayload, fill]

/-- CREATE of a hold is refused with BAD_VALUE before the pool is looked at (R47, R201). -/
theorem State.createHold_refused (s : State)
    (h : (∃ n, itemNat items 2 = some n ∧ 16 < n) ∨ (∃ n, itemNat items 4 = some n ∧ 2 < n) ∨
      (∃ n, itemNat items 7 = some n ∧ 1 < n) ∨ (∃ c ∈ [2, 3, 4, 7], itemNat items c = none) ∨
      (itemNat items 4 = some 1 ∧ itemNat items 5 = none)) : s.createHold items = refuse .badValue s := by
  have hunchecked : (codesOk holdCodes items && createHoldComplete items && enumOk items 4 3 && enumOk items 7 2) = false →
      s.createHold items = refuse .badValue s := fun hno => by
    rw [State.createHold, hno]; rfl
  rcases h with ⟨n, hn, hbig⟩ | ⟨n, hn, hbig⟩ | ⟨n, hn, hbig⟩ | ⟨c, hc, hnone⟩ | ⟨hcode, hnone⟩
  · unfold State.createHold
    rw [zoneItem_of_itemNat hn, zoneKey_eq_none hbig]
    split <;> rfl
  · exact hunchecked (by rw [enumOk_eq_false hn hbig]; simp)
  · exact hunchecked (by rw [enumOk_eq_false hn hbig]; simp)
  · have hincomplete : createHoldComplete items = false := by
      have hcarries := carries_eq_false hnone
      simp only [List.mem_cons, List.not_mem_nil, or_false] at hc
      rcases hc with rfl | rfl | rfl | rfl <;> simp [createHoldComplete, hcarries]
    exact hunchecked (by rw [hincomplete]; simp)
  · have hincomplete : createHoldComplete items = false := by
      simp [createHoldComplete, hcode, carries_eq_false hnone]
    exact hunchecked (by rw [hincomplete]; simp)

/-- Settles O20: the pool's check, the push with its displacement, and the resolution and evaluations after it. -/
theorem createHold : Obligations.CreateHold := by
  refine ⟨fun items z v code k s ht hs hcodes hz hv hcode hlt hk hklt hm => ?_,
    fun items s ht h => exec_refused ht rfl (State.createHold_refused _ h)⟩
  have hitems : HoldItems items z v code k := ⟨hcodes, hz, hv, hcode, hlt, hk, hklt, hm⟩
  intro i m h
  have hbody := State.createHold_eq hitems (e := h.ending) (endKindOf_eq code m) (s.received i)
  have hrefused : (s.received i).pushRefused z = true ↔ (s.stackOf z).length < 4 ∧ 24 ≤ s.poolCount :=
    (s.received i).pushRefused_iff z
  refine ⟨fun hlen hpool => exec_refused ht rfl (hbody.trans (if_pos (hrefused.2 ⟨hlen, hpool⟩))), fun hroom => ?_⟩
  have hpush := State.push_of_le (s := s.received i) (z := z) (hs.1 z) v h.ending .link (decide (k = 1))
  rw [if_neg fun hr => by have := hrefused.1 hr; omega, hitems.result (s.received i)] at hbody
  generalize (s.received i).push z v h.ending .link (decide (k = 1)) = t at hpush hbody
  have hexec : exec i s = .next (s.command i (fun t => t.createHold items)) := rfl
  refine ⟨t.afterHold z (s.received i), keyedPayload (nat h.handle) (t.holdView z h) 1, ?_, keyedPayload_take _ _ _, ?_⟩
  · rw [hexec, State.command_of_takes ht, hbody]
    rfl
  · have hsettles : (t.resolve z).SettlesTo (t.afterHold z (s.received i)) := State.settlesTo_evaluateFrom _ _
    rw [hpush] at hsettles ⊢
    exact hsettles

end Sys2Proof.Machine

/-! WRITE of a hold (R51). -/

namespace Sys2Proof.Machine

/-- The end kind's code after a WRITE: the one written, else that of the hold (R51). -/
def Hold.codeAfter (h : Hold) (items : List Item) : Nat :=
  (itemNat items 4).getD (match h.ending with | .nextPoint => 0 | .countdown _ => 1 | .indefinite => 2)

theorem endsCountdown_eq (h : Hold) (items : List Item) : endsCountdown h items = decide (h.codeAfter items = 1) := by
  unfold endsCountdown Hold.codeAfter
  cases itemNat items 4 with
  | some code => exact beq_eq_decide code 1
  | none => cases h.ending <;> rfl

theorem enumOk_codeAfter (h : Hold) (items : List Item) : enumOk items 4 3 = decide (h.codeAfter items ≤ 2) := by
  unfold enumOk Hold.codeAfter
  cases itemNat items 4 with
  | some code => exact decide_eq_decide.2 Nat.lt_succ_iff
  | none => cases h.ending <;> rfl

/-- The four refusals of a WRITE, none of which applies (R51). -/
theorem writeHoldOk_iff (h : Hold) (items : List Item) : writeHoldOk h items = true ↔
    codesOk [3, 4, 5] items = true ∧ h.codeAfter items ≤ 2 ∧
      (h.ending.isCountdown = true ∨ h.codeAfter items ≠ 1 ∨ carries items 5 = true) ∧
      (carries items 5 = true → h.codeAfter items = 1) := by
  simp only [writeHoldOk, endsCountdown_eq, enumOk_codeAfter h, Bool.and_eq_true, Bool.or_eq_true, Bool.not_eq_true',
    decide_eq_true_eq, decide_eq_false_iff_not, and_assoc, or_assoc]
  refine and_congr_right fun _ => and_congr_right fun _ => and_congr_right fun _ => ?_
  cases carries items 5 <;> simp

/-- The end kind an accepted WRITE stores, by its code (R51). -/
theorem writtenEnding_eq {h : Hold} {items : List Item} (hcode : h.codeAfter items ≤ 2) : writtenEnding h items =
    if h.codeAfter items = 0 then .nextPoint else if h.codeAfter items = 2 then .indefinite
    else (itemNat items 5).elim h.ending (fun m => .countdown (max m 1)) := by
  by_cases hone : h.codeAfter items = 1
  · rw [writtenEnding, endsCountdown_eq, if_pos (decide_eq_true hone), hone]
    cases itemNat items 5 with
    | none => rfl
    | some m => exact endKindOf_eq 1 m
  · rw [writtenEnding, endsCountdown_eq, if_neg (by simpa using hone)]
    unfold Hold.codeAfter at hcode hone ⊢
    generalize itemNat items 4 = o at hcode hone ⊢
    cases o with
    | none => cases he : h.ending with
      | countdown m => rw [he] at hone; exact absurd rfl hone
      | _ => rfl
    | some code =>
      have hends : code = 0 ∨ code = 2 := by simp only [Option.getD_some] at hcode hone; omega
      rcases hends with rfl | rfl <;> rfl

theorem State.writeHoldClamped_iff (s : State) (z : Fin 17) (items : List Item) : s.writeHoldClamped z items = true ↔
    (∃ v, item items 3 = some v ∧ s.holdRange z v ≠ v) ∨ itemNat items 5 = some 0 := by
  simp [State.writeHoldClamped, Option.any_eq_true]

theorem okOrClamped_iff (b : Bool) :
    (okOrClamped b = .clamped ↔ b = true) ∧ (okOrClamped b = .ok ∨ okOrClamped b = .clamped) := by
  cases b <;> simp [okOrClamped]

/-- WRITE of the hold a handle names (R51). -/
theorem State.writeHold_of {s : State} {key : Word} {z : Fin 17} {h : Hold} (hfind : s.findHold key.toNat = some (z, h))
    (items : List Item) : s.writeHold key items =
      if writeHoldOk h items then ((s.putHold z (s.writtenHold z h items)).afterHold z s,
        .record (okOrClamped (s.writeHoldClamped z items)) key
          ((s.putHold z (s.writtenHold z h items)).holdView z (s.writtenHold z h items)))
      else refuse .badValue s := by
  rw [State.writeHold, hfind]

/-- Settles O21: the hold by its handle, the checks of the whole write, then the hold in its place, resolved. -/
theorem writeHoldStores : Obligations.WriteHoldStores := by
  refine ⟨fun key items z h s ht hfind => ?_, fun key items s ht hnone => exec_refused ht rfl ?_⟩
  · intro i code was
    have hbody := State.writeHold_of (s := s.received i) hfind items
    have hcode : h.codeAfter items = code := rfl
    have hwas : h.ending.isCountdown = was := by cases he : h.ending <;> simp [was, he, EndKind.isCountdown]
    have hok := writeHoldOk_iff h items
    rw [hcode, hwas] at hok
    refine ⟨fun hbad => exec_refused ht rfl (hbody.trans (if_neg fun k => ?_)), fun hcodes hle hminutes honly => ?_⟩
    · obtain ⟨hcodes, hle, hminutes, honly⟩ := hok.1 k
      rcases hbad with h | h | ⟨hnot, hone, hnone⟩ | ⟨hcarries, hne⟩
      · simp [h] at hcodes
      · omega
      · simp [hnot, hone, hnone] at hminutes
      · exact hne (honly hcarries)
    · rw [if_pos (hok.2 ⟨hcodes, hle, hminutes, honly⟩)] at hbody
      have hexec : exec i s = .next (s.command i (fun t => t.writeHold key items)) := rfl
      obtain ⟨hresult, heither⟩ := okOrClamped_iff ((s.received i).writeHoldClamped z items)
      rw [hexec, State.command_of_takes ht, hbody]
      refine ⟨_, _, _, rfl, hresult.trans ((s.received i).writeHoldClamped_iff z items), heither, ?_⟩
      intro g
      have hwritten : (s.received i).writtenHold z h items = g := by
        unfold State.writtenHold
        rw [writtenEnding_eq (hcode ▸ hle), hcode]
        rfl
      rw [hwritten]
      exact State.settlesTo_evaluateFrom _ _
  · have hfind : (s.received (.writeHold key items)).findHold key.toNat = none := hnone
    rw [State.writeHold, hfind]

end Sys2Proof.Machine

/-! The last minute of a hold, a start-list entry and a join entry (R53, R111, R112, R165): the block takes the minute tick
that is due. -/

namespace Sys2Proof.Machine

/-! ### Holds (R53) -/

theorem countDown_isNone {h : Hold} {m : Nat} (hm : h.ending = .countdown m) : (countDown h).isNone = true ↔ m ≤ 1 := by
  simp only [countDown, hm]
  split <;> simp [*]

theorem State.expireHold_of {s : State} {handle : Nat} {z : Fin 17} {h : Hold} {m : Nat}
    (hfind : s.findHold handle = some (z, h)) (hm : h.ending = .countdown m) : s.expireHold handle =
      if s.clock.taken.holds = false ∧ m ≤ 1 then (s.takeEarly { s.clock.taken with holds := true }).tickHolds else s := by
  rw [State.expireHold, hfind]
  exact if_congr (and_congr_right fun _ => countDown_isNone hm) rfl rfl

/-- Once the stacks are counted down, the tick resolves all zones and evaluates (R53). -/
theorem State.settlesTo_tickHolds (s : State) {v : State} (h : v = s.countHolds) : v.resolveAll.SettlesTo s.tickHolds := by
  rw [h, State.tickHolds]
  exact State.settlesTo_evaluate _

/-- A countdown in its last minute: all stacks count down at the moment of the tick, and all zones are resolved. -/
theorem holdCountdownExpiry (handle : Nat) (z : Fin 17) (h : Hold) (m : Nat) (s : State)
    (hfind : s.findHold handle = some (z, h)) (hm : h.ending = .countdown m) :
    (s.time.ready = true → s.clock.taken.holds = false → m ≤ 1 → ∃ (t : State) (stk : Vector (List Hold) 17),
       exec (.holdCountdownExpiry handle) s = .next t ∧
       (∀ y : Fin 17, stk[y] = (s.stackOf y).filterMap countDown) ∧
       (State.resolveAll { s with
         time := { s.time with now := max s.time.now (s.clock.minuteAt.getD s.time.now) }
         clock := { s.clock with taken := { s.clock.taken with holds := true } }
         holds := { s.holds with stack := stk } }).SettlesTo t) ∧
     (s.time.ready = false ∨ s.clock.taken.holds = true ∨ 1 < m → exec (.holdCountdownExpiry handle) s = .next s) := by
  have hexec : exec (.holdCountdownExpiry handle) s = .next (if s.time.ready then s.expireHold handle else s) := rfl
  rw [hexec, State.expireHold_of hfind hm]
  refine ⟨fun hready htaken hlast => ?_, fun hstays => ?_⟩
  · let u := s.takeEarly { s.clock.taken with holds := true }
    rw [if_pos hready, if_pos ⟨htaken, hlast⟩]
    exact ⟨u.tickHolds, u.countHolds.holds.stack, rfl, u.countHolds_stackOf, u.settlesTo_tickHolds rfl⟩
  · congr 1
    rcases hstays with hlow | htaken | hmore
    · rw [hlow]; rfl
    · rw [if_neg (c := _ ∧ _) fun h => by simp [htaken] at h, ite_self]
    · rw [if_neg (c := _ ∧ _) fun h => absurd h.2 (Nat.not_le.2 hmore), ite_self]

/-! ### The burner's start in an evaluation (R111) -/

/-- The channel's evaluation writes the channel's state and timers alone. -/
theorem State.evalCylinder_frame (s : State) : s.evalCylinder = { s with cylinder := { s.cylinder with
    state := s.evalCylinder.cylinder.state, prio := s.evalCylinder.cylinder.prio, gap := s.evalCylinder.cylinder.gap
    recovery := s.evalCylinder.cylinder.recovery } } := by
  unfold State.evalCylinder State.toIdle State.evalIdle State.startCharge
  repeat' split
  all_goals rfl

/-- The channel's evaluation moves it by its record and the sensor TC, at any moment. -/
theorem State.evalCylinder_state_congr {s t : State} (hc : t.cylinder = s.cylinder) (hb : t.boiler.tc = s.boiler.tc) :
    t.evalCylinder.cylinder.state = s.evalCylinder.cylinder.state := by
  have hwanted : t.chargeWanted = s.chargeWanted := by simp only [State.chargeWanted, hc, hb]
  have hdone : t.chargeDone = s.chargeDone := by simp only [State.chargeDone, hc, hb]
  by_cases hidle : s.cylinder.state = .idle
  · rw [State.evalCylinder_idle hidle, State.evalCylinder_idle (hc ▸ hidle), hwanted, hc]
    split <;> rfl
  · by_cases hcharging : s.cylinder.state = .charging
    · rw [State.evalCylinder_charging hcharging, State.evalCylinder_charging (hc ▸ hcharging), State.toIdle_cylinder,
        State.toIdle_cylinder, hwanted, hdone, hc]
      split
      · split <;> rfl
      · rfl
    · rw [State.evalCylinder_other hidle hcharging, State.evalCylinder_other (hc ▸ hidle) (hc ▸ hcharging), hc]

/-- What the burner's evaluation makes of the start list: a start enters it, nothing else does (R111, R112). -/
theorem State.evalBurner_startList (s : State) : s.evalBurner.boiler.startList = s.boiler.startList ∨
    s.evalBurner.boiler.startList = s.boiler.startList ++ [0] := by
  unfold State.evalBurner State.evalStart State.waitFor
  repeat' split
  all_goals first | exact .inl rfl | exact .inr rfl

/-- A waiting burner starts where the conditions, the gate and the check let it (R111). -/
theorem State.evalBurner_starts {s : State} {r : WaitReason} (hwait : s.boiler.burner = .wait r)
    (hconditions : s.startConditions = true) (hgate : (s.boiler.startList.length : Int) < s.boiler.config.startsLimit)
    (hpass : s.reportedPass = true) : s.evalBurner = s.startBurner := by
  have hopen : s.startsGate = false := decide_eq_false (Int.not_le.2 hgate)
  simp only [State.evalBurner, hwait, State.evalStart, hconditions, hopen, hpass, ↓reduceIte, Bool.false_eq_true]

/-- Reported check, pump and forcing leave the burner and its start list. -/
theorem Boiler.RestsTo.burner {b c : Boiler} (h : b.RestsTo c) : c.burner = b.burner ∧ c.startList = b.startList := by
  unfold Boiler.RestsTo at h
  rw [h]
  exact ⟨rfl, rfl⟩

/-- The state in which the evaluations reach the burner. -/
def State.beforeBurner (s : State) : State := s.evalCylinder.evalReported

/-- After the burner's evaluation the others leave it and its start list (R113). -/
theorem State.evaluate_burner {s : State} (h : s.time.ready = true) :
    s.evaluate.boiler.burner = s.beforeBurner.evalBurner.boiler.burner ∧
      s.evaluate.boiler.startList = s.beforeBurner.evalBurner.boiler.startList := by
  have hrest : s.beforeBurner.evalBurner.boiler.RestsTo s.evaluate.boiler := by
    rw [State.evaluate, if_pos h]
    exact ((State.restsTo_evalReported _).trans (State.restsTo_evalPump _)).trans (State.restsTo_evalForcing _)
  exact hrest.burner

/-- Before the burner's evaluation the channel and the result of the reported check alone are written. -/
theorem State.beforeBurner_frame (s : State) : s.beforeBurner = { s with
    cylinder := { s.cylinder with
      state := s.evalCylinder.cylinder.state, prio := s.evalCylinder.cylinder.prio, gap := s.evalCylinder.cylinder.gap
      recovery := s.evalCylinder.cylinder.recovery }
    boiler := { s.boiler with reported := s.beforeBurner.boiler.reported } } := by
  unfold State.beforeBurner
  rw [State.evalReported_eq]
  generalize (if s.evalCylinder.checkInForce = true then _ else _ : Option Bool) = r
  conv_lhs => rw [s.evalCylinder_frame]
  rfl

/-- An evaluation enters at most one start in the list (R111). -/
theorem State.evaluate_startList (s : State) : s.evaluate.boiler.startList = s.boiler.startList ∨
    s.evaluate.boiler.startList = s.boiler.startList ++ [0] := by
  cases hready : s.time.ready with
  | false => rw [State.evaluate, if_neg (by simp [hready])]; exact .inl rfl
  | true =>
    have hlist : s.beforeBurner.boiler.startList = s.boiler.startList := by rw [s.beforeBurner_frame]
    rw [(State.evaluate_burner hready).2, ← hlist]
    exact s.beforeBurner.evalBurner_startList

/-! ### The start list (R112) -/

/-- A start list whose oldest entry is in its last minute loses it with the minute (R112). -/
theorem aged_cons_of_last {a : Nat} (h : 59 ≤ a) (l : List Nat) :
    ((a :: l).map (· + 1)).filter (fun b => decide (b < 60)) = (l.map (· + 1)).filter (fun b => decide (b < 60)) := by
  rw [List.map_cons, List.filter_cons_of_neg (by simp; omega)]

/-- What a start asks for stands apart from time and clock, the timers of the channel, the start list and the result of the
reported check (R111, R120). -/
theorem State.startConditions_congr {s t : State} (h : t = { s with
    time := t.time, clock := t.clock
    cylinder := { s.cylinder with prio := t.cylinder.prio, gap := t.cylinder.gap, recovery := t.cylinder.recovery }
    boiler := { s.boiler with startList := t.boiler.startList, reported := t.boiler.reported } }) :
    t.startConditions = s.startConditions ∧ t.reportedPass = s.reportedPass := by
  rw [h]
  exact ⟨rfl, rfl⟩

/-- A burner that waits for STARTS alone, while the channel's evaluation has nothing to move (R111). -/
structure State.WaitsForStarts (s : State) : Prop where
  burner : s.boiler.burner = .wait .starts
  channel : s.evalCylinder = s
  conditions : s.startConditions = true
  pass : s.reportedPass = true

/-- Later, with a shorter list, the waiting burner fires (R111, R112). -/
theorem State.WaitsForStarts.fires {s u : State} (h : s.WaitsForStarts) {l : List Nat}
    (hu : u = { s with time := u.time, clock := u.clock, boiler := { s.boiler with startList := l } })
    (hready : u.time.ready = true) (hgate : (l.length : Int) < s.boiler.config.startsLimit) :
    u.evaluate.boiler.burner = .firing ∧ u.evaluate.boiler.startList = l ++ [0] := by
  have hstate : u.evalCylinder.cylinder.state = s.cylinder.state := by
    rw [State.evalCylinder_state_congr (s := s) (by rw [hu]) (by rw [hu]), h.channel]
  have hframe := u.beforeBurner_frame
  rw [hstate] at hframe
  obtain ⟨hburner, hlist⟩ := State.evaluate_burner hready
  generalize u.beforeBurner = v at hframe hburner hlist
  have hboiler : v.boiler = { s.boiler with startList := l, reported := v.boiler.reported } := by
    rw [hframe, hu]
  have hlater : v = { s with
      time := v.time, clock := v.clock
      cylinder := { s.cylinder with prio := v.cylinder.prio, gap := v.cylinder.gap, recovery := v.cylinder.recovery }
      boiler := { s.boiler with startList := v.boiler.startList, reported := v.boiler.reported } } := by
    rw [hframe, hu]
  obtain ⟨hconditions, hpass⟩ := State.startConditions_congr hlater
  have hstart := State.evalBurner_starts (s := v) (r := .starts) (by rw [hboiler]; exact h.burner)
    (hconditions.trans h.conditions) (by rw [hboiler]; exact hgate) (hpass.trans h.pass)
  rw [hburner, hlist, hstart, State.startBurner, hboiler]
  exact ⟨rfl, rfl⟩

/-- START_LIST_ENTRY_EXPIRY, by its three conditions (R112). -/
theorem exec_startListEntryExpiry {s : State} {a : Nat} {l : List Nat} (hl : s.boiler.startList = a :: l) :
    exec .startListEntryExpiry s = .next (if s.time.ready = true ∧ s.clock.taken.starts = false ∧ 59 ≤ a then
      (s.takeEarly { s.clock.taken with starts := true }).tickStarts else s) := by
  have hexec : exec .startListEntryExpiry s = .next (if s.time.ready then s.expireStart else s) := rfl
  rw [hexec, State.expireStart, hl, ← ite_and]
  exact congrArg _ (if_congr (by simp) rfl rfl)

theorem exec_startListEntryExpiry_nil {s : State} (hl : s.boiler.startList = []) :
    exec .startListEntryExpiry s = .next s := by
  have hexec : exec .startListEntryExpiry s = .next (if s.time.ready then s.expireStart else s) := rfl
  rw [hexec, State.expireStart, hl]
  simp

/-- The oldest start in its last minute: all age at the moment of the tick, and a start is evaluated. -/
theorem startListEntryExpiry (s : State) (a : Nat) (l : List Nat) (hl : s.boiler.startList = a :: l) :
    (s.time.ready = false ∨ s.clock.taken.starts = true ∨ a < 59 → exec .startListEntryExpiry s = .next s) ∧
     (s.time.ready = true → s.clock.taken.starts = false → 59 ≤ a → ∃ t, exec .startListEntryExpiry s = .next t ∧
       let aged := (l.map (· + 1)).filter (fun b => decide (b < 60))
       (State.SettlesTo { s with
         time := { s.time with now := max s.time.now (s.clock.minuteAt.getD s.time.now) }
         clock := { s.clock with taken := { s.clock.taken with starts := true } }
         boiler := { s.boiler with startList := aged } } t) ∧
       (t.boiler.startList = aged ∨ t.boiler.startList = aged ++ [0]) ∧
       (s.boiler.burner = .wait .starts → s.evalCylinder = s → s.startConditions = true → s.reportedPass = true →
         (aged.length : Int) < s.boiler.config.startsLimit →
         t.boiler.burner = .firing ∧ t.boiler.startList = aged ++ [0])) := by
  rw [exec_startListEntryExpiry hl]
  refine ⟨fun hstays => congrArg _ (if_neg ?_), fun hready htaken hlast => ?_⟩
  · rintro ⟨hready, htaken, hlast⟩
    rcases hstays with h | h | h
    · simp [h] at hready
    · simp [h] at htaken
    · omega
  · let u := (s.takeEarly { s.clock.taken with starts := true }).ageStarts
    have hu : u = { s with
        time := u.time, clock := u.clock
        boiler := { s.boiler with startList := (l.map (· + 1)).filter (fun b => decide (b < 60)) } } := by
      rw [← aged_cons_of_last hlast, ← hl]; rfl
    have hlist : u.boiler.startList = (l.map (· + 1)).filter (fun b => decide (b < 60)) := by rw [hu]
    have honly := u.evaluate_startList
    rw [hlist] at honly
    refine ⟨u.evaluate, congrArg _ (if_pos ⟨hready, htaken, hlast⟩), ?_, honly, fun h1 h2 h3 h4 hgate => ?_⟩
    · have haged : u = { s with
          time := { s.time with now := max s.time.now (s.clock.minuteAt.getD s.time.now) }
          clock := { s.clock with taken := { s.clock.taken with starts := true } }
          boiler := { s.boiler with startList := (l.map (· + 1)).filter (fun b => decide (b < 60)) } } := hu
      rw [← haged]
      exact u.settlesTo_evaluate
    · exact State.WaitsForStarts.fires ⟨h1, h2, h3, h4⟩ hu hready hgate

/-! ### The join list (R165) -/

theorem JoinEntry.aged_isNone (e : JoinEntry) : e.aged.isNone = true ↔ 9 ≤ e.age := by
  unfold JoinEntry.aged
  split <;> simp <;> omega

/-- JOIN_ENTRY_EXPIRY, by its three conditions on the entry it names (R165). -/
theorem exec_joinEntryExpiry (s : State) (n : Nat) : exec (.joinEntryExpiry n) s = .next (
    if s.time.ready = true ∧ s.clock.taken.joins = false ∧ (s.joinEntry n).any (fun e => decide (9 ≤ e.age)) = true then
      (s.takeEarly { s.clock.taken with joins := true }).ageJoins else s) := by
  have hexec : exec (.joinEntryExpiry n) s = .next (if s.time.ready then s.expireJoin n else s) := rfl
  rw [hexec, State.expireJoin]
  cases s.joinEntry n with
  | none => simp
  | some e =>
    dsimp only
    rw [← ite_and]
    exact congrArg _ (if_congr (by simp [e.aged_isNone]) rfl rfl)

/-- An entry number names one entry (R163). -/
theorem State.SerialInv.joinEntry_eq {s : State} (hs : s.SerialInv) {e : JoinEntry} (he : e ∈ s.bus.joins) {n : Nat}
    (hn : e.number = n) : s.joinEntry n = some e :=
  find?_of_first hs.numbers_rise he (by simp [hn]) fun f _ hf => by
    have : f.number = n := by simpa using hf
    omega

/-- An entry in its last minute: the list ages at the moment of the tick. -/
theorem joinEntryExpiry (n : Nat) (s : State) :
     (s.time.ready = false ∨ s.clock.taken.joins = true ∨ (∀ e ∈ s.bus.joins, e.number = n → e.age < 9) →
       exec (.joinEntryExpiry n) s = .next s) ∧
     (∀ e ∈ s.bus.joins, s.SerialInv → s.time.ready = true → s.clock.taken.joins = false → e.number = n → 9 ≤ e.age →
       exec (.joinEntryExpiry n) s = .next (s.takeEarly { s.clock.taken with joins := true }).ageJoins) := by
  rw [exec_joinEntryExpiry]
  refine ⟨fun hstays => congrArg _ (if_neg ?_), fun e he hs hready htaken hn hlast =>
    congrArg _ (if_pos ⟨hready, htaken, ?_⟩)⟩
  · rintro ⟨hready, htaken, hlast⟩
    rcases hstays with h | h | h
    · simp [h] at hready
    · simp [h] at htaken
    · obtain ⟨e, hfind, hage⟩ := Option.any_eq_true _ _ |>.1 hlast
      have hyoung := h e (List.mem_of_find?_eq_some hfind) (by simpa using List.find?_some hfind)
      exact absurd (of_decide_eq_true hage) (Nat.not_le.2 hyoung)
  · rw [hs.joinEntry_eq he hn]
    exact decide_eq_true hlast

/-- Settles O23, block by block. -/
theorem lastMinuteExpiries : Obligations.LastMinuteExpiries :=
  ⟨holdCountdownExpiry, ⟨startListEntryExpiry, fun _ => exec_startListEntryExpiry_nil⟩, joinEntryExpiry⟩

end Sys2Proof.Machine

/-! The button events of a room unit (R58 to R61, R69, R71). -/

namespace Sys2Proof.Machine

/-! ### A wake that takes effect (R69, R71) -/

/-- Room zones are queued in the order of a list, those that the queue holds left out (R155). -/
theorem State.foldl_announce (l : List (Fin 16)) (hl : l.Nodup) (s : State) : l.foldl State.announce s = { s with
    bus := { s.bus with announce := s.bus.announce ++ l.filter (fun z => decide (z ∉ s.bus.announce)) } } := by
  induction l generalizing s with
  | nil => simp
  | cons z l ih =>
    obtain ⟨hz, hl⟩ := List.nodup_cons.1 hl
    rw [List.foldl_cons, ih hl]
    by_cases hmem : z ∈ s.bus.announce
    · rw [State.announce_of_mem hmem, List.filter_cons_of_neg (by simpa using hmem)]
    · have hrest : l.filter (fun y => decide (y ∉ s.bus.announce ++ [z])) =
          l.filter (fun y => decide (y ∉ s.bus.announce)) :=
        List.filter_congr fun y hy => by
          have hne : y ≠ z := fun h => hz (h ▸ hy)
          simp [hne]
      have hannounce : s.announce z = { s with bus := { s.bus with announce := s.bus.announce ++ [z] } } := if_neg hmem
      rw [hannounce, List.filter_cons_of_pos (by simpa using hmem), hrest, List.append_assoc]
      rfl

theorem State.announceAll_eq (s : State) : s.announceAll = { s with bus := { s.bus with
    announce := s.bus.announce ++ rooms.filter (fun z => decide (z ∉ s.bus.announce)) } } :=
  State.foldl_announce rooms (List.nodup_finRange 16) s

/-- A PRESENCE wake that takes effect: OCCUPIED, the cause recorded, the enables as disarm_on_wake has them (R69, R71). -/
theorem State.wake_presence {s : State} (hmode : s.house.mode ≠ .occupied) (hwake : s.house.wakePresence = true)
    (address : Nat) : s.wake (.presence address) = State.resolveAll { s.raise .modeChanged with
      house := { s.house with
        mode := .occupied, countdown := none, lastCause := some (.presence address)
        wakePresence := !s.house.disarmOnWake, wakeInput := s.house.wakeInput && !s.house.disarmOnWake }
      bus := { s.bus with
        announce := s.bus.announce ++ rooms.filter (fun z => decide (z ∉ s.bus.announce)) } } := by
  have hhouse : ({ s.house with lastCause := some (.presence address) } : House).disarm (.presence address) =
      { s.house with
        lastCause := some (.presence address), wakePresence := !s.house.disarmOnWake
        wakeInput := s.house.wakeInput && !s.house.disarmOnWake } := by
    unfold House.disarm
    cases hd : s.house.disarmOnWake <;> simp [hd, hwake]
  rw [State.wake, if_pos ⟨hwake, hmode⟩, hhouse, State.changeMode, State.announceAll_eq]
  rfl

/-! ### UP, DOWN and CANCEL at a zone (R60, R61) -/

section
variable {s : State} {z : Fin 16} {address : Nat}

theorem Hold.isOwn_iff (h : Hold) (address : Nat) : h.isOwn address = true ↔
    h.origin = .device address ∧ ∃ m, h.ending = .countdown m := by
  unfold Hold.isOwn
  cases h.ending <;> simp [EndKind.isCountdown]

/-- CANCEL of an empty stack does nothing (R61). -/
theorem State.cancelTop_nil (hl : s.stackOf (roomIndex z) = []) : s.cancelTop z = s := by
  rw [State.cancelTop, hl]

/-- CANCEL retires the top hold (R61). -/
theorem State.cancelTop_cons {h : Hold} {l : List Hold} (hl : s.stackOf (roomIndex z) = h :: l) :
    s.cancelTop z = ((s.raise .holdByDevice).setStack (roomIndex z) l).resolve (roomIndex z) := by
  rw [State.cancelTop, hl]
  rfl

/-- UP and DOWN are steps of 5 (R60). -/
theorem State.pressAt_step {b : Button} (hb : b = .up ∨ b = .down) :
    s.pressAt z address b = s.step5 z address (if b = .up then 5 else -5) := by
  rcases hb with rfl | rfl <;> rfl

/-- A step of the unit's own countdown on top (R60): the holds below have other handles and stay. -/
theorem State.step5_own (hs : s.HoldInv) {h : Hold} {l : List Hold} (hl : s.stackOf (roomIndex z) = h :: l)
    (hown : h.isOwn address = true) (d : Int) : s.step5 z address d =
      ((s.raise .holdByDevice).setStack (roomIndex z) (s.stepHold z h d :: l)).resolve (roomIndex z) := by
  have hnodup := hs.stack_handles (roomIndex z)
  rw [hl, List.map_cons, List.nodup_cons] at hnodup
  have hput : s.putHold (roomIndex z) (s.stepHold z h d) = s.setStack (roomIndex z) (s.stepHold z h d :: l) := by
    have hhandle : (s.stepHold z h d).handle = h.handle := rfl
    have hbelow : l.map (fun g => if g.handle = h.handle then s.stepHold z h d else g) = l :=
      (List.map_congr_left fun g hg => if_neg fun he => hnodup.1 (List.mem_map.2 ⟨g, hg, he⟩)).trans (List.map_id l)
    rw [State.putHold, hl, List.map_cons, hhandle, hbelow, if_pos rfl]
  rw [State.step5, hl, List.head?_cons]
  dsimp only
  rw [if_pos hown, hput]
  rfl

/-- Without the unit's own countdown on top a step pushes (R60). -/
theorem State.step5_push (hown : ∀ h ∈ (s.stackOf (roomIndex z)).head?, ¬ h.isOwn address = true) (d : Int) :
    s.step5 z address d = s.pushStep z address d := by
  unfold State.step5
  split
  · next h hh => exact if_neg (hown h hh)
  · rfl

/-- The order in which two notices are raised does not show. -/
theorem State.raise_raise (s : State) (m n : Notice) : (s.raise m).raise n = (s.raise n).raise m := by
  simp only [State.raise, BitVec.or_assoc, BitVec.or_comm m.mask]

/-- A push of UP or DOWN that the pool has room for, or that displaces (R48, R60). -/
theorem State.pushStep_of_room (hlen : (s.stackOf (roomIndex z)).length ≤ 4)
    (hroom : (s.stackOf (roomIndex z)).length = 4 ∨ s.poolCount < 24) (d : Int) : s.pushStep z address d =
      State.resolve { (if (s.stackOf (roomIndex z)).length = 4 then (s.raise .holdByDevice).raise .holdDisplaced
          else s.raise .holdByDevice) with holds := {
        stack := s.holds.stack.set (roomIndex z) (s.nextHold (roomIndex z) ((s.zone z).setpoint + d)
          (.countdown (s.holdMinutes z)) (.device address) false :: (s.stackOf (roomIndex z)).take 3)
        handles := if s.newHandle = 65535 then 1 else s.newHandle + 1
        pushes := (s.holds.pushes + 1) % 4294967296 } } (roomIndex z) := by
  have hnot : ¬ s.pushRefused (roomIndex z) = true := fun h => by
    have := (s.pushRefused_iff (roomIndex z)).1 h
    omega
  rw [State.pushStep, if_neg hnot, State.push_of_le hlen]
  congr 1
  split
  · rw [State.raise_raise]; rfl
  · rfl

end

/-! ### The slot of a room unit (R151, R152) -/

/-- The state after steps 1 to 3 of R152 at the end of a room unit's slot, `q` being the last sequence taken. -/
def State.reportTaken (s : State) (i : Fin 48) (d : Device) (temp : Int) (q : Nat) : State :=
  let u := State.setDevice { (if d.state = .active then s else s.raise .deviceState) with
    time := { s.time with now := max s.time.now (s.bus.cycleStart + (78 + 38 * i.val)) }
    bus := { s.bus with answer := none, invited := false, sent := none } } i
    (some { d with misses := 0, lastTemp := some temp, state := .active, lastSeq := q })
  if d.state = .admitted then u.leaveOrder i else u

section
variable {s : State} {i : Fin 48} {d : Device}

theorem reportState_of {st : DeviceState} (hr : st ≠ .retiring) (hf : st ≠ .faulted) : reportState st = .active := by
  cases st <;> first | rfl | contradiction

theorem State.takeReading_eq (hr : d.state ≠ .retiring) (hf : d.state ≠ .faulted) (temp : Int) :
    (s.reachPart (78 + 38 * i.val)).endPart.takeReading i d temp = s.reportTaken i d temp d.lastSeq := by
  have hstate := reportState_of hr hf
  rw [State.takeReading, State.reportTaken, Device.reported3, hstate]
  by_cases hactive : d.state = .active
  · simp only [hactive, State.raiseIf]; rfl
  · have hmoves : (DeviceState.active != d.state) = true := bne_iff_ne.2 (Ne.symm hactive)
    simp only [hactive, hmoves, State.raiseIf, ↓reduceIte]
    split <;> rfl

/-- Taking a new button event writes the sequence alone (R58). -/
theorem State.reportTaken_setDevice (hr : d.state ≠ .retiring) (hf : d.state ≠ .faulted) (temp : Int) (q r : Nat) :
    (s.reportTaken i d temp q).setDevice i (some { d.reported3 temp with lastSeq := r }) = s.reportTaken i d temp r := by
  have hset : ∀ (t : State) (e f : Option Device), (t.setDevice i e).setDevice i f = t.setDevice i f := fun t e f => by
    simp [State.setDevice]
  have hleave : ∀ (t : State) (f : Option Device), (t.leaveOrder i).setDevice i f = (t.setDevice i f).leaveOrder i :=
    fun t f => rfl
  rw [State.reportTaken, State.reportTaken, Device.reported3, reportState_of hr hf]
  dsimp only
  split
  · rw [hleave, hset]
  · rw [hset]

/-- The report leaves everything but time, the slot's exchange, the registry and the notices. -/
theorem State.reportTaken_frame (temp : Int) (q : Nat) : s.reportTaken i d temp q = { s with
    time := (s.reportTaken i d temp q).time
    bus := { s.bus with answer := none, invited := false, sent := none }
    registry := (s.reportTaken i d temp q).registry
    link := (s.reportTaken i d temp q).link } := by
  unfold State.reportTaken
  dsimp only
  split <;> split <;> rfl

/-- The end of a room unit's slot with a good report: its event, and the evaluations (R151, R152). -/
theorem exec_deviceSlotEnd_unit {bytes : List Byte} {temp : Int} {b : Button} {seq : Nat} (hline : s.bus.line = .running)
    (hanswer : s.bus.answer = some i) (hd : s.device i = some d) (hkind : d.kind = .roomUnit) (hr : d.state ≠ .retiring)
    (hf : d.state ≠ .faulted) (hne : bytes ≠ []) (hcrc : crcGood bytes = true)
    (hread : readReport .roomUnit (i.val + 1) bytes.dropLast = some (.unit temp b seq)) (h0 : 0 ≤ temp) (h500 : temp ≤ 500) :
    exec (.deviceSlotEnd i (some bytes)) s = .next
      (((s.reportTaken i d temp d.lastSeq).takeButton i (d.reported3 temp) b seq).evaluateFrom s) := by
  have hgood : reception d.kind (addressOf i) (some bytes) = .good (.unit temp b seq) := by
    have hrange : tempInRange .roomUnit temp = true := decide_eq_true ⟨h0, h500⟩
    simp only [reception, hne, ↓reduceIte, hcrc, hkind, addressOf, hread, Report.temp, hrange]
  have hdevice : (s.reachPart (78 + 38 * i.val)).endPart.device i = some d := hd
  have hexec : exec (.deviceSlotEnd i (some bytes)) s = .next (if s.bus.line = .running ∧ s.bus.answer = some i then
      ((s.reachPart (78 + 38 * i.val)).endPart.takeSlot i (some bytes)).evaluateFrom s else s) := rfl
  rw [hexec, if_pos ⟨hline, hanswer⟩, State.takeSlot, hdevice]
  dsimp only
  rw [if_neg hr, hgood]
  dsimp only
  rw [State.takeReport, ← State.takeReading_eq hr hf]
  rfl

end

/-! ### Button events (R58, R59) -/

section
variable {s : State} {i : Fin 48} {d : Device} {b : Button}

/-- A new button event: the sequence is taken, and the button pressed (R58, R59). -/
theorem State.takeButton_new (hr : d.state ≠ .retiring) (hf : d.state ≠ .faulted) (temp : Int) {seq : Nat}
    (hnone : b ≠ .none) (hnew : seq ≠ d.lastSeq) :
    (s.reportTaken i d temp d.lastSeq).takeButton i (d.reported3 temp) b seq =
      (s.reportTaken i d temp seq).press d.zone (addressOf i) b := by
  have hseq : (d.reported3 temp).lastSeq = d.lastSeq := rfl
  rw [State.takeButton, hseq, if_neg (not_or.2 ⟨hnone, hnew⟩), State.reportTaken_setDevice hr hf]
  rfl

theorem State.wakesBy_iff (s : State) (b : Button) :
    s.wakesBy b = true ↔ b = .presence ∨ (s.house.mode = .vacant ∧ s.house.wakePresence = true) := by
  simp [State.wakesBy]

theorem State.press_wakes (h : s.wakesBy b = true) (zone : Option (Fin 16)) (address : Nat) :
    s.press zone address b = s.wake (.presence address) := if_pos h

theorem State.press_unbound (h : ¬ s.wakesBy b = true) (address : Nat) : s.press none address b = s := if_neg h

theorem State.press_bound (h : ¬ s.wakesBy b = true) (z : Fin 16) (address : Nat) :
    s.press (some z) address b = s.pressAt z address b := if_neg h

end

/-- What a change of holds reads lies in the records of zones and in the stacks. -/
theorem State.holdRange_congr {s t : State} (h : t.zones = s.zones) (z : Fin 17) (v : Int) :
    t.holdRange z v = s.holdRange z v := by
  simp only [State.holdRange, State.zone, h]

theorem State.newHandle_congr {s t : State} (h : t.holds = s.holds) : t.newHandle = s.newHandle := by
  simp only [State.newHandle, State.handlesInUse, h]

/-- Settles O52: the report, then the event by the sequence protocol, the wake, and the press at the unit's zone. -/
theorem buttonEvents : Obligations.ButtonEvents := by
  intro i bytes temp b seq s d hs hline hanswer hd hkind hr hf hne hcrc hread h0 h500 base gives wakes
  have hexec := exec_deviceSlotEnd_unit hline hanswer hd hkind hr hf hne hcrc hread h0 h500
  have hgives : ∀ u, (base d.lastSeq).takeButton i (d.reported3 temp) b seq = u → gives u := fun u hu =>
    ⟨u.evaluateFrom s, hu ▸ hexec, State.settlesTo_evaluateFrom u s⟩
  refine ⟨fun hold => hgives _ (if_pos hold), fun hnone hnew => ?_⟩
  have hpress : (base d.lastSeq).takeButton i (d.reported3 temp) b seq = (base seq).press d.zone (i.val + 1) b :=
    State.takeButton_new hr hf temp hnone hnew
  have hframe : base seq = { s with
      time := (base seq).time
      bus := { s.bus with answer := none, invited := false, sent := none }
      registry := (base seq).registry
      link := (base seq).link } := State.reportTaken_frame temp seq
  rw [hpress] at hgives
  generalize base seq = w at hgives hframe ⊢
  have hholds : w.holds = s.holds := by rw [hframe]
  have hzones : w.zones = s.zones := by rw [hframe]
  have hhouse : w.house = s.house := by rw [hframe]
  have hqueue : w.bus.announce = s.bus.announce := by rw [hframe]
  have hinv : w.HoldInv := by rw [hframe]; exact hs
  have hwakes : w.wakesBy b = true ↔ wakes := by rw [w.wakesBy_iff, hhouse]
  refine ⟨fun hw hidle => ?_, fun hw hmode hwake => ?_, fun hw hzone => ?_, ?_⟩
  · refine hgives _ ((State.press_wakes (hwakes.2 hw) _ _).trans (State.wake_of_not ?_))
    rw [hhouse]
    rintro ⟨hwake, hmode⟩
    rcases hidle with h | h
    · exact hmode h
    · exact Bool.noConfusion (h.symm.trans hwake)
  · refine hgives _ ((State.press_wakes (hwakes.2 hw) _ _).trans ?_)
    rw [State.wake_presence (by rw [hhouse]; exact hmode) (by rw [hhouse]; exact hwake), hhouse, hqueue]
  · refine hgives _ ?_
    rw [hzone]
    exact State.press_unbound (hw ∘ hwakes.1) _
  intro hw z hzone v stack step ending own
  have hat : ∀ u, w.pressAt z (i.val + 1) b = u → gives u := fun u hu => hgives u (by
    rw [hzone, State.press_bound (hw ∘ hwakes.1), hu])
  have hstack : w.stackOf (roomIndex z) = stack := stackOf_congr hholds _
  have hrange := State.holdRange_congr hzones (roomIndex z)
  have hrecord : w.zone z = s.zone z := by rw [State.zone, hzones, State.zone]
  have hpool : w.poolCount = s.poolCount := State.poolCount_congr hholds
  have hown : ∀ h : Hold, h.isOwn (i.val + 1) = true ↔ own h := fun h => h.isOwn_iff _
  refine ⟨fun hb hnil => ?_, fun hb h l hl => ?_, fun hb => ?_⟩
  · subst hb
    exact hat _ (State.cancelTop_nil (hstack.trans hnil))
  · subst hb
    exact hat _ (State.cancelTop_cons (hstack.trans hl))
  have hstep : ∀ u, w.step5 z (i.val + 1) step = u → gives u := fun u hu => hat u ((State.pressAt_step hb).trans hu)
  have hpush : (∀ h ∈ stack.head?, ¬ own h) → ∀ u, w.pushStep z (i.val + 1) step = u → gives u := fun hnot u hu =>
    hstep u ((State.step5_push (fun h hh => by rw [hstack] at hh; exact mt (hown h).1 (hnot h hh)) step).trans hu)
  refine ⟨fun h l hl ho => hstep _ ?_, fun hnot hlen hfull => hpush hnot _ ?_, fun hnot hroom => hpush hnot _ ?_⟩
  · rw [State.step5_own hinv (hstack.trans hl) ((hown h).2 ho), State.stepHold, hrange, State.holdMinutes, hrecord]
  · exact if_pos ((w.pushRefused_iff _).2 ⟨by rw [hstack]; exact hlen, by rw [hpool]; exact hfull⟩)
  · rw [State.pushStep_of_room (hinv.1 _) (by rw [hstack, hpool]; exact hroom), State.nextHold, hstack, hrange,
      State.holdMinutes, hrecord, hholds, State.newHandle_congr hholds]

end Sys2Proof.Machine

/-! SET MODE, the WAKE input and the return countdown (R64, R67 to R72). -/

namespace Sys2Proof.Machine

/-! ### A change of mode and the wakes that make one (R67, R69, R71) -/

/-- A house record of another mode stored and announced: MODE_CHANGED raised, and every room zone queued that the queue
does not hold; the zones are still to be resolved (R64, R67, R69). -/
def State.announceHouse (s : State) (h : House) : State :=
  { s.raise .modeChanged with
    house := h
    bus := { s.bus with announce := s.bus.announce ++ rooms.filter (fun z => decide (z ∉ s.bus.announce)) } }

/-- A change of mode announces the record with its mode and countdown, and resolves all zones (R64, R67, R69). -/
theorem State.changeMode_eq (s : State) (m : Mode) (c : Option Nat) :
    s.changeMode m c = (s.announceHouse { s.house with mode := m, countdown := c }).resolveAll := by
  rw [State.changeMode, State.announceAll_eq]
  rfl

/-- A wake that takes effect: the cause recorded and the enables disarmed, then the change to OCCUPIED (R69, R71). -/
theorem State.wake_of {s : State} {c : WakeCause} (henabled : s.house.wakeEnabled c = true)
    (hmode : s.house.mode ≠ .occupied) : s.wake c =
      (s.announceHouse { { s.house with lastCause := some c }.disarm c with
        mode := .occupied, countdown := none }).resolveAll := by
  rw [State.wake, if_pos ⟨henabled, hmode⟩, State.changeMode_eq]
  rfl

/-- A LINK wake that takes effect leaves every enable (R68, R69, R71). -/
theorem State.wake_link {s : State} (hmode : s.house.mode ≠ .occupied) : s.wake .link =
    (s.announceHouse { s.house with mode := .occupied, countdown := none, lastCause := some .link }).resolveAll :=
  State.wake_of rfl hmode

/-- After an INPUT wake the enables PRESENCE and INPUT are as disarm_on_wake has them (R71). -/
theorem House.disarm_input {h : House} (hwake : h.wakeInput = true) : h.disarm .input =
    { h with wakePresence := h.wakePresence && !h.disarmOnWake, wakeInput := !h.disarmOnWake } := by
  obtain ⟨_, _, _, _, _, disarms, _, _, _⟩ := h
  cases hwake
  cases disarms <;> simp [House.disarm]

/-- An INPUT wake that takes effect: the cause recorded, the enables as disarm_on_wake has them (R69, R71, R72). -/
theorem State.wake_input {s : State} (hwake : s.house.wakeInput = true) (hmode : s.house.mode ≠ .occupied) :
    s.wake .input = (s.announceHouse { s.house with
      mode := .occupied, countdown := none, lastCause := some .input
      wakePresence := s.house.wakePresence && !s.house.disarmOnWake
      wakeInput := !s.house.disarmOnWake }).resolveAll := by
  have hdisarm := House.disarm_input (h := { s.house with lastCause := some .input }) hwake
  rw [State.wake_of (c := .input) hwake hmode, hdisarm]

/-- The end of the return countdown with RETURN set: a RETURN wake, which leaves every enable (R70, R71). -/
theorem State.returnEnds_wakes {s : State} (hwake : s.house.wakeReturn = true) (hmode : s.house.mode ≠ .occupied) :
    s.returnEnds =
      (s.announceHouse { s.house with mode := .occupied, countdown := none, lastCause := some .return }).resolveAll := by
  rw [State.returnEnds_eq, if_pos ⟨hwake, hmode⟩, State.changeMode_eq]
  rfl

/-- The end of the return countdown with RETURN clear (R70). -/
theorem State.returnEnds_silent {s : State} (hwake : s.house.wakeReturn = false) :
    s.returnEnds = s.setHouse { s.house with countdown := none } := by
  rw [State.returnEnds_eq, if_neg fun h => Bool.false_ne_true (hwake.symm.trans h.1)]

/-! ### What events and commands share -/

/-- Evaluations settle the state that an event makes, by whatever name it has. -/
theorem State.settlesTo_evaluateFrom_of_eq {u v : State} (h : v = u) (before : State) :
    u.SettlesTo (v.evaluateFrom before) :=
  h ▸ State.settlesTo_evaluateFrom v before

/-- A command whose body accepts holds a record as its answer (R203). -/
theorem exec_answered {s t : State} {i : Instr} {body : State → State × Answer} {r : Result} {key : Word}
    {view : List Word} (ht : s.takes) (hi : exec i s = .next (s.command i body))
    (hr : body (s.received i) = (t, .record r key view)) :
    exec i s = .next (t.holding i r (keyedPayload key view 1)) := by
  rw [hi, State.command_of_takes ht, hr]; rfl

/-! ### SET MODE of SETBACK or VACANT (R67) -/

theorem countdownOf_eq (w : Word) : countdownOf w = if w = 0 then none else some w.toNat :=
  if_congr (BitVec.toNat_eq (y := 0)).symm rfl rfl

/-- SET MODE of SETBACK or VACANT (R67). -/
theorem State.setMode_enters {mode : Byte} {m : Mode} (hm : (mode = 1 ∧ m = .setback) ∨ (mode = 2 ∧ m = .vacant))
    (countdown : Word) (s : State) : s.setMode mode countdown =
      (s.enterMode m (if countdown = 0 then none else some countdown.toNat)).answerHouse := by
  rw [← countdownOf_eq]
  rcases hm with ⟨rfl, rfl⟩ | ⟨rfl, rfl⟩ <;> rfl

/-- SET MODE of the mode in force replaces the countdown alone (R67). -/
theorem State.enterMode_same {s : State} {m : Mode} (h : s.house.mode = m) (c : Option Nat) :
    s.enterMode m c = { s with house := { s.house with countdown := c } } := if_pos h

/-- SET MODE of another mode announces it, resolves all zones and evaluates (R67). -/
theorem State.enterMode_other {s : State} {m : Mode} (h : s.house.mode ≠ m) (c : Option Nat) : s.enterMode m c =
    (s.announceHouse { s.house with mode := m, countdown := c }).resolveAll.evaluateFrom s := by
  rw [State.enterMode, if_neg h, State.changeMode_eq]

/-! ### The WAKE input (R72) -/

theorem exec_wakeInputEdge (s : State) :
    exec .wakeInputEdge s = .next (if s.time.ready then (s.wake .input).evaluateFrom s else s) := rfl

/-- WAKE while READY is low, with INPUT clear, or in OCCUPIED (R69, R72). -/
theorem wakeInputEdge_idle {s : State}
    (h : s.time.ready = false ∨ s.house.wakeInput = false ∨ s.house.mode = .occupied) :
    exec .wakeInputEdge s = .next s := by
  rw [exec_wakeInputEdge]
  cases hready : s.time.ready with
  | false => rfl
  | true =>
    have hno : ¬(s.house.wakeEnabled .input = true ∧ s.house.mode ≠ .occupied) := by
      rintro ⟨hwake, hmode⟩
      rcases h with h | h | h
      · exact Bool.noConfusion (h.symm.trans hready)
      · exact Bool.noConfusion (h.symm.trans hwake)
      · exact hmode h
    rw [if_pos rfl, State.wake_of_not hno, State.evaluateFrom_self]

/-! ### The return countdown (R70) -/

/-- The House Mode Unit at the minute tick that is due (R70). -/
theorem exec_returnCountdownExpiry (s : State) : exec .returnCountdownExpiry s = .next (
    if s.time.ready = true ∧ s.clock.taken.house = false ∧ s.house.countdown = some 1 then
      (s.takeEarly { s.clock.taken with house := true }).returnEnds.evaluateFrom s else s) := by
  have hexec : exec .returnCountdownExpiry s = .next (if s.time.ready then s.expireReturn else s) := rfl
  rw [hexec, State.expireReturn, ← ite_and]

/-- Settles O24, by what may change the mode: SET MODE, the WAKE input and the return countdown. -/
theorem houseModeChanges : Obligations.HouseModeChanges := by
  refine ⟨fun mode m countdown s ht hm => ?_, fun s => wakeInputEdge_idle, fun s hready hwake hmode => ?_,
    fun s hstays => ?_, fun s hready htaken hlast hmode => ?_⟩
  · intro i c
    have hexec := exec_answered (i := i) ht rfl (State.setMode_enters hm countdown (s.received i))
    refine ⟨fun hsame => ?_, fun hother => ⟨_, _, hexec, ?_⟩⟩
    · rw [State.enterMode_same (s := s.received i) hsame] at hexec
      exact ⟨_, hexec⟩
    · rw [State.enterMode_other (s := s.received i) hother]
      refine State.settlesTo_evaluateFrom_of_eq ?_ _
      rfl
  · refine ⟨(s.wake .input).evaluateFrom s, ?_, ?_⟩
    · rw [exec_wakeInputEdge, if_pos hready]
    · refine State.settlesTo_evaluateFrom_of_eq ?_ s
      exact State.wake_input hwake hmode
  · rw [exec_returnCountdownExpiry, if_neg]
    rintro ⟨hready, htaken, hlast⟩
    rcases hstays with h | h | h
    · exact Bool.noConfusion (h.symm.trans hready)
    · exact Bool.noConfusion (h.symm.trans htaken)
    · exact h hlast
  · intro u
    have hexec : exec .returnCountdownExpiry s = .next (u.returnEnds.evaluateFrom s) := by
      rw [exec_returnCountdownExpiry, if_pos ⟨hready, htaken, hlast⟩]
      rfl
    refine ⟨fun hwake => ?_, fun hwake => ⟨u.returnEnds.evaluateFrom s, hexec, ?_⟩⟩
    · rw [hexec, State.returnEnds_silent (s := u) hwake]
      exact congrArg _ (if_pos ⟨rfl, rfl, rfl, rfl⟩)
    · refine State.settlesTo_evaluateFrom_of_eq ?_ s
      exact State.returnEnds_wakes (s := u) hwake hmode

/-! ### SET MODE of OCCUPIED (R68) -/

theorem modeOf_eq_none {b : Byte} (h : 2 < b.toNat) : modeOf b = none := by
  obtain ⟨n, hn⟩ := Nat.exists_eq_add_of_le' h
  rw [modeOf, hn]
  rfl

/-- Settles O25: the LINK wake by the mode in force, and the two refusals. -/
theorem setModeOccupied : Obligations.SetModeOccupied := by
  intro countdown s ht i
  refine ⟨fun hzero hmode => ?_, fun hzero hmode => ?_, fun hnonzero => ?_, fun mode hbig => ?_⟩
  · subst hzero
    have hidle : (s.received i).wake .link = s.received i := State.wake_of_not fun h => h.2 hmode
    have hbody : (s.received i).setMode 0 0 = (((s.received i).wake .link).evaluateFrom (s.received i)).answerHouse := rfl
    rw [hidle, State.evaluateFrom_self] at hbody
    exact ⟨_, exec_answered ht rfl hbody⟩
  · subst hzero
    refine ⟨_, _, exec_answered ht rfl rfl, State.settlesTo_evaluateFrom_of_eq ?_ _⟩
    exact State.wake_link (s := s.received i) hmode
  · have hcount : ¬countdown.toNat = 0 := fun h => hnonzero (BitVec.eq_of_toNat_eq h)
    exact exec_refused ht rfl (if_neg hcount)
  · refine exec_refused ht rfl ?_
    rw [State.setMode, modeOf_eq_none hbig]

end Sys2Proof.Machine

/-! WRITE of the house record and of the motor record (R66, R178). -/

namespace Sys2Proof.Machine

/-! ### Items and their answer (R201, R203) -/

theorem mem_itemCodes_of_carries {items : List Item} {c : Nat} (h : carries items c = true) : c ∈ itemCodes items := by
  obtain ⟨w, hw⟩ := Option.isSome_iff_exists.1 h
  obtain ⟨x, hx, -⟩ := Option.map_eq_some_iff.1 hw
  have hcode : x.code.toNat = c := beq_iff_eq.1 (List.find?_some hx :)
  exact List.mem_map.2 ⟨x, List.mem_of_find?_eq_some hx, hcode⟩

/-- A write carries none but the codes allowed (R201). -/
theorem mem_of_codesOk {allowed : List Nat} {items : List Item} (h : codesOk allowed items = true) {c : Nat}
    (hc : carries items c = true) : c ∈ allowed := by
  have hall := (Bool.and_eq_true_iff.1 h).1
  simpa using List.all_eq_true.1 hall c (mem_itemCodes_of_carries hc)

theorem enumOk_iff {items : List Item} {code n : Nat} :
    enumOk items code n = true ↔ ∀ v, itemNat items code = some v → v < n := by
  simp [enumOk, Option.all_eq_true]

/-- Of two fields written, CLAMPED says that the clamp changed one (R13). -/
theorem okOrClamped_or (items : List Item) (c d : Nat) (lo hi lo' hi' : Int) :
    okOrClamped (itemClamped items c lo hi || itemClamped items d lo' hi') =
      if (∃ v, item items c = some v ∧ (v < lo ∨ hi < v)) ∨ (∃ v, item items d = some v ∧ (v < lo' ∨ hi' < v))
        then .clamped else .ok :=
  if_congr (by rw [Bool.or_eq_true, itemClamped_iff, itemClamped_iff]) rfl rfl

/-! ### WRITE of the house record (R66) -/

/-- The checks of a WRITE of the house record: its codes, and yes or no for each enable. -/
theorem houseChecks_iff (items : List Item) :
    (codesOk houseCodes items && enumOk items 3 2 && enumOk items 4 2 && enumOk items 5 2 && enumOk items 6 2) = true ↔
      codesOk [3, 4, 5, 6, 8, 9] items = true ∧ ∀ c ∈ [3, 4, 5, 6], ∀ v, itemNat items c = some v → v < 2 := by
  simp [houseCodes, Bool.and_eq_true, enumOk_iff, and_assoc]

theorem House.store_eq (h : House) (items : List Item) : h.store items = { h with
    wakeReturn := (itemNat items 3).elim h.wakeReturn (fun v => v == 1)
    wakePresence := (itemNat items 4).elim h.wakePresence (fun v => v == 1)
    wakeInput := (itemNat items 5).elim h.wakeInput (fun v => v == 1)
    disarmOnWake := (itemNat items 6).elim h.disarmOnWake (fun v => v == 1)
    setbackOffset := (item items 8).elim h.setbackOffset (fun v => clamp v 0 100)
    vacantSetpoint := (item items 9).elim h.vacantSetpoint (fun v => clamp v 50 150) } := by
  simp only [House.store, takeFlag_elim, takeItem_elim]

/-- The state that an accepted WRITE of the house record leaves, the room zones resolved by their two fields (R66). -/
def State.houseWritten (s : State) (items : List Item) : State :=
  let t := s.setHouse (s.house.store items)
  if carries items 8 ∨ carries items 9 then t.resolveRooms.evaluateFrom s else t

theorem State.settlesTo_houseWritten (s : State) (items : List Item) :
    (if carries items 8 || carries items 9 then (s.setHouse (s.house.store items)).resolveRooms
      else s.setHouse (s.house.store items)).SettlesTo (s.houseWritten items) := by
  unfold State.houseWritten
  by_cases h : carries items 8 = true ∨ carries items 9 = true
  · rw [if_pos h, if_pos (Bool.or_eq_true_iff.2 h)]
    exact State.settlesTo_evaluateFrom _ s
  · rw [if_neg h, if_neg (mt Bool.or_eq_true_iff.1 h)]
    exact State.settlesTo_refl _

/-- WRITE of the house record: its checks, then the fields, the resolution and the answer (R66, R203). -/
theorem State.writeHouse_zero_stores {s : State} {items : List Item} (hcodes : codesOk [3, 4, 5, 6, 8, 9] items = true)
    (henums : ∀ c ∈ [3, 4, 5, 6], ∀ v, itemNat items c = some v → v < 2) : s.writeHouse 0 items =
      (s.houseWritten items, .record (okOrClamped (itemClamped items 8 0 100 || itemClamped items 9 50 150)) 0
        (s.houseWritten items).houseView) :=
  if_pos ((houseChecks_iff items).2 ⟨hcodes, henums⟩)

/-- A WRITE of the house record that fails its checks (R66, R201). -/
theorem State.writeHouse_zero_refused (s : State) {items : List Item}
    (h : ¬(codesOk [3, 4, 5, 6, 8, 9] items = true ∧ ∀ c ∈ [3, 4, 5, 6], ∀ v, itemNat items c = some v → v < 2)) :
    s.writeHouse 0 items = refuse .badValue s :=
  if_neg (mt (houseChecks_iff items).1 h)

/-! ### WRITE of the motor record (R178) -/

theorem Motor.store_eq (m : Motor) (items : List Item) : m.store items = { m with
    tokenLimit := (item items 1).elim m.tokenLimit (fun v => clamp v 1 6)
    exerciseHour := (item items 2).elim m.exerciseHour (fun v => clamp v 0 23) } := by
  simp only [Motor.store, takeItem_elim]

/-- WRITE of the motor record where the line lets it: the fields, and the answer (R178, R203). -/
theorem State.writeMotor_zero_stores {s : State} {items : List Item} (hcodes : codesOk [1, 2] items = true)
    (hfree : carries items 1 = false ∨ s.bus.line = .stopped) :
    let t : State := { s with motor := s.motor.store items }
    s.writeMotor 0 items =
      (t, .record (okOrClamped (itemClamped items 1 1 6 || itemClamped items 2 0 23)) 0 t.motorView) := by
  have hopen : ¬(carries items 1 = true ∧ s.bus.line ≠ .stopped) := by
    rintro ⟨hcarries, hline⟩
    rcases hfree with h | h
    · exact Bool.noConfusion (h.symm.trans hcarries)
    · exact hline h
  exact (if_pos hcodes).trans (if_neg hopen)

/-- Settles O26: each record's refusals, then the fields it stores. -/
theorem writeHouseAndMotor : Obligations.WriteHouseAndMotor := by
  refine ⟨⟨fun key items s ht hkey => exec_refused ht rfl (if_pos (toNat_ne_zero hkey)), fun items s ht hbad => ?_,
    fun items s ht hcodes henums => ?_⟩, fun key items s ht => ?_⟩
  · refine exec_refused ht rfl (State.writeHouse_zero_refused _ ?_)
    rintro ⟨hcodes, henums⟩
    rcases hbad with ⟨c, hc, hcarries⟩ | ⟨c, hc, v, hv, hbig⟩
    · have hforbidden : ∀ c ∈ [1, 2, 7], c ∉ [3, 4, 5, 6, 8, 9] := by decide
      exact hforbidden c hc (mem_of_codesOk hcodes hcarries)
    · exact absurd (henums c hc v hv) (Nat.not_lt.2 hbig)
  · intro i u
    have hstored : (s.received i).setHouse ((s.received i).house.store items) = u :=
      congrArg (s.received i).setHouse (s.house.store_eq items)
    have hsettles := (s.received i).settlesTo_houseWritten items
    rw [hstored] at hsettles
    rw [← okOrClamped_or]
    exact ⟨_, exec_answered ht rfl (State.writeHouse_zero_stores hcodes henums), hsettles⟩
  · intro i
    refine ⟨fun hkey => exec_refused ht rfl (if_pos (toNat_ne_zero hkey)), fun hkey hcodes => ?_,
      fun hkey hcodes hcarries hline => ?_, fun hkey hcodes hfree => ?_⟩
    all_goals subst hkey
    · exact exec_refused ht rfl (if_neg (ne_true_of_eq_false hcodes))
    · exact exec_refused ht rfl ((if_pos hcodes).trans (if_pos ⟨hcarries, hline⟩))
    · rw [← Motor.store_eq, ← okOrClamped_or]
      exact ⟨_, exec_answered ht rfl (State.writeMotor_zero_stores (s := s.received i) hcodes hfree)⟩

end Sys2Proof.Machine

/-! The demand of a zone with a temperature (R84 to R86): its terms as the model stores them, and their ranges. -/

namespace Sys2Proof.Machine

/-! ### The terms -/

theorem errorOf_eq (setpoint temp : Int) : errorOf setpoint temp = max (-100) (min 100 (setpoint - temp)) := by
  rw [errorOf, clamp_eq_max_min (by omega), min_comm]

theorem errorOf_bounds (setpoint temp : Int) : -100 ≤ errorOf setpoint temp ∧ errorOf setpoint temp ≤ 100 :=
  clamp_bounds (by omega)

/-- The integral stands where the demand is saturated and the error drives it further (R85). -/
theorem newIntegral_saturated {c : Control} {i e : Int} (h : (1000 ≤ c.kp * e + i ∧ 0 < e) ∨ (c.kp * e + i ≤ 0 ∧ e < 0)) :
    newIntegral c i e = i := if_pos h

theorem newIntegral_free {c : Control} {i e : Int} (h : ¬(1000 ≤ c.kp * e + i ∧ 0 < e)) (k : ¬(c.kp * e + i ≤ 0 ∧ e < 0)) :
    newIntegral c i e = max 0 (min 1000 (i + c.ki * e)) :=
  (if_neg (not_or.2 ⟨h, k⟩)).trans ((clamp_eq_max_min (by omega)).trans (by rw [min_comm]))

/-- Without an integral step the integral stands (R85). -/
theorem newIntegral_still {c : Control} {i e : Int} (hi : perMille i) (h : c.ki * e = 0) : newIntegral c i e = i := by
  unfold newIntegral
  dsimp only
  split
  · rfl
  · rw [h, add_zero, clamp_eq_self.2 hi]

theorem newDemand_radiator {c : Control} (h : c.emitter = .radiator) (previous e i : Int) :
    newDemand c previous e i = max 0 (min 1000 (c.kp * e + i)) := by
  simp only [newDemand, h]
  rw [clamp_eq_max_min (by omega), min_comm]

/-- A FLOOR zone's demand moves by at most 50 (R86). -/
theorem newDemand_floor {c : Control} (h : c.emitter = .floor) (previous e i : Int) : newDemand c previous e i =
    max (previous - 50) (min (previous + 50) (max 0 (min 1000 (c.kp * e + i)))) := by
  simp only [newDemand, h]
  rw [clamp_eq_max_min (by omega), clamp_eq_max_min (by omega), min_comm, min_comm (c.kp * e + i)]

/-- The proportional term has the sign of the error and stays within ±10000 (R84). -/
theorem proportional_bounds {c : Control} (hc : controlOk c) {e : Int} (he : -100 ≤ e ∧ e ≤ 100) :
    (-10000 ≤ c.kp * e ∧ c.kp * e ≤ 10000) ∧ (0 < e → 0 < c.kp * e) ∧ (e < 0 → c.kp * e < 0) := by
  obtain ⟨-, -, hlow, hhigh, -, -⟩ := hc
  have hpos : 0 < c.kp := by omega
  exact ⟨⟨by nlinarith, by nlinarith⟩, fun h => mul_pos hpos h, fun h => mul_neg_of_pos_of_neg hpos h⟩

/-- Settles O39: each term of the computation, and the saturations by the sign of the error. -/
theorem demandFromTemperature : Obligations.DemandFromTemperature := by
  intro r temp hc ⟨hi0, hi1⟩ hv c q e p u0
  have he : errorOf r.setpoint temp = e := errorOf_eq _ _
  have hbounds : -100 ≤ e ∧ e ≤ 100 := he ▸ errorOf_bounds _ _
  obtain ⟨hp, hpos, hneg⟩ := proportional_bounds hc hbounds
  have hint : q.integral = newIntegral c r.integral e := he ▸ rfl
  have hdem : q.demand = newDemand c r.previous e q.integral := he ▸ rfl
  refine ⟨hp, fun h => hint.trans (newIntegral_saturated (.inl h)), fun h => hint.trans (newIntegral_saturated (.inr h)),
    fun h k => hint.trans (newIntegral_free h k), fun h => ?_, fun h => ?_, fun h => ?_, fun h => ?_,
    fun h => hdem.trans (newDemand_radiator h _ _ _), fun h => hdem.trans (newDemand_floor h _ _ _), rfl, ?_, ?_, rfl⟩
  · exact hint.trans (newIntegral_still ⟨hi0, hi1⟩ (by rw [h, mul_zero]))
  · exact hint.trans (newIntegral_still ⟨hi0, hi1⟩ (by rw [h, zero_mul]))
  · exact ⟨hpos h, Int.add_pos_of_pos_of_nonneg (hpos h) hi0⟩
  · exact Int.add_lt_add_of_lt_of_le (hneg h) hi1
  · rw [hdem]; exact newDemand_bounds _ _ _ hv
  · rw [hint]; exact newIntegral_bounds _ _ ⟨hi0, hi1⟩

end Sys2Proof.Machine

/-! One valve under the hands of the Motor Arbiter: what a hand, stage 4 and forcing leave at a valve's record and at its
queue entry, said for one valve and then over the valves of a zone (R89 to R92, R122, R180, R187). -/

namespace Sys2Proof.Machine

/-! ### The motor queue -/

/-- No valve has two entries. -/
abbrev State.SlotsApart (s : State) : Prop := (s.motor.queue.map Entry.slot).Nodup

theorem enqueue_perm (q : List Entry) (e : Entry) : (enqueue q e).Perm (e :: q) := by
  unfold enqueue
  split
  · have hsplit : (q.filter (fun x => x.cls == .urgent) ++ q.filter (fun x => x.cls == .normal)).Perm q := by
      have hnot : (fun x : Entry => x.cls == .normal) = fun x => !(x.cls == .urgent) :=
        funext fun x => by cases x.cls <;> rfl
      rw [hnot]
      exact List.filter_append_perm _ q
    exact List.perm_middle.trans (hsplit.cons e)
  · exact List.perm_append_singleton e q

theorem slots_enqueue {q : List Entry} {e : Entry} (hq : (q.map Entry.slot).Nodup) (he : ∀ f ∈ q, f.slot ≠ e.slot) :
    ((enqueue q e).map Entry.slot).Nodup := by
  rw [((enqueue_perm q e).map Entry.slot).nodup_iff, List.map_cons, List.nodup_cons]
  refine ⟨fun h => ?_, hq⟩
  obtain ⟨f, hf, heq⟩ := List.mem_map.1 h
  exact he f hf heq

theorem slots_dequeue {q : List Entry} (i : Fin 48) (hq : (q.map Entry.slot).Nodup) : ((dequeue q i).map Entry.slot).Nodup :=
  (List.filter_sublist.map Entry.slot).nodup hq

theorem mem_retarget {q : List Entry} {i : Fin 48} {f : Entry → Entry} {e : Entry} :
    e ∈ retarget q i f ↔ ∃ g ∈ q, (if g.slot = i then f g else g) = e := by
  simp [retarget]

theorem entryOf_slot {s : State} {i : Fin 48} {e : Entry} (h : s.entryOf i = some e) : e.slot = i := by
  simpa using List.find?_some h

theorem entryOf_mem {s : State} {i : Fin 48} {e : Entry} (h : s.entryOf i = some e) : e ∈ s.motor.queue :=
  List.mem_of_find?_eq_some h

theorem entryOf_eq_none {s : State} {i : Fin 48} : s.entryOf i = none ↔ ∀ e ∈ s.motor.queue, e.slot ≠ i := by
  simp [State.entryOf]

/-- With one entry at most for each valve, a valve's entry is the one with its slot. -/
theorem entryOf_eq_some {s : State} (hs : s.SlotsApart) {i : Fin 48} {e : Entry} :
    s.entryOf i = some e ↔ e ∈ s.motor.queue ∧ e.slot = i := by
  refine ⟨fun h => ⟨entryOf_mem h, entryOf_slot h⟩, fun ⟨he, hi⟩ => ?_⟩
  cases hf : s.entryOf i with
  | none => exact absurd hi (entryOf_eq_none.1 hf e he)
  | some f =>
    have hsame : f.slot = e.slot := (entryOf_slot hf).trans hi.symm
    rw [List.inj_on_of_nodup_map hs (entryOf_mem hf) he hsame]

/-- A queue that holds a valve's entries of another gives the valve the same entry. -/
theorem entryOf_congr {s t : State} (hs : s.SlotsApart) (ht : t.SlotsApart) {i : Fin 48}
    (h : ∀ e : Entry, e.slot = i → (e ∈ t.motor.queue ↔ e ∈ s.motor.queue)) : t.entryOf i = s.entryOf i := by
  refine Option.ext fun e => ?_
  rw [entryOf_eq_some hs, entryOf_eq_some ht]
  exact and_congr_left (h e)

/-! ### A hand at one valve (R180, R187) -/

/-- The entry that a hand leaves at a valve, from the record and the entry it finds. -/
def Device.entryAfter (d : Device) (i : Fin 48) (e : Option Entry) (t : Int) (c : Class) : Option Entry :=
  if d.handable then
    match d.grant, e with
    | some _, e => e
    | none, some e =>
      match e.kind with
      | .position => if d.commanded = some t then none else some { e with target := t, cls := c }
      | .exercise => some (if c = .urgent then { e with cls := .urgent } else e)
    | none, none => if d.commanded = some t then none else some { slot := i, kind := .position, target := t, cls := c }
  else e

/-- The next target that a hand leaves at a valve. -/
def Device.nextAfter (d : Device) (t : Int) (c : Class) : Option NextTarget :=
  match d.grant with
  | some g => if d.handable then handToGrant g t c else d.next
  | none => d.next

/-- The queue that a hand leaves at a valve without a grant (R180). -/
def State.queueAfter (s : State) (d : Device) (i : Fin 48) (t : Int) (c : Class) : List Entry :=
  match s.entryOf i with
  | some e =>
    match e.kind with
    | .position => handToPosition s.motor.queue e d.commanded t c
    | .exercise => handToExercise s.motor.queue e c
  | none => handToNothing s.motor.queue i d.commanded t c

section
variable {s : State} {i : Fin 48} {d : Device}

theorem State.hand_none (h : s.device i = none) (t : Int) (c : Class) : s.hand i t c = s := by
  rw [State.hand, h]

theorem State.hand_dropped (h : s.device i = some d) (hd : d.handable = false) (t : Int) (c : Class) :
    s.hand i t c = s := by
  simp only [State.hand, h, hd, Bool.false_eq_true, ↓reduceIte]

theorem State.hand_granted (h : s.device i = some d) (hd : d.handable = true) {g : Grant} (hg : d.grant = some g) (t : Int)
    (c : Class) : s.hand i t c = s.setDevice i (some { d with next := handToGrant g t c }) := by
  simp only [State.hand, h, hd, hg, ↓reduceIte]

theorem State.hand_queued (h : s.device i = some d) (hd : d.handable = true) (hg : d.grant = none) (t : Int) (c : Class) :
    s.hand i t c = s.setQueue (s.queueAfter d i t c) := by
  unfold State.hand State.queueAfter
  rw [h]
  dsimp only
  rw [if_pos hd, hg]
  cases s.entryOf i with
  | none => rfl
  | some e => dsimp only; cases e.kind <;> rfl

/-- Another valve's entry stands in the queue after a hand as before. -/
theorem mem_queueAfter_other {t : Int} {c : Class} {e : Entry} (he : e.slot ≠ i) :
    e ∈ s.queueAfter d i t c ↔ e ∈ s.motor.queue := by
  have hretarget : ∀ (q : List Entry) (f : Entry → Entry), (∀ g, (f g).slot = g.slot) → (e ∈ retarget q i f ↔ e ∈ q) := by
    intro q f hf
    rw [mem_retarget]
    refine ⟨?_, fun h => ⟨e, h, if_neg he⟩⟩
    rintro ⟨g, hg, hge⟩
    split at hge
    · next hi => exact absurd (by rw [← hge, hf, hi]) he
    · exact hge ▸ hg
  have hnew : ∀ f : Entry, f.slot = i → e ≠ f := fun f hf h => he (h ▸ hf)
  unfold State.queueAfter
  split
  · next f hf =>
    have hslot := entryOf_slot hf
    subst hslot
    have hback : ∀ g : Entry, g.slot = f.slot → (e ∈ enqueue (dequeue s.motor.queue f.slot) g ↔ e ∈ s.motor.queue) := by
      intro g hg
      rw [mem_enqueue, mem_dequeue, or_iff_right (hnew g hg), and_iff_left he]
    split
    · unfold handToPosition
      split
      · rw [mem_dequeue, and_iff_left he]
      · split
        · exact hretarget _ _ fun _ => rfl
        · exact hback _ rfl
    · unfold handToExercise
      split
      · exact hback _ rfl
      · exact Iff.rfl
  · unfold handToNothing
    split
    · exact Iff.rfl
    · simp [mem_enqueue, hnew { slot := i, kind := .position, target := t, cls := c } rfl]

theorem slots_queueAfter (hs : s.SlotsApart) (d : Device) (i : Fin 48) (t : Int) (c : Class) :
    ((s.queueAfter d i t c).map Entry.slot).Nodup := by
  have hback : ∀ e : Entry, e.slot = i → ((enqueue (dequeue s.motor.queue i) e).map Entry.slot).Nodup := fun e he =>
    slots_enqueue (slots_dequeue i hs) fun f hf => by rw [he]; exact (mem_dequeue.1 hf).2
  unfold State.queueAfter
  split
  · next e he =>
    have hslot := entryOf_slot he
    subst hslot
    split
    · unfold handToPosition
      split
      · exact slots_dequeue _ hs
      · split
        · have hsame := map_slot_retarget s.motor.queue e.slot (f := fun x => { x with target := t }) fun _ => rfl
          rw [hsame]; exact hs
        · exact hback _ rfl
    · unfold handToExercise
      split
      · exact hback _ rfl
      · exact hs
  · next hnone =>
    unfold handToNothing
    split
    · exact hs
    · exact slots_enqueue hs (entryOf_eq_none.1 hnone)

/-- A valve's entry changed in its place is the changed one. -/
theorem mem_retarget_own (hs : s.SlotsApart) {f e : Entry} (hf : f ∈ s.motor.queue) {g : Entry → Entry}
    (hg : (g f).slot = f.slot) : (e ∈ retarget s.motor.queue f.slot g ∧ e.slot = f.slot) ↔ some (g f) = some e := by
  rw [mem_retarget, Option.some.injEq]
  constructor
  · rintro ⟨⟨k, hk, hke⟩, hi⟩
    have hki : k.slot = f.slot := by
      by_contra hne
      rw [if_neg hne] at hke
      exact hne (hke ▸ hi)
    rwa [if_pos hki, List.inj_on_of_nodup_map hs hk hf hki] at hke
  · rintro rfl
    exact ⟨⟨f, hf, if_pos rfl⟩, hg⟩

/-- The valve's own entry in the queue after a hand. -/
theorem mem_queueAfter (hs : s.SlotsApart) (hd : d.handable = true) (hg : d.grant = none) {t : Int} {c : Class} {e : Entry} :
    (e ∈ s.queueAfter d i t c ∧ e.slot = i) ↔ d.entryAfter i (s.entryOf i) t c = some e := by
  unfold State.queueAfter Device.entryAfter
  rw [if_pos hd, hg]
  cases hf : s.entryOf i with
  | none =>
    have hno := entryOf_eq_none.1 hf
    dsimp only
    unfold handToNothing
    split
    · simp only [reduceCtorEq, iff_false, not_and]
      exact hno e
    · rw [mem_enqueue, Option.some.injEq]
      constructor
      · rintro ⟨h | h, hi⟩
        · exact h.symm
        · exact absurd hi (hno e h)
      · rintro rfl
        exact ⟨.inl rfl, rfl⟩
  | some f =>
    have hslot := entryOf_slot hf
    subst hslot
    have hback : ∀ g : Entry, g.slot = f.slot →
        ((e ∈ enqueue (dequeue s.motor.queue f.slot) g ∧ e.slot = f.slot) ↔ some g = some e) := by
      intro g hgi
      rw [mem_enqueue, mem_dequeue, Option.some.injEq]
      constructor
      · rintro ⟨h | ⟨-, h⟩, hi⟩
        · exact h.symm
        · exact absurd hi h
      · rintro rfl
        exact ⟨.inl rfl, hgi⟩
    have hstays : (e ∈ s.motor.queue ∧ e.slot = f.slot) ↔ some f = some e := by
      rw [← entryOf_eq_some hs, hf]
    dsimp only
    split
    · unfold handToPosition
      split
      · simp [mem_dequeue]
      · split
        · next hc =>
          subst hc
          exact mem_retarget_own hs (entryOf_mem hf) rfl
        · exact hback _ rfl
    · unfold handToExercise
      by_cases hc : c = .urgent
      · rw [if_pos hc]
        by_cases hn : f.cls = .normal
        · rw [if_pos ⟨hc, hn⟩]; exact hback _ rfl
        · have hu : f.cls = .urgent := by cases h : f.cls <;> simp_all
          have hsame : { f with cls := .urgent } = f := by rw [← hu]
          rw [if_neg fun h => hn h.2, hsame]; exact hstays
      · rw [if_neg hc, if_neg fun h => hc h.1]; exact hstays

end

/-- A hand writes the next target of its valve's record and no other record. -/
theorem State.hand_device (s : State) (i j : Fin 48) (t : Int) (c : Class) : (s.hand i t c).device j =
    if j = i then (s.device i).map (fun d => { d with next := d.nextAfter t c }) else s.device j := by
  cases hd : s.device i with
  | none =>
    rw [State.hand_none hd]
    split
    · next h => rw [h, hd]; rfl
    · rfl
  | some d =>
    have hsame : d.nextAfter t c = d.next → (s.device j = if j = i then
        (some d).map (fun d => { d with next := d.nextAfter t c }) else s.device j) := by
      intro h
      split
      · next hj => rw [hj, hd, Option.map_some, h]
      · rfl
    cases hh : d.handable with
    | false =>
      rw [State.hand_dropped hd hh]
      exact hsame (by unfold Device.nextAfter; split <;> simp [hh])
    | true =>
      cases hg : d.grant with
      | none =>
        rw [State.hand_queued hd hh hg]
        exact hsame (by unfold Device.nextAfter; rw [hg])
      | some g =>
        have hnext : d.nextAfter t c = handToGrant g t c := by
          unfold Device.nextAfter; rw [hg]; exact if_pos hh
        rw [State.hand_granted hd hh hg, State.setDevice_device, Option.map_some, hnext]
        exact if_congr eq_comm rfl rfl

theorem State.hand_slotsApart {s : State} (hs : s.SlotsApart) (i : Fin 48) (t : Int) (c : Class) :
    (s.hand i t c).SlotsApart := by
  cases hd : s.device i with
  | none => rwa [State.hand_none hd]
  | some d =>
    cases hh : d.handable with
    | false => rwa [State.hand_dropped hd hh]
    | true =>
      cases hg : d.grant with
      | none => rw [State.hand_queued hd hh hg]; exact slots_queueAfter hs d i t c
      | some g => rw [State.hand_granted hd hh hg]; exact hs

/-- A hand leaves every other valve's entries. -/
theorem State.mem_hand_other (s : State) {i : Fin 48} {e : Entry} (he : e.slot ≠ i) (t : Int) (c : Class) :
    e ∈ (s.hand i t c).motor.queue ↔ e ∈ s.motor.queue := by
  cases hd : s.device i with
  | none => rw [State.hand_none hd]
  | some d =>
    cases hh : d.handable with
    | false => rw [State.hand_dropped hd hh]
    | true =>
      cases hg : d.grant with
      | none => rw [State.hand_queued hd hh hg]; exact mem_queueAfter_other he
      | some g => rw [State.hand_granted hd hh hg]; exact Iff.rfl

theorem State.hand_entryOf_other {s : State} (hs : s.SlotsApart) {i j : Fin 48} (hj : j ≠ i) (t : Int) (c : Class) :
    (s.hand i t c).entryOf j = s.entryOf j :=
  entryOf_congr hs (State.hand_slotsApart hs i t c) fun _ he => s.mem_hand_other (he ▸ hj) t c

/-- The entry of the valve that is handed a target. -/
theorem State.hand_entryOf {s : State} (hs : s.SlotsApart) {i : Fin 48} {d : Device} (hd : s.device i = some d) (t : Int)
    (c : Class) : (s.hand i t c).entryOf i = d.entryAfter i (s.entryOf i) t c := by
  cases hh : d.handable with
  | false =>
    rw [State.hand_dropped hd hh]
    exact (if_neg (by simp [hh])).symm
  | true =>
    cases hg : d.grant with
    | some g =>
      rw [State.hand_granted hd hh hg]
      unfold Device.entryAfter
      rw [if_pos hh, hg]
      rfl
    | none =>
      refine Option.ext fun e => ?_
      rw [entryOf_eq_some (State.hand_slotsApart hs i t c), State.hand_queued hd hh hg]
      exact mem_queueAfter hs hh hg

/-! ### Operations on one valve, and their folds over a zone's valves -/

/-- The operation reads and writes the record and the queue entry of its valve alone, as `g` gives. -/
structure ActsAt (f : State → Fin 48 → State) (g : Fin 48 → Device → Option Entry → Device × Option Entry) : Prop where
  apart : ∀ {s : State} (i : Fin 48), s.SlotsApart → (f s i).SlotsApart
  device_other : ∀ (s : State) {i j : Fin 48}, j ≠ i → (f s i).device j = s.device j
  entry_other : ∀ {s : State} {i j : Fin 48}, s.SlotsApart → j ≠ i → (f s i).entryOf j = s.entryOf j
  device : ∀ {s : State} {i : Fin 48} {d : Device}, s.device i = some d →
    (f s i).device i = some (g i d (s.entryOf i)).1
  entry : ∀ {s : State} {i : Fin 48} {d : Device}, s.SlotsApart → s.device i = some d →
    (f s i).entryOf i = (g i d (s.entryOf i)).2

section
variable {f : State → Fin 48 → State} {g : Fin 48 → Device → Option Entry → Device × Option Entry}

theorem ActsAt.foldl_apart (h : ActsAt f g) (l : List (Fin 48)) {s : State} (hs : s.SlotsApart) :
    (l.foldl f s).SlotsApart := by
  induction l generalizing s with
  | nil => exact hs
  | cons i l ih => exact ih (h.apart i hs)

/-- A valve outside the list is left alone. -/
theorem ActsAt.foldl_other (h : ActsAt f g) {l : List (Fin 48)} {i : Fin 48} (hi : i ∉ l) {s : State} (hs : s.SlotsApart) :
    (l.foldl f s).device i = s.device i ∧ (l.foldl f s).entryOf i = s.entryOf i := by
  induction l generalizing s with
  | nil => exact ⟨rfl, rfl⟩
  | cons j l ih =>
    obtain ⟨hj, hl⟩ := not_or.1 (mt List.mem_cons.2 hi)
    obtain ⟨hdevice, hentry⟩ := ih hl (h.apart j hs)
    exact ⟨hdevice.trans (h.device_other s hj), hentry.trans (h.entry_other hs hj)⟩

/-- A valve of the list is written once, as it stood before the fold. -/
theorem ActsAt.foldl_mem (h : ActsAt f g) {l : List (Fin 48)} (hl : l.Nodup) {i : Fin 48} (hi : i ∈ l) {s : State}
    (hs : s.SlotsApart) {d : Device} (hd : s.device i = some d) :
    (l.foldl f s).device i = some (g i d (s.entryOf i)).1 ∧ (l.foldl f s).entryOf i = (g i d (s.entryOf i)).2 := by
  induction l generalizing s with
  | nil => cases hi
  | cons j l ih =>
    obtain ⟨hj, hl⟩ := List.nodup_cons.1 hl
    have hs' := h.apart j hs
    by_cases hij : i = j
    · subst hij
      obtain ⟨hdevice, hentry⟩ := h.foldl_other hj hs'
      exact ⟨hdevice.trans (h.device hd), hentry.trans (h.entry hs hd)⟩
    · have hmem : i ∈ l := (List.mem_cons.1 hi).resolve_left hij
      have := ih hl hmem hs' ((h.device_other s hij).trans hd)
      rwa [h.entry_other hs hij] at this

end

/-- A record's field that the operation writes at its own valve has the written value at every valve of the list. -/
theorem foldl_field {α : Type} {f : State → Fin 48 → State} (π : Device → α) (v : α)
    (hat : ∀ s i, ((f s i).device i).map π = (s.device i).map (fun _ => v))
    (hother : ∀ s i j, j ≠ i → (f s i).device j = s.device j) (l : List (Fin 48)) (s : State) (i : Fin 48) :
    ((l.foldl f s).device i).map π = if i ∈ l then (s.device i).map (fun _ => v) else (s.device i).map π := by
  induction l generalizing s with
  | nil => simp
  | cons j l ih =>
    rw [List.foldl_cons, ih]
    by_cases hij : i = j
    · subst hij
      have hagain : ((f s i).device i).map (fun _ => v) = (s.device i).map (fun _ => v) := by
        have := congrArg (Option.map (fun _ => v)) (hat s i)
        simpa [Option.map_map, Function.comp_def] using this
      simp only [List.mem_cons, true_or, ↓reduceIte, hat, hagain, ite_self]
    · simp only [List.mem_cons, hij, false_or, hother s j i hij]

/-! ### Forcing at one valve (R92, R122) -/

theorem State.setTarget_device (s : State) (i j : Fin 48) (t : Int) : (s.setTarget i t).device j =
    if j = i then (s.device i).map (fun d => { d with target := t }) else s.device j := by
  unfold State.setTarget
  cases hd : s.device i with
  | none =>
    dsimp only
    split
    · next h => rw [h, hd]; rfl
    · rfl
  | some d =>
    rw [State.setDevice_device]
    exact if_congr eq_comm rfl rfl

theorem State.setTarget_entryOf (s : State) (i j : Fin 48) (t : Int) : (s.setTarget i t).entryOf j = s.entryOf j := by
  unfold State.setTarget; split <;> rfl

theorem State.setTarget_slotsApart {s : State} (hs : s.SlotsApart) (i : Fin 48) (t : Int) : (s.setTarget i t).SlotsApart := by
  unfold State.setTarget; split <;> exact hs

/-- A valve whose target field is written and handed (R92, R122). -/
theorem State.setAndHand_device (c : Class) (t : Int) (s : State) (i j : Fin 48) : (s.setAndHand c t i).device j =
    if j = i then (s.device i).map (fun d => { d with target := t, next := d.nextAfter t c }) else s.device j := by
  unfold State.setAndHand
  rw [State.hand_device, State.setTarget_device, if_pos rfl, State.setTarget_device]
  by_cases hj : j = i
  · rw [if_pos hj, if_pos hj, Option.map_map]; rfl
  · rw [if_neg hj, if_neg hj, if_neg hj]

/-- What writing and handing a target leaves at its valve. -/
def Device.setAndHanded (c : Class) (t : Int) (i : Fin 48) (d : Device) (e : Option Entry) : Device × Option Entry :=
  ({ d with target := t, next := d.nextAfter t c }, d.entryAfter i e t c)

theorem actsAt_setAndHand (c : Class) (t : Int) : ActsAt (State.setAndHand c t) (Device.setAndHanded c t) where
  apart i hs := State.hand_slotsApart (State.setTarget_slotsApart hs i t) i t c
  device_other s i j hj := by rw [State.setAndHand_device, if_neg hj]
  entry_other hs hj := by
    rw [State.setAndHand, State.hand_entryOf_other (State.setTarget_slotsApart hs _ t) hj, State.setTarget_entryOf]
  device hd := by rw [State.setAndHand_device, if_pos rfl, hd]; rfl
  entry {s i d} hs hd := by
    have hset : (s.setTarget i t).device i = some { d with target := t } := by
      rw [State.setTarget_device, if_pos rfl, hd]; rfl
    rw [State.setAndHand, State.hand_entryOf (State.setTarget_slotsApart hs i t) hset, State.setTarget_entryOf]
    rfl

/-! ### Stage 4 at one valve (R89 to R92) -/

/-- What stage 4 leaves at a valve: the own target as its target field, handed where R90 and R91 say so. -/
def Device.targeted (h p : Int) (i : Fin 48) (d : Device) (e : Option Entry) : Device × Option Entry :=
  if handsTarget d e h p then d.setAndHanded .normal p i e else ({ d with target := p }, e)

/-- What stage 4 leaves at a valve under forcing. -/
def Device.forced (i : Fin 48) (d : Device) (e : Option Entry) : Device × Option Entry :=
  if d.target ≠ 100 ∨ (d.commanded ≠ some 100 ∧ e = none ∧ d.grant = none) then d.setAndHanded .urgent 100 i e else (d, e)

/-- An operation that is one of two at each valve, chosen by the record and the entry. -/
theorem actsAt_choice {f f₁ f₂ : State → Fin 48 → State} {g₁ g₂ : Fin 48 → Device → Option Entry → Device × Option Entry}
    (c : Device → Option Entry → Prop) [∀ d e, Decidable (c d e)] (h₁ : ActsAt f₁ g₁) (h₂ : ActsAt f₂ g₂)
    (hnone : ∀ s i, s.device i = none → f s i = s)
    (hsome : ∀ s i d, s.device i = some d → f s i = if c d (s.entryOf i) then f₁ s i else f₂ s i) :
    ActsAt f (fun i d e => if c d e then g₁ i d e else g₂ i d e) where
  apart {s} i hs := by
    cases hd : s.device i with
    | none => rwa [hnone s i hd]
    | some d => rw [hsome s i d hd]; split; exacts [h₁.apart i hs, h₂.apart i hs]
  device_other s i j hj := by
    cases hd : s.device i with
    | none => rw [hnone s i hd]
    | some d => rw [hsome s i d hd]; split; exacts [h₁.device_other s hj, h₂.device_other s hj]
  entry_other {s i j} hs hj := by
    cases hd : s.device i with
    | none => rw [hnone s i hd]
    | some d => rw [hsome s i d hd]; split; exacts [h₁.entry_other hs hj, h₂.entry_other hs hj]
  device {s i d} hd := by
    rw [hsome s i d hd]; split; exacts [h₁.device hd, h₂.device hd]
  entry {s i d} hs hd := by
    rw [hsome s i d hd]; split; exacts [h₁.entry hs hd, h₂.entry hs hd]

theorem actsAt_setTarget (p : Int) : ActsAt (fun s i => s.setTarget i p) (fun _ d e => ({ d with target := p }, e)) where
  apart i hs := State.setTarget_slotsApart hs i p
  device_other s i j hj := by rw [State.setTarget_device, if_neg hj]
  entry_other _ _ := State.setTarget_entryOf _ _ _ _
  device hd := by rw [State.setTarget_device, if_pos rfl, hd]; rfl
  entry _ _ := State.setTarget_entryOf _ _ _ _

theorem actsAt_targetValve (h p : Int) : ActsAt (State.targetValve h p) (Device.targeted h p) :=
  actsAt_choice (fun d e => handsTarget d e h p = true) (actsAt_setAndHand .normal p) (actsAt_setTarget p)
    (fun s i hd => by rw [State.targetValve, hd]) fun s i d hd => by rw [State.targetValve, hd]; rfl

theorem actsAt_id : ActsAt (fun s _ => s) (fun _ d e => (d, e)) where
  apart _ hs := hs
  device_other _ _ _ _ := rfl
  entry_other _ _ := rfl
  device hd := hd
  entry _ _ := rfl

theorem actsAt_forceValve : ActsAt State.forceValve Device.forced :=
  actsAt_choice (fun d e => d.target ≠ 100 ∨ (d.commanded ≠ some 100 ∧ e = none ∧ d.grant = none))
    (actsAt_setAndHand .urgent 100) actsAt_id
    (fun s i hd => by rw [State.forceValve, hd]) fun s i d hd => by rw [State.forceValve, hd]

/-- Every one of these operations leaves its value as the target field of its valve. -/
theorem setAndHand_target (c : Class) (t : Int) (s : State) (i : Fin 48) :
    ((s.setAndHand c t i).device i).map Device.target = (s.device i).map (fun _ => t) := by
  rw [State.setAndHand_device, if_pos rfl, Option.map_map]; rfl

theorem targetValve_target (h p : Int) (s : State) (i : Fin 48) :
    ((s.targetValve h p i).device i).map Device.target = (s.device i).map (fun _ => p) := by
  cases hd : s.device i with
  | none => rw [State.targetValve, hd]; simp [hd]
  | some d =>
    rw [(actsAt_targetValve h p).device hd]
    unfold Device.targeted
    split <;> rfl

theorem forceValve_target (s : State) (i : Fin 48) :
    ((s.forceValve i).device i).map Device.target = (s.device i).map (fun _ => 100) := by
  cases hd : s.device i with
  | none => rw [State.forceValve, hd]; simp [hd]
  | some d =>
    rw [actsAt_forceValve.device hd]
    unfold Device.forced
    split
    · rfl
    · next h =>
      have : d.target = 100 := not_not.1 (not_or.1 h).1
      simp [this]

end Sys2Proof.Machine

/-! What the flow check reads (R120 to R122), and the evaluations in order: reported check, burner, pump and forcing, each
as an equation of the boiler block (R111, R113, R119, R121, R122). -/

namespace Sys2Proof.Machine

variable {s t u : State}

/-! ### What the flow check reads -/

/-- A device record less the fields that the flow check does not read. -/
def Device.flow (d : Device) : Device :=
  { d with
    serial := 0, lastTemp := none, misses := 0, bad := 0, lastSeq := 0, target := 0, motor := .idle, grant := none
    next := none, failureRun := 0, exerciseAge := 0, exercisePhase := .none, fresh := false }

/-- Two states are the same to the flow check on reported and on commanded positions. -/
structure SameFlow (s t : State) : Prop where
  zones : t.zones = s.zones
  channel : t.cylinder.state = s.cylinder.state
  config : t.boiler.config = s.boiler.config
  device : ∀ i : Fin 48, (t.device i).map Device.flow = (s.device i).map Device.flow

theorem SameFlow.trans (h : SameFlow s t) (k : SameFlow t u) : SameFlow s u :=
  ⟨k.zones.trans h.zones, k.channel.trans h.channel, k.config.trans h.config, fun i => (k.device i).trans (h.device i)⟩

theorem SameFlow.of_eq (hz : t.zones = s.zones) (hc : t.cylinder.state = s.cylinder.state)
    (hb : t.boiler.config = s.boiler.config) (hd : t.registry.devices = s.registry.devices) : SameFlow s t :=
  ⟨hz, hc, hb, fun i => by simp only [State.device, hd]⟩

/-- Settling that leaves the channel's state leaves the flow check. -/
theorem State.SettlesTo.sameFlow (h : s.SettlesTo t) (hc : t.cylinder.state = s.cylinder.state) : SameFlow s t := by
  refine ⟨h.zones, hc, by rw [h.1], fun i => ?_⟩
  have e : Device.flow = Device.flow ∘ Device.kept := rfl
  rw [e, ← Option.map_map, ← Option.map_map, h.2 i]

section
variable (h : SameFlow s t)
include h

theorem SameFlow.zone (z : Fin 16) : t.zone z = s.zone z := by simp only [State.zone, h.zones]

theorem SameFlow.any (f : Device → Bool) (hf : ∀ d, f d.flow = f d) (i : Fin 48) :
    (t.device i).any f = (s.device i).any f := by
  have hmap : ∀ o : Option Device, o.any f = (o.map Device.flow).any f := fun o => by
    cases o <;> simp [hf]
  rw [hmap, hmap (s.device i), h.device i]

theorem SameFlow.bind {α : Type} (f : Device → Option α) (hf : ∀ d, f d.flow = f d) (i : Fin 48) :
    (t.device i).bind f = (s.device i).bind f := by
  have hmap : ∀ o : Option Device, o.bind f = (o.map Device.flow).bind f := fun o => by
    cases o <;> simp [hf]
  rw [hmap, hmap (s.device i), h.device i]

theorem SameFlow.valvesOf (z : Fin 16) : t.valvesOf z = s.valvesOf z := by
  simp only [State.valvesOf, h.any (fun d => d.servesZone z) fun _ => rfl]

theorem SameFlow.checkInForce : t.checkInForce = s.checkInForce := by
  simp only [State.checkInForce, State.charging, h.config, h.channel]

theorem SameFlow.zoneCounted (z : Fin 16) : t.zoneCounted z = s.zoneCounted z := by
  simp only [State.zoneCounted, h.valvesOf, h.zone, h.config]

theorem SameFlow.checkHolds (positions : Fin 16 → List (Option Int)) : t.checkHolds positions = s.checkHolds positions := by
  have hweight : t.countedWeight = s.countedWeight := by
    simp only [State.countedWeight, h.zoneCounted, h.zone]
  have hopen : t.openSum positions = s.openSum positions := by
    simp only [State.openSum, h.zoneCounted, h.zone]
  rw [State.checkHolds, hweight, hopen, h.config]
  rfl

theorem SameFlow.reportedOf : t.reportedOf = s.reportedOf := by
  have hat : t.reportedAt = s.reportedAt := funext fun i => h.bind Device.reported (fun _ => rfl) i
  funext z
  simp only [State.reportedOf, h.valvesOf, hat]

theorem SameFlow.commandedOf : t.commandedOf = s.commandedOf := by
  have hat : t.commandedAt = s.commandedAt := funext fun i => h.bind Device.commanded (fun _ => rfl) i
  funext z
  simp only [State.commandedOf, h.valvesOf, h.zone, h.config, hat]

theorem SameFlow.reportedPass : t.reportedPass = s.reportedPass := by
  simp only [State.reportedPass, h.checkInForce, h.checkHolds, h.reportedOf]

theorem SameFlow.commandedPass : t.commandedPass = s.commandedPass := by
  simp only [State.commandedPass, h.checkInForce, h.checkHolds, h.commandedOf]

/-- What burner and pump read of the rooms, the channel and the outdoor sensor beside the burner itself. -/
theorem SameFlow.burnerDemand : t.burnerDemand = s.burnerDemand := by
  simp only [State.burnerDemand, State.anyCalling, State.anyZoneFrost, State.charging, h.zone, h.channel]

end

theorem mem_valvesOf {z : Fin 16} {i : Fin 48} :
    i ∈ s.valvesOf z ↔ ∃ d, s.device i = some d ∧ d.servesZone z = true := by
  simp [State.valvesOf, slots, List.mem_finRange, Option.any_eq_true]

theorem nodup_valvesOf (s : State) (z : Fin 16) : (s.valvesOf z).Nodup := (List.nodup_finRange 48).filter _

/-! ### Pump and forcing -/

theorem State.evalPump_eq (s : State) : s.evalPump = s.setBoiler { s.boiler with
    pump := if s.pumpReason then .running else if s.boiler.pump = .running then .overrun s.time.now else s.boiler.pump } := by
  have hsame : s = s.setBoiler { s.boiler with pump := s.boiler.pump } := rfl
  unfold State.evalPump
  cases hr : s.pumpReason <;> cases hp : s.boiler.pump <;> simp only [reduceCtorEq, Bool.false_eq_true, ↓reduceIte]
  all_goals rw [hp] at hsame; exact hsame

/-- A commanded check that fails is in force, so a bypass zone is configured (R120). -/
theorem bypassZone_of_fails (h : s.commandedPass = false) : ∃ z, s.boiler.config.bypassZone = some z := by
  have hforce : s.checkInForce = true := by
    by_contra hno
    simp [State.commandedPass, Bool.eq_false_iff.2 hno] at h
  simp only [State.checkInForce, Bool.and_eq_true] at hforce
  exact Option.isSome_iff_exists.1 hforce.1.1

theorem State.forcingWanted_iff (s : State) :
    s.forcingWanted = true ↔ s.boiler.pump ≠ .stopped ∧ s.commandedPass = false := by
  simp [State.forcingWanted]

theorem State.evalForcing_same (h : s.boiler.forcing = s.forcingWanted) : s.evalForcing = s := by
  unfold State.evalForcing
  cases hf : s.boiler.forcing <;> rw [hf] at h <;> simp [← h]

theorem State.evalForcing_begins (hf : s.boiler.forcing = false) (hw : s.forcingWanted = true) {z : Fin 16}
    (hz : s.boiler.config.bypassZone = some z) : s.evalForcing =
      (s.valvesOf z).foldl (State.setAndHand .urgent 100) (s.setBoiler { s.boiler with forcing := true }) := by
  simp only [State.evalForcing, hf, hw, State.beginForcing, hz, Bool.false_eq_true, ↓reduceIte]

theorem State.evalForcing_ends (hf : s.boiler.forcing = true) (hw : s.forcingWanted = false) : s.evalForcing = s.endForcing := by
  simp only [State.evalForcing, hf, hw, Bool.false_eq_true, ↓reduceIte]

theorem State.endForcing_zone {z : Fin 16} (hz : s.boiler.config.bypassZone = some z) : s.endForcing =
    (s.valvesOf z).foldl (State.setAndHand .normal (s.zone z).ownTarget) (s.setBoiler { s.boiler with forcing := false }) := by
  simp only [State.endForcing, hz]

/-- Forcing is in force after its evaluation exactly where the commanded check calls for it (R122). -/
theorem State.evalForcing_boiler (s : State) : s.evalForcing.boiler = { s.boiler with forcing := s.forcingWanted } := by
  by_cases h : s.boiler.forcing = s.forcingWanted
  · rw [State.evalForcing_same h, ← h]
  · cases hf : s.boiler.forcing with
    | true =>
      have hw : s.forcingWanted = false := by simpa [hf] using Ne.symm h
      rw [State.evalForcing_ends hf hw, s.endForcing_boiler, hw]
    | false =>
      have hw : s.forcingWanted = true := by simpa [hf] using Ne.symm h
      obtain ⟨z, hz⟩ := bypassZone_of_fails ((s.forcingWanted_iff).1 hw).2
      rw [State.evalForcing_begins hf hw hz, State.setAndHands_boiler, hw]
      rfl

theorem State.sameFlow_evalForcing (s : State) : SameFlow s s.evalForcing :=
  s.settlesTo_evalForcing.sameFlow (by rw [s.evalForcing_cylinder])

/-! ### The evaluations in order -/

theorem State.sameFlow_evalReported (s : State) : SameFlow s s.evalReported :=
  s.settlesTo_evalReported.sameFlow (by rw [s.evalReported_cylinder])

theorem State.sameFlow_evalBurner (s : State) : SameFlow s s.evalBurner :=
  s.settlesTo_evalBurner.sameFlow (by rw [s.evalBurner_cylinder])

theorem State.sameFlow_evalPump (s : State) : SameFlow s s.evalPump :=
  s.settlesTo_evalPump.sameFlow (by rw [s.evalPump_cylinder])

/-- The state in which the evaluations reach the pump. -/
def State.beforePump (s : State) : State := s.beforeBurner.evalBurner.evalReported

theorem State.evaluate_eq (h : s.time.ready = true) : s.evaluate = s.beforePump.evalPump.evalForcing := if_pos h

theorem State.evaluate_low (h : s.time.ready = false) : s.evaluate = s := if_neg (by simp [h])

/-- The flow check stands from the channel's evaluation on. -/
theorem State.sameFlow_beforePump (s : State) : SameFlow s.evalCylinder s.beforePump :=
  ((State.sameFlow_evalReported _).trans (State.sameFlow_evalBurner _)).trans (State.sameFlow_evalReported _)

theorem State.sameFlow_pumped (s : State) : SameFlow s.beforePump s.beforePump.evalPump.evalForcing :=
  (State.sameFlow_evalPump _).trans (State.sameFlow_evalForcing _)

end Sys2Proof.Machine

/-! The minimum flow path (R92, R122) and the result of the reported check (R121): what an evaluation makes of both, and
the relation `Flow` that carries them over an event. -/

namespace Sys2Proof.Machine

variable {s t u : State}

/-! ### The valves of a zone -/

/-- Every counted valve of the zone meets `P`. -/
def State.ValvesMeet (s : State) (z : Fin 16) (P : Fin 48 → Device → Prop) : Prop :=
  ∀ (i : Fin 48) (d : Device), s.device i = some d → d.servesZone z = true → P i d

theorem State.forcedOpen_iff (s : State) :
    s.forcedOpen ↔ ∃ z, s.boiler.config.bypassZone = some z ∧ s.ValvesMeet z (fun _ d => d.target = 100) := by
  have hall : ∀ z, (s.valvesOf z).all (fun i => (s.device i).any (fun d => d.target == 100)) = true ↔
      s.ValvesMeet z (fun _ d => d.target = 100) := by
    intro z
    rw [List.all_eq_true]
    constructor
    · intro h i d hd hz
      have := h i (mem_valvesOf.2 ⟨d, hd, hz⟩)
      simpa [hd] using this
    · intro h i hi
      obtain ⟨d, hd, hz⟩ := mem_valvesOf.1 hi
      simp [hd, h i d hd hz]
  simp only [State.forcedOpen, Option.any_eq_true, hall]

/-- A record that settling leaves stood there before, but for target and next target. -/
theorem State.SettlesTo.device_back (h : s.SettlesTo t) {i : Fin 48} {d : Device} (hd : t.device i = some d) :
    ∃ e, s.device i = some e ∧ e.kept = d.kept := by
  have hsame := h.2 i
  rw [hd] at hsame
  simpa using hsame.symm

/-- What forcing and stage 4 read of a record beside its target fields. -/
theorem Device.fields_of_kept {d e : Device} (h : e.kept = d.kept) : e.grant = d.grant ∧ e.commanded = d.commanded ∧
    (∀ z, e.servesZone z = d.servesZone z) ∧ e.handable = d.handable := by
  have hfields : ∀ a : Device, a.kept.grant = a.grant ∧ a.kept.commanded = a.commanded ∧
      (∀ z, a.kept.servesZone z = a.servesZone z) ∧ a.kept.handable = a.handable :=
    fun _ => ⟨rfl, rfl, fun _ => rfl, rfl⟩
  obtain ⟨hg, hc, hz, hh⟩ := hfields e
  rw [h] at hg hc hz hh
  obtain ⟨kg, kc, kz, kh⟩ := hfields d
  exact ⟨hg.symm.trans kg, hc.symm.trans kc, fun z => (hz z).symm.trans (kz z), hh.symm.trans kh⟩

theorem Device.handable_of_serves {d : Device} {z : Fin 16} (h : d.servesZone z = true) : d.handable = true := by
  simp only [Device.servesZone, Bool.and_eq_true] at h
  obtain ⟨⟨⟨hk, -⟩, hf⟩, hr⟩ := h
  simp [Device.handable, hk, hf, hr]

/-- An operation over the valves of a zone leaves the value it writes as their target. -/
theorem foldl_valves_target {f : State → Fin 48 → State} {v : Int}
    (hat : ∀ s i, ((f s i).device i).map Device.target = (s.device i).map (fun _ => v))
    (hother : ∀ s i j, j ≠ i → (f s i).device j = s.device j) (hkept : ∀ (s : State) (i : Fin 48), s.SettlesTo (f s i)) (s : State)
    (z : Fin 16) : ((s.valvesOf z).foldl f s).ValvesMeet z (fun _ d => d.target = v) := by
  intro i d hd hz
  obtain ⟨e, he, hde⟩ := (State.settlesTo_foldl hkept (s.valvesOf z) s).device_back hd
  obtain ⟨-, -, hzone, -⟩ := Device.fields_of_kept hde
  have hserves : e.servesZone z = true := (hzone z).trans hz
  have := foldl_field Device.target v hat hother (s.valvesOf z) s i
  rw [if_pos (mem_valvesOf.2 ⟨e, he, hserves⟩), hd, he] at this
  simpa using this

/-! ### What a hand of class URGENT leaves in the queue -/

/-- The valve has an URGENT entry, of a POSITION run with this target. -/
def State.UrgentEntry (s : State) (i : Fin 48) (t : Int) : Prop :=
  ∃ e ∈ s.motor.queue, e.slot = i ∧ e.cls = .urgent ∧ (e.kind = .position → e.target = t)

theorem hand_urgentEntry {i : Fin 48} {d : Device} (hd : s.device i = some d) (hh : d.handable = true)
    (hg : d.grant = none) {t : Int} (hc : d.commanded ≠ some t) : (s.hand i t .urgent).UrgentEntry i t := by
  rw [State.hand_queued hd hh hg]
  change ∃ e ∈ s.queueAfter d i t .urgent, _
  unfold State.queueAfter
  split
  · next e he =>
    have hslot := entryOf_slot he
    have hmem := entryOf_mem he
    split
    · next hk =>
      unfold handToPosition
      rw [if_neg hc]
      split
      · next hu => exact ⟨_, mem_retarget.2 ⟨e, hmem, if_pos rfl⟩, hslot, hu, fun _ => rfl⟩
      · exact ⟨_, mem_enqueue.2 (.inl rfl), hslot, rfl, fun _ => rfl⟩
    · next hk =>
      unfold handToExercise
      split
      · exact ⟨_, mem_enqueue.2 (.inl rfl), hslot, rfl, fun h => by simp [hk] at h⟩
      · next hn =>
        have hu : e.cls = .urgent := by cases h : e.cls <;> simp_all
        exact ⟨e, hmem, hslot, hu, fun h => by simp [hk] at h⟩
  · unfold handToNothing
    rw [if_neg hc]
    exact ⟨_, mem_enqueue.2 (.inl rfl), rfl, rfl, fun _ => rfl⟩

theorem State.UrgentEntry.setAndHand_other {i j : Fin 48} {t : Int} (h : s.UrgentEntry i t) (hij : i ≠ j) (c : Class) (p : Int) :
    (s.setAndHand c p j).UrgentEntry i t := by
  obtain ⟨e, he, hslot, hrest⟩ := h
  have hset : (s.setTarget j p).motor.queue = s.motor.queue := by unfold State.setTarget; split <;> rfl
  exact ⟨e, (State.mem_hand_other _ (by rw [hslot]; exact hij) p c).2 (hset ▸ he), hslot, hrest⟩

/-- Every valve that is set and handed URGENT and neither holds a grant nor stands at the target has its entry. -/
theorem foldl_urgentEntry {l : List (Fin 48)} (hl : l.Nodup) {i : Fin 48} (hi : i ∈ l) {d : Device}
    (hd : s.device i = some d) (hh : d.handable = true) (hg : d.grant = none) {t : Int} (hc : d.commanded ≠ some t) :
    (l.foldl (State.setAndHand .urgent t) s).UrgentEntry i t := by
  have hlater : ∀ (l : List (Fin 48)) (s : State), i ∉ l → s.UrgentEntry i t →
      (l.foldl (State.setAndHand .urgent t) s).UrgentEntry i t := by
    intro l
    induction l with
    | nil => exact fun _ _ h => h
    | cons j l ih =>
      intro s hi h
      obtain ⟨hj, hl⟩ := not_or.1 (mt List.mem_cons.2 hi)
      exact ih _ hl (h.setAndHand_other hj _ _)
  induction l generalizing s with
  | nil => cases hi
  | cons j l ih =>
    obtain ⟨hj, hl⟩ := List.nodup_cons.1 hl
    by_cases hij : i = j
    · subst hij
      have hset : (s.setTarget i t).device i = some { d with target := t } := by
        rw [State.setTarget_device, if_pos rfl, hd]; rfl
      exact hlater l _ hj (hand_urgentEntry hset hh hg hc)
    · exact ih hl ((List.mem_cons.1 hi).resolve_left hij) (((actsAt_setAndHand _ _).device_other s hij).trans hd)

/-! ### What forcing leaves -/

/-- A valve under forcing: open, and on its way where it holds no grant and does not stand open (R92, R122). -/
def State.Opened (s : State) (i : Fin 48) (d : Device) : Prop :=
  d.target = 100 ∧ (d.grant = none → d.commanded ≠ some 100 → s.UrgentEntry i 100)

/-- Forcing that is in force has opened the valves of its zone. -/
def State.Urged (s : State) : Prop :=
  s.boiler.forcing = true → ∀ z, s.boiler.config.bypassZone = some z → s.ValvesMeet z s.Opened

/-- Where forcing is not in force the valves of a zone have its own target. -/
def State.ReturnedTo (s : State) (b : Option (Fin 16)) : Prop :=
  s.boiler.forcing = false → ∀ z, b = some z → s.ValvesMeet z (fun _ d => d.target = (s.zone z).ownTarget)

/-- Forcing in force holds the valves of its zone open. -/
def State.ForcedInv (s : State) : Prop := s.boiler.forcing = true → s.forcedOpen

/-- The pump is STOPPED while READY is low. -/
def State.PumpLow (s : State) : Prop := s.time.ready = false → s.boiler.pump = .stopped

/-- While the pump runs the commanded check passes or forcing is in force. -/
def State.PathOpen (s : State) : Prop := s.boiler.pump ≠ .stopped → s.commandedPass = true ∨ s.boiler.forcing = true

theorem State.bypassInv_iff (s : State) : s.BypassInv ↔ s.ForcedInv ∧ s.PumpLow ∧ s.PathOpen := Iff.rfl

theorem urged_beginForcing {z : Fin 16} (hz : s.boiler.config.bypassZone = some z) : State.Urged
    ((s.valvesOf z).foldl (State.setAndHand .urgent 100) (s.setBoiler { s.boiler with forcing := true })) := by
  intro _ y hy i d hd hserves
  rw [State.setAndHands_boiler] at hy
  obtain rfl : z = y := Option.some.inj (hz.symm.trans hy)
  let v := s.setBoiler { s.boiler with forcing := true }
  have hsettles := State.settlesTo_foldl (State.settlesTo_setAndHand .urgent 100) (s.valvesOf z) v
  obtain ⟨e, he, hde⟩ := hsettles.device_back hd
  obtain ⟨hgrant, hcommanded, hzone, hhand⟩ := Device.fields_of_kept hde
  refine ⟨foldl_valves_target (setAndHand_target .urgent 100) (fun s i j => (actsAt_setAndHand _ _).device_other s)
    (State.settlesTo_setAndHand .urgent 100) v z i d hd hserves, fun hg hc => ?_⟩
  exact foldl_urgentEntry (nodup_valvesOf s z) (mem_valvesOf.2 ⟨e, he, (hzone z).trans hserves⟩) he
    (hhand.trans (Device.handable_of_serves hserves)) (hgrant.trans hg) (hcommanded ▸ hc)

theorem returned_endForcing {z : Fin 16} (hz : s.boiler.config.bypassZone = some z) :
    s.endForcing.ReturnedTo (some z) := by
  intro _ y hy i d hd hserves
  obtain rfl : z = y := Option.some.inj hy
  have hown : s.endForcing.zone z = s.zone z := by simp only [State.zone, s.settlesTo_endForcing.zones]
  rw [hown]
  rw [State.endForcing_zone hz] at hd
  exact foldl_valves_target (setAndHand_target .normal _) (fun s i j => (actsAt_setAndHand _ _).device_other s)
    (State.settlesTo_setAndHand .normal _) (s.setBoiler { s.boiler with forcing := false }) z i d hd hserves

/-- The three ways of an evaluation of forcing (R122). -/
theorem State.evalForcing_cases (s : State) :
    (s.boiler.forcing = s.forcingWanted ∧ s.evalForcing = s) ∨
    (s.boiler.forcing = false ∧ s.evalForcing.boiler.forcing = true ∧ s.evalForcing.Urged) ∨
    (s.boiler.forcing = true ∧ s.evalForcing.boiler.forcing = false ∧
      s.evalForcing.ReturnedTo s.boiler.config.bypassZone) := by
  have hafter : s.evalForcing.boiler.forcing = s.forcingWanted := by rw [s.evalForcing_boiler]
  by_cases h : s.boiler.forcing = s.forcingWanted
  · exact .inl ⟨h, State.evalForcing_same h⟩
  · cases hf : s.boiler.forcing with
    | false =>
      have hw : s.forcingWanted = true := by simpa [hf] using Ne.symm h
      obtain ⟨z, hz⟩ := bypassZone_of_fails (s.forcingWanted_iff.1 hw).2
      refine .inr (.inl ⟨rfl, hafter.trans hw, ?_⟩)
      rw [State.evalForcing_begins hf hw hz]
      exact urged_beginForcing hz
    | true =>
      have hw : s.forcingWanted = false := by simpa [hf] using Ne.symm h
      refine .inr (.inr ⟨rfl, hafter.trans hw, ?_⟩)
      rw [State.evalForcing_ends hf hw]
      intro hoff z hz
      exact returned_endForcing hz hoff z rfl

theorem State.Urged.forcedOpen (h : s.Urged) (hf : s.boiler.forcing = true) {z : Fin 16}
    (hz : s.boiler.config.bypassZone = some z) : s.forcedOpen :=
  s.forcedOpen_iff.2 ⟨z, hz, fun i d hd hserves => (h hf z hz i d hd hserves).1⟩

/-! ### What stays as it is until forcing is evaluated -/

/-- The event has written neither records nor motor queue, nor forcing or what it reads of the zones. -/
structure Quiet (s t : State) : Prop where
  ready : t.time.ready = s.time.ready
  devices : t.registry.devices = s.registry.devices
  queue : t.motor.queue = s.motor.queue
  own : ∀ z, (t.zone z).ownTarget = (s.zone z).ownTarget
  bypass : t.boiler.config.bypassZone = s.boiler.config.bypassZone
  forcing : t.boiler.forcing = s.boiler.forcing
  low : s.PumpLow → t.PumpLow

theorem Quiet.refl (s : State) : Quiet s s := ⟨rfl, rfl, rfl, fun _ => rfl, rfl, rfl, id⟩

theorem Quiet.trans (h : Quiet s t) (k : Quiet t u) : Quiet s u :=
  ⟨k.ready.trans h.ready, k.devices.trans h.devices, k.queue.trans h.queue, fun z => (k.own z).trans (h.own z),
    k.bypass.trans h.bypass, k.forcing.trans h.forcing, k.low ∘ h.low⟩

theorem Quiet.ite {c : Prop} [Decidable c] (h : c → Quiet s t) (k : ¬ c → Quiet s u) : Quiet s (if c then t else u) := by
  split
  · next hc => exact h hc
  · next hc => exact k hc

theorem Quiet.valvesMeet (h : Quiet s t) (z : Fin 16) (P : Fin 48 → Device → Prop) :
    t.ValvesMeet z P ↔ s.ValvesMeet z P := by
  simp only [State.ValvesMeet, State.device, h.devices]

theorem Quiet.returnedTo (h : Quiet s t) {b : Option (Fin 16)} (hs : s.ReturnedTo b) : t.ReturnedTo b := by
  intro hf z hz
  simp only [h.own]
  exact (h.valvesMeet z _).2 (hs (h.forcing ▸ hf) z hz)

/-- What an event keeps up to its last evaluation, however many it has. -/
structure Preserves (s t : State) : Prop where
  forced : s.ForcedInv → t.ForcedInv
  low : s.PumpLow → t.PumpLow
  urged : s.Urged → t.Urged
  returned : s.ReturnedTo s.boiler.config.bypassZone → t.ReturnedTo t.boiler.config.bypassZone
  bypass : t.boiler.config.bypassZone = s.boiler.config.bypassZone

theorem Preserves.trans (h : Preserves s t) (k : Preserves t u) : Preserves s u :=
  ⟨k.forced ∘ h.forced, k.low ∘ h.low, k.urged ∘ h.urged, k.returned ∘ h.returned, k.bypass.trans h.bypass⟩

theorem Quiet.preserves (h : Quiet s t) : Preserves s t where
  forced hs hf := by
    obtain ⟨z, hz, hmeet⟩ := s.forcedOpen_iff.1 (hs (h.forcing ▸ hf))
    exact t.forcedOpen_iff.2 ⟨z, h.bypass.trans hz, (h.valvesMeet z _).2 hmeet⟩
  low := h.low
  urged hs hf z hz := by
    have hmeet := hs (h.forcing ▸ hf) z (h.bypass ▸ hz)
    refine (h.valvesMeet z _).2 fun i d hd hserves => ?_
    obtain ⟨htarget, hentry⟩ := hmeet i d hd hserves
    refine ⟨htarget, fun hg hc => ?_⟩
    rw [State.UrgentEntry, h.queue]
    exact hentry hg hc
  returned hs := h.bypass ▸ h.returnedTo hs
  bypass := h.bypass

theorem preserves_evalForcing (s : State) : Preserves s s.evalForcing := by
  have hboiler := s.evalForcing_boiler
  have hbypass : s.evalForcing.boiler.config.bypassZone = s.boiler.config.bypassZone := by rw [hboiler]
  have hlow : s.PumpLow → s.evalForcing.PumpLow := by
    simp only [State.PumpLow, hboiler, s.settlesTo_evalForcing.time]; exact id
  rcases s.evalForcing_cases with ⟨-, hsame⟩ | ⟨hoff, hon, hurged⟩ | ⟨hon, hoff, hreturned⟩
  · rw [hsame]; exact (Quiet.refl s).preserves
  · refine ⟨fun _ _ => ?_, hlow, fun _ => hurged, fun _ h => ?_, hbypass⟩
    · have hwanted : s.forcingWanted = true := by rw [hboiler] at hon; exact hon
      obtain ⟨z, hz⟩ := bypassZone_of_fails (s.forcingWanted_iff.1 hwanted).2
      exact hurged.forcedOpen hon (hbypass.trans hz)
    · rw [hon] at h; cases h
  · refine ⟨fun _ h => ?_, hlow, fun _ h => ?_, fun _ => hbypass ▸ hreturned, hbypass⟩
    · rw [hoff] at h; cases h
    · rw [hoff] at h; cases h

/-! ### An evaluation -/

/-- The burner's evaluation writes the burner, its timers and the start list. -/
theorem State.evalBurner_eq (s : State) : s.evalBurner = s.setBoiler { s.boiler with
    burner := s.evalBurner.boiler.burner, lastStop := s.evalBurner.boiler.lastStop
    minOn := s.evalBurner.boiler.minOn, waitFlow := s.evalBurner.boiler.waitFlow
    recovery := s.evalBurner.boiler.recovery, startList := s.evalBurner.boiler.startList } := by
  unfold State.evalBurner State.evalStart State.waitFor
  repeat' split
  all_goals rfl

theorem quiet_setBoiler {b : Boiler} (hc : b.config.bypassZone = s.boiler.config.bypassZone) (hf : b.forcing = s.boiler.forcing)
    (hp : s.time.ready = false → b.pump = s.boiler.pump) : Quiet s (s.setBoiler b) :=
  ⟨rfl, rfl, rfl, fun _ => rfl, hc, hf, fun h hr => (hp hr).trans (h hr)⟩

theorem quiet_evalCylinder (s : State) : Quiet s s.evalCylinder := by
  rw [s.evalCylinder_frame]
  exact ⟨rfl, rfl, rfl, fun _ => rfl, rfl, rfl, id⟩

theorem quiet_evalReported (s : State) : Quiet s s.evalReported := by
  rw [s.evalReported_eq]
  exact quiet_setBoiler rfl rfl fun _ => rfl

theorem quiet_evalBurner (s : State) : Quiet s s.evalBurner := by
  rw [s.evalBurner_eq]
  exact quiet_setBoiler rfl rfl fun _ => rfl

theorem quiet_beforePump (s : State) : Quiet s s.beforePump :=
  (((quiet_evalCylinder s).trans (quiet_evalReported _)).trans (quiet_evalBurner _)).trans (quiet_evalReported _)

theorem State.beforePump_time (s : State) : s.beforePump.time = s.time := by
  have h := ((s.settlesTo_evalCylinder.trans (State.settlesTo_evalReported _)).trans (State.settlesTo_evalBurner _)).trans
    (State.settlesTo_evalReported _)
  exact h.time

theorem quiet_evalPump (h : s.time.ready = true) : Quiet s s.evalPump := by
  rw [s.evalPump_eq]
  exact quiet_setBoiler rfl rfl fun hr => by simp [h] at hr

theorem quiet_pumped (h : s.time.ready = true) : Quiet s s.beforePump.evalPump :=
  (quiet_beforePump s).trans (quiet_evalPump (by rw [s.beforePump_time]; exact h))

theorem preserves_evaluate (s : State) : Preserves s s.evaluate := by
  cases h : s.time.ready with
  | false => rw [State.evaluate_low h]; exact (Quiet.refl s).preserves
  | true => rw [State.evaluate_eq h]; exact (quiet_pumped h).preserves.trans (preserves_evalForcing _)

/-- After an evaluation the path is open: forcing follows the commanded check (R122). -/
theorem pathOpen_evaluate (hs : s.evaluate.PumpLow) : s.evaluate.PathOpen := by
  cases h : s.time.ready with
  | false => rw [State.evaluate_low h] at hs ⊢; exact fun hp => absurd (hs h) hp
  | true =>
    rw [State.evaluate_eq h]
    generalize s.beforePump.evalPump = v
    intro hp
    have hboiler := v.evalForcing_boiler
    have hpump : v.boiler.pump ≠ .stopped := by rw [hboiler] at hp; exact hp
    rw [v.sameFlow_evalForcing.commandedPass, hboiler]
    cases hpass : v.commandedPass with
    | true => exact .inl rfl
    | false => exact .inr (v.forcingWanted_iff.2 ⟨hpump, hpass⟩)

/-- The result of the reported check after an evaluation (R121). -/
theorem State.evaluate_reported (h : s.time.ready = true) : s.evaluate.boiler.reported =
    if s.evaluate.checkInForce then
      (if s.evaluate.boiler.burner = .firing ∧ s.beforeBurner.evalBurner.boiler.reported.isSome then
        s.beforeBurner.evalBurner.boiler.reported else some (s.evaluate.checkHolds s.evaluate.reportedOf)) else none := by
  have hflow : SameFlow s.beforeBurner.evalBurner s.evaluate := by
    rw [State.evaluate_eq h]
    exact (State.sameFlow_evalReported _).trans s.sameFlow_pumped
  have hburner := (State.evaluate_burner h).1
  have hreported : s.evaluate.boiler.reported = s.beforePump.boiler.reported := by
    rw [State.evaluate_eq h, State.evalForcing_boiler, State.evalPump_eq]; rfl
  rw [hreported, hflow.checkInForce, hburner, hflow.checkHolds, hflow.reportedOf, State.beforePump, State.evalReported_eq]
  rfl

/-- After an evaluation the result of the reported check is that of the positions as they stand (R121). -/
theorem reportedInv_evaluate (s : State) : s.evaluate.ReportedInv := by
  intro hr hb
  have hready : s.time.ready = true := by rwa [s.settlesTo_evaluate.time] at hr
  simp only [State.evaluate_reported hready, hb, false_and, ↓reduceIte]

/-! ### The relation of an event -/

/-- What an event does to the minimum flow path and to the result of the reported check: both invariants are kept,
forcing that begins has opened its valves, and forcing that ends, other than by what `p` leaves out, has given them back
their own target. -/
structure Flow (p : Prop) (s t : State) : Prop where
  bypass : s.BypassInv → t.BypassInv
  reported : s.ReportedInv → t.ReportedInv
  begins : s.boiler.forcing = false → t.Urged
  ends : p → s.boiler.forcing = true → t.ReturnedTo s.boiler.config.bypassZone

/-- The event has written none of the blocks that path, check and forcing read. -/
structure Beside (s t : State) : Prop where
  ready : t.time.ready = s.time.ready
  zones : t.zones = s.zones
  cylinder : t.cylinder = s.cylinder
  boiler : t.boiler = s.boiler
  devices : t.registry.devices = s.registry.devices
  queue : t.motor.queue = s.motor.queue

/-- The event has left what path and check read: device records as far as they read them, and forcing. -/
structure LeavesFlow (s t : State) : Prop extends SameFlow s t where
  ready : t.time.ready = s.time.ready
  burner : t.boiler.burner = s.boiler.burner
  pump : t.boiler.pump = s.boiler.pump
  forcing : t.boiler.forcing = s.boiler.forcing
  reported : t.boiler.reported = s.boiler.reported
  target : ∀ i : Fin 48, (t.device i).map Device.target = (s.device i).map Device.target

variable {p : Prop}

theorem Beside.quiet (h : Beside s t) : Quiet s t :=
  ⟨h.ready, h.devices, h.queue, fun z => by simp only [State.zone, h.zones], by rw [h.boiler], by rw [h.boiler],
    fun hs hr => by rw [h.boiler]; exact hs (h.ready ▸ hr)⟩

theorem Beside.leavesFlow (h : Beside s t) : LeavesFlow s t where
  toSameFlow := SameFlow.of_eq h.zones (by rw [h.cylinder]) (by rw [h.boiler]) h.devices
  ready := h.ready
  burner := by rw [h.boiler]
  pump := by rw [h.boiler]
  forcing := by rw [h.boiler]
  reported := by rw [h.boiler]
  target := fun i => by simp only [State.device, h.devices]

theorem SameFlow.valves_back (h : SameFlow s t) {i : Fin 48} {d : Device} (hd : t.device i = some d) {z : Fin 16}
    (hz : d.servesZone z = true) : ∃ e, s.device i = some e ∧ e.servesZone z = true := by
  have hmem : i ∈ s.valvesOf z := by rw [← h.valvesOf]; exact mem_valvesOf.2 ⟨d, hd, hz⟩
  exact mem_valvesOf.1 hmem

theorem LeavesFlow.bypassInv (h : LeavesFlow s t) (hs : s.BypassInv) : t.BypassInv := by
  obtain ⟨hforced, hlow, hopen⟩ := hs
  refine ⟨fun hf => ?_, fun hr => ?_, fun hp => ?_⟩
  · obtain ⟨z, hz, hmeet⟩ := s.forcedOpen_iff.1 (hforced (h.forcing ▸ hf))
    refine t.forcedOpen_iff.2 ⟨z, by rw [h.config]; exact hz, fun i d hd hserves => ?_⟩
    obtain ⟨e, he, heserves⟩ := h.valves_back hd hserves
    have := h.target i
    rw [hd, he, Option.map_some, Option.map_some, hmeet i e he heserves] at this
    exact Option.some.inj this
  · rw [h.pump]; exact hlow (h.ready ▸ hr)
  · rw [h.commandedPass, h.forcing]; exact hopen (h.pump ▸ hp)

theorem LeavesFlow.reportedInv (h : LeavesFlow s t) (hs : s.ReportedInv) : t.ReportedInv := by
  intro hr hb
  rw [h.reported, h.checkInForce, h.checkHolds, h.reportedOf]
  exact hs (h.ready ▸ hr) (h.burner ▸ hb)

/-- An event without an evaluation leaves forcing as it stands. -/
theorem LeavesFlow.flow (h : LeavesFlow s t) : Flow p s t where
  bypass := h.bypassInv
  reported := h.reportedInv
  begins hoff hf := by rw [h.forcing, hoff] at hf; cases hf
  ends _ hon hf := by rw [h.forcing, hon] at hf; cases hf

theorem Flow.refl (s : State) : Flow p s s :=
  LeavesFlow.flow ⟨⟨rfl, rfl, rfl, fun _ => rfl⟩, rfl, rfl, rfl, rfl, rfl, fun _ => rfl⟩

/-- Updates beside the blocks that the relation reads come before and after an event. -/
theorem Flow.around {s' t' : State} (hs : Beside s s') (h : Flow p s' t') (ht : Beside t' t) : Flow p s t where
  bypass := ht.leavesFlow.bypassInv ∘ h.bypass ∘ hs.leavesFlow.bypassInv
  reported := ht.leavesFlow.reportedInv ∘ h.reported ∘ hs.leavesFlow.reportedInv
  begins hoff := ht.quiet.preserves.urged (h.begins (by rw [hs.boiler]; exact hoff))
  ends hp hon := by
    have hreturned := h.ends hp (by rw [hs.boiler]; exact hon)
    rw [hs.boiler] at hreturned
    exact ht.quiet.returnedTo hreturned

theorem Beside.refl (s : State) : Beside s s := ⟨rfl, rfl, rfl, rfl, rfl, rfl⟩

theorem Beside.trans (h : Beside s t) (k : Beside t u) : Beside s u :=
  ⟨k.ready.trans h.ready, k.zones.trans h.zones, k.cylinder.trans h.cylinder, k.boiler.trans h.boiler,
    k.devices.trans h.devices, k.queue.trans h.queue⟩

theorem Flow.before (hs : Beside s t) (h : Flow p t u) : Flow p s u := Flow.around hs h (Beside.refl u)

theorem Flow.after (h : Flow p s t) (ht : Beside t u) : Flow p s u := Flow.around (Beside.refl s) h ht

theorem Flow.ite {c : Prop} [Decidable c] (h : c → Flow p s t) (k : ¬ c → Flow p s u) : Flow p s (if c then t else u) := by
  split
  · next hc => exact h hc
  · next hc => exact k hc

theorem Flow.ite_fst {c : Prop} [Decidable c] {a b : State × Answer} (h : c → Flow p s a.1) (k : ¬ c → Flow p s b.1) :
    Flow p s (if c then a else b).1 := by
  split
  · next hc => exact h hc
  · next hc => exact k hc

/-! ### What comes before an event's evaluations -/

/-- Records, zones and boiler are written, but forcing stands and the valves it holds are open. -/
structure Prepares (s t : State) : Prop where
  ready : t.time.ready = s.time.ready
  forced : s.ForcedInv → t.ForcedInv
  low : s.PumpLow → t.PumpLow
  forcing : t.boiler.forcing = s.boiler.forcing
  bypass : t.boiler.config.bypassZone = s.boiler.config.bypassZone

theorem Prepares.trans (h : Prepares s t) (k : Prepares t u) : Prepares s u :=
  ⟨k.ready.trans h.ready, k.forced ∘ h.forced, k.low ∘ h.low, k.forcing.trans h.forcing, k.bypass.trans h.bypass⟩

theorem Quiet.prepares (h : Quiet s t) : Prepares s t := ⟨h.ready, h.preserves.forced, h.low, h.forcing, h.bypass⟩

theorem Prepares.refl (s : State) : Prepares s s := (Quiet.refl s).prepares

theorem Prepares.ite {c : Prop} [Decidable c] (h : c → Prepares s t) (k : ¬ c → Prepares s u) :
    Prepares s (if c then t else u) := by
  split
  · next hc => exact h hc
  · next hc => exact k hc

/-- An event is what it writes, then evaluations, the last of which ends it. -/
theorem Prepares.flow_of_preserves {v : State} (h : Prepares s u) (k : Preserves u v) (hpath : v.PumpLow → v.PathOpen)
    (hreported : v.ReportedInv) : Flow p s v where
  bypass := fun ⟨hforced, hlow, _⟩ => ⟨k.forced (h.forced hforced), k.low (h.low hlow), hpath (k.low (h.low hlow))⟩
  reported _ := hreported
  begins hoff := k.urged fun hf => by rw [h.forcing, hoff] at hf; cases hf
  ends _ hon := by
    have hreturned := k.returned fun hf => by rw [h.forcing, hon] at hf; cases hf
    rwa [k.bypass, h.bypass] at hreturned

theorem Prepares.evaluate (h : Prepares s u) : Flow p s u.evaluate :=
  h.flow_of_preserves (preserves_evaluate u) pathOpen_evaluate (reportedInv_evaluate u)

/-- The evaluations as part of an event: taken, or nothing they read has changed. -/
theorem Prepares.evaluateFrom (h : Prepares s u) : Flow p s (u.evaluateFrom s) := by
  unfold State.evaluateFrom
  split
  · next hsame =>
    obtain ⟨hz, hc, hb, hd⟩ := hsame
    exact LeavesFlow.flow ⟨SameFlow.of_eq hz (by rw [hc]) (by rw [hb]) hd, h.ready, by rw [hb], by rw [hb], by rw [hb], by rw [hb],
      fun i => by simp only [State.device, hd]⟩
  · exact h.evaluate

end Sys2Proof.Machine

/-! What each operation of the blocks leaves of the minimum flow path: those that write neither records nor motor queue
are `Quiet`, those that write records keep forcing and the valves it holds open. -/

namespace Sys2Proof.Machine

variable {p : Prop} {s t u : State}

/-! ### Updates beside records and queue -/

theorem Quiet.of_eq (hr : t.time.ready = s.time.ready) (hz : t.zones = s.zones) (hb : t.boiler = s.boiler)
    (hd : t.registry.devices = s.registry.devices) (hq : t.motor.queue = s.motor.queue) : Quiet s t :=
  ⟨hr, hd, hq, fun z => by simp only [State.zone, hz], by rw [hb], by rw [hb], fun h k => by rw [hb]; exact h (hr ▸ k)⟩

theorem Quiet.foldl {α : Type} {f : State → α → State} (h : ∀ (s : State) (a : α), Quiet s (f s a)) (l : List α)
    (s : State) : Quiet s (l.foldl f s) := by
  induction l generalizing s with
  | nil => exact Quiet.refl s
  | cons a l ih => exact (h s a).trans (ih _)

theorem quiet_reach (s : State) (n : Nat) : Quiet s (s.reach n) := Quiet.of_eq rfl rfl rfl rfl rfl

theorem quiet_takeEarly (s : State) (k : TickTaken) : Quiet s (s.takeEarly k) := Quiet.of_eq rfl rfl rfl rfl rfl

theorem quiet_raise (s : State) (n : Notice) : Quiet s (s.raise n) := Quiet.of_eq rfl rfl rfl rfl rfl

theorem quiet_raiseIf (s : State) (b : Bool) (n : Notice) : Quiet s (s.raiseIf b n) :=
  Quiet.ite (fun _ => quiet_raise s n) fun _ => Quiet.refl s

theorem quiet_setHouse (s : State) (h : House) : Quiet s (s.setHouse h) := Quiet.of_eq rfl rfl rfl rfl rfl

theorem quiet_setStack (s : State) (z : Fin 17) (l : List Hold) : Quiet s (s.setStack z l) := Quiet.of_eq rfl rfl rfl rfl rfl

theorem quiet_setPoints (s : State) (z : Fin 17) (l : List Point) : Quiet s (s.setPoints z l) := Quiet.of_eq rfl rfl rfl rfl rfl

theorem quiet_setCylinder (s : State) (c : Cylinder) : Quiet s { s with cylinder := c } := Quiet.of_eq rfl rfl rfl rfl rfl

theorem quiet_setBus (s : State) (b : Bus) : Quiet s (s.setBus b) := Quiet.of_eq rfl rfl rfl rfl rfl

theorem quiet_countHolds (s : State) : Quiet s s.countHolds := Quiet.of_eq rfl rfl rfl rfl rfl

theorem quiet_push (s : State) (z : Fin 17) (v : Int) (e : EndKind) (o : Origin) (r : Bool) : Quiet s (s.push z v e o r) := by
  rw [State.push_eq]
  exact Quiet.of_eq rfl rfl rfl rfl rfl

theorem quiet_putHold (s : State) (z : Fin 17) (h : Hold) : Quiet s (s.putHold z h) := quiet_setStack s z _

theorem quiet_dropHold (s : State) (z : Fin 17) (n : Nat) : Quiet s (s.dropHold z n) := quiet_setStack s z _

/-! ### Resolution (R38, R40) -/

theorem Quiet.resolves (h : s.ResolvesTo t) (hz : ∀ z, (t.zone z).ownTarget = (s.zone z).ownTarget) : Quiet s t :=
  ⟨by rw [h.time], by rw [h.registry], by rw [h.motor], hz, by rw [h.boiler], by rw [h.boiler],
    fun hs hr => by rw [h.boiler]; exact hs (by rwa [h.time] at hr)⟩

theorem quiet_announce (s : State) (z : Fin 16) : Quiet s (s.announce z) :=
  Quiet.resolves (s.resolvesTo_announce z) fun y => by simp only [State.zone, State.announce_zones]

theorem quiet_announceIf (b : Bool) (z : Fin 16) (s : State) : Quiet s (s.announceIf b z) :=
  Quiet.ite (fun _ => quiet_announce s z) fun _ => Quiet.refl s

theorem quiet_announceAll (s : State) : Quiet s s.announceAll := Quiet.foldl quiet_announce _ s

theorem quiet_resolveRoom (s : State) (z : Fin 16) : Quiet s (s.resolveRoom z) := by
  refine Quiet.resolves (s.resolvesTo_resolveRoom z) fun y => ?_
  rw [State.resolveRoom_zone]
  split
  · next h => rw [h]
  · rfl

theorem quiet_resolveRooms (s : State) : Quiet s s.resolveRooms := Quiet.foldl quiet_resolveRoom _ s

theorem quiet_resolveCylinder (s : State) : Quiet s s.resolveCylinder := quiet_setCylinder s _

theorem quiet_resolveAll (s : State) : Quiet s s.resolveAll := (quiet_resolveRooms s).trans (quiet_resolveCylinder _)

theorem quiet_resolve (s : State) (z : Fin 17) : Quiet s (s.resolve z) := by
  unfold State.resolve
  split
  · exact quiet_resolveRoom s _
  · exact quiet_resolveCylinder s

theorem quiet_resolveIf (b : Bool) (z : Fin 17) (s : State) : Quiet s (s.resolveIf b z) :=
  Quiet.ite (fun _ => quiet_resolve s z) fun _ => Quiet.refl s

/-! ### House and clock -/

theorem quiet_changeMode (s : State) (m : Mode) (c : Option Nat) : Quiet s (s.changeMode m c) :=
  (((quiet_setHouse s _).trans (quiet_raise _ _)).trans (quiet_announceAll _)).trans (quiet_resolveAll _)

theorem quiet_wake (s : State) (c : WakeCause) : Quiet s (s.wake c) :=
  Quiet.ite (fun _ => (quiet_setHouse s _).trans (quiet_changeMode _ _ _)) fun _ => Quiet.refl s

theorem quiet_returnEnds (s : State) : Quiet s s.returnEnds := (quiet_setHouse s _).trans (quiet_wake _ _)

theorem quiet_countReturn (s : State) : Quiet s s.countReturn := by
  unfold State.countReturn
  split
  · exact Quiet.ite (fun _ => quiet_returnEnds s) fun _ => quiet_setHouse s _
  · exact Quiet.refl s

theorem quiet_retireWhere (f : Fin 17 → Bool) (l : List (Fin 17)) (s : State) :
    Quiet s (l.foldl (fun t z => if f z then t.retireNextPoint z else t) s) :=
  Quiet.foldl (fun t z => Quiet.ite (fun _ => quiet_setStack t z _) fun _ => Quiet.refl t) l s

theorem quiet_takePointChanges (s : State) (before : Option Nat) : Quiet s (s.takePointChanges before) :=
  quiet_retireWhere _ _ s

theorem quiet_takeCrossings (s : State) : Quiet s s.takeCrossings := quiet_retireWhere s.crossed _ s

/-! ### Boiler and channel -/

theorem quiet_moveTo (s : State) (st : Burner) (stop : Nat) :
    Quiet s (s.setBoiler { s.boiler.moveTo st with lastStop := stop }) := quiet_setBoiler rfl rfl fun _ => rfl

theorem quiet_burnerOff (s : State) : Quiet s s.burnerOff := quiet_moveTo s _ _

theorem quiet_burnerSensorFault (s : State) : Quiet s s.burnerSensorFault := (quiet_moveTo s _ _).trans (quiet_raise _ _)

theorem quiet_lockOut (s : State) : Quiet s s.lockOut := (quiet_moveTo s _ _).trans (quiet_raise _ _)

theorem quiet_endLockout (s : State) : Quiet s s.endLockout :=
  (quiet_setBoiler (b := { s.boiler with attempts := 0 }) rfl rfl fun _ => rfl).trans
    (Quiet.ite (fun _ => quiet_burnerSensorFault _) fun _ => quiet_burnerOff _)

theorem quiet_burnerSample (s : State) (reading : Int) : Quiet s (s.burnerSample reading) := by
  unfold State.burnerSample
  split
  · exact Quiet.refl s
  · exact quiet_setBoiler rfl rfl fun _ => rfl
  · exact quiet_burnerSensorFault s
  · exact quiet_setBoiler rfl rfl fun _ => rfl
  · exact Quiet.ite (fun _ => quiet_burnerOff s) fun _ => Quiet.refl s
  · exact Quiet.refl s

theorem quiet_channelSample (s : State) : Quiet s s.channelSample := by
  have hfault : Quiet s s.cylinderFault := (quiet_setCylinder s _).trans (quiet_raise _ _)
  unfold State.channelSample
  split
  · exact hfault
  · exact hfault
  · exact hfault
  · exact quiet_setCylinder s _
  · exact Quiet.ite (fun _ => Quiet.refl s) fun _ => quiet_setCylinder s _
  · exact Quiet.refl s

theorem quiet_sensors (s : State) (tflow tout tcyl : Int) :
    Quiet s (((s.sampleFlow tflow).sampleOutdoor tout).sampleCylinder tcyl) := by
  have hflow : Quiet s (s.sampleFlow tflow) :=
    (quiet_setBoiler (b := { s.boiler with tf := takeSensor s.boiler.tf tflow }) rfl rfl fun _ => rfl).trans
      (quiet_burnerSample _ tflow)
  have hout : ∀ u : State, Quiet u (u.sampleOutdoor tout) := fun u => by
    refine Quiet.trans ?_ (quiet_raiseIf _ _ _)
    exact quiet_setBoiler rfl rfl fun _ => rfl
  have hcyl : ∀ u : State, Quiet u (u.sampleCylinder tcyl) := fun u =>
    (quiet_setBoiler (b := { u.boiler with tc := takeSensor u.boiler.tc tcyl }) rfl rfl fun _ => rfl).trans
      (quiet_channelSample _)
  exact (hflow.trans (hout _)).trans (hcyl _)

theorem quiet_ageStarts (s : State) : Quiet s s.ageStarts := quiet_setBoiler rfl rfl fun _ => rfl

theorem quiet_stopAtReady (s : State) : Quiet s s.stopAtReady :=
  Quiet.ite (fun _ => quiet_setBoiler rfl rfl fun _ => rfl) fun _ => Quiet.refl s

theorem quiet_readyLockout (s : State) : Quiet s s.readyLockout :=
  Quiet.ite (fun _ => Quiet.ite (fun _ => Quiet.refl s) fun _ => quiet_lockOut s)
    fun _ => Quiet.ite (fun _ => quiet_endLockout s) fun _ => Quiet.refl s

theorem quiet_readyFault (s : State) : Quiet s s.readyFault :=
  Quiet.ite (fun _ => quiet_burnerSensorFault s) fun _ => Quiet.refl s

theorem quiet_startCharge (s : State) : Quiet s s.startCharge := quiet_setCylinder s _

theorem quiet_toIdle (s : State) : Quiet s s.toIdle :=
  (quiet_setCylinder s (s.cylinder.moveTo .idle)).trans (Quiet.ite (fun _ => quiet_startCharge _) fun _ => Quiet.refl _)

theorem quiet_prioExpires (s : State) : Quiet s s.prioExpires :=
  Quiet.ite (fun _ => quiet_setCylinder s _) fun _ => quiet_setCylinder s _

theorem quiet_gapExpires (s : State) : Quiet s s.gapExpires :=
  Quiet.ite (fun _ => quiet_startCharge s) fun _ => quiet_toIdle s

theorem quiet_storeCylinder (s : State) (items : List Item) : Quiet s (s.storeCylinder items) := by
  have hoff : Quiet s (if itemNat items 16 = some 0 then s.disableCylinder else s) :=
    Quiet.ite (fun _ => Quiet.ite (fun _ => Quiet.refl s)
      fun _ => (quiet_setCylinder s _).trans (quiet_resolveCylinder _)) fun _ => Quiet.refl s
  have hfields : ∀ u : State, Quiet u (State.resolveIf (carries items 21) zw { u with cylinder := u.cylinder.store items }) :=
    fun u => (quiet_setCylinder u _).trans (quiet_resolveIf _ _ _)
  have hgap : ∀ u : State, Quiet u (u.shortenGap items) := fun u =>
    Quiet.ite (fun _ => quiet_gapExpires u) fun _ => Quiet.refl u
  have hprio : ∀ u : State, Quiet u (u.shortenPrio items) := fun u =>
    Quiet.ite (fun _ => quiet_prioExpires u) fun _ => Quiet.refl u
  have hon : ∀ u : State, Quiet u u.enableCylinder := fun u =>
    Quiet.ite (fun _ => Quiet.ite (fun _ => (quiet_setCylinder u _).trans (quiet_resolveCylinder _))
      fun _ => ((quiet_setCylinder u _).trans (quiet_raise _ _)).trans (quiet_resolveCylinder _)) fun _ => Quiet.refl u
  have hstored := ((hoff.trans (hfields _)).trans (hgap _)).trans (hprio _)
  exact Quiet.ite (fun _ => hstored.trans (hon _)) fun _ => hstored

/-! ### Room zones -/

theorem Prepares.of_eq (hr : t.time.ready = s.time.ready) (hb : t.boiler = s.boiler)
    (hd : t.registry.devices = s.registry.devices) : Prepares s t := by
  refine ⟨hr, fun h hf => ?_, fun h k => by rw [hb]; exact h (hr ▸ k), by rw [hb], by rw [hb]⟩
  have hopen := h (by rwa [hb] at hf)
  simpa only [State.forcedOpen, State.valvesOf, State.device, hb, hd] using hopen

theorem Prepares.resolves (h : s.ResolvesTo t) : Prepares s t := Prepares.of_eq (by rw [h.time]) h.boiler (by rw [h.registry])

theorem resolvesTo_clearRoom (s : State) (z : Fin 16) (st : ZoneState) :
    s.ResolvesTo (((s.setZone z ((s.zone z).cleared st)).announce z).resolveRoom z) :=
  ((s.resolvesTo_setZone z _).trans (State.resolvesTo_announce _ z)).trans (State.resolvesTo_resolveRoom _ z)

theorem resolvesTo_storeRoom (s : State) (z : Fin 16) (items : List Item) : s.ResolvesTo (s.storeRoom z items) := by
  have hoff : s.ResolvesTo (if itemNat items 16 = some 0 then s.disableRoom z else s) := by
    unfold State.disableRoom
    repeat' split
    · exact resolvesTo_clearRoom s z _
    all_goals exact s.resolvesTo_refl
  have hfields : ∀ u : State, u.ResolvesTo
      ((u.setZone z ((u.zone z).store items)).resolveIf (carriesSetpointInput items) (roomIndex z)) := fun u => by
    unfold State.resolveIf
    split
    · exact (u.resolvesTo_setZone z _).trans (State.resolvesTo_resolve _ _)
    · exact u.resolvesTo_setZone z _
  have hon : ∀ u : State, u.ResolvesTo (u.enableRoom z) := fun u => by
    unfold State.enableRoom
    split
    · exact u.resolvesTo_refl
    · exact resolvesTo_clearRoom u z _
  have hstored := hoff.trans (hfields _)
  unfold State.storeRoom
  dsimp only
  split
  · exact hstored.trans (hon _)
  · exact hstored

/-! ### Device records -/

/-- A record serves no zone that the one before did not serve, and with its target. -/
def Device.Follows (d e : Device) : Prop := ∀ z, e.servesZone z = true → d.servesZone z = true ∧ e.target = d.target

theorem Device.follows_of_eq {d e : Device} (hk : e.kind = d.kind) (hz : e.zone = d.zone)
    (hs : e.state ≠ .faulted → e.state ≠ .retiring → d.state ≠ .faulted ∧ d.state ≠ .retiring) (ht : e.target = d.target) :
    d.Follows e := by
  intro z h
  simp only [Device.servesZone, Bool.and_eq_true, beq_iff_eq, bne_iff_ne] at h ⊢
  obtain ⟨⟨⟨hkind, hzone⟩, hf⟩, hr⟩ := h
  obtain ⟨hf', hr'⟩ := hs hf hr
  exact ⟨⟨⟨⟨hk ▸ hkind, hz ▸ hzone⟩, hf'⟩, hr'⟩, ht⟩

theorem Device.follows_refl (d : Device) : d.Follows d := fun _ h => ⟨h, rfl⟩

/-- A record that is FAULTED or RETIRING serves no zone. -/
theorem Device.follows_idle (d : Device) {e : Device} (h : e.state = .faulted ∨ e.state = .retiring) : d.Follows e := by
  intro z hz
  rcases h with h | h <;> simp [Device.servesZone, h] at hz

/-- Records are written that follow those before, and blocks beside the boiler's. -/
theorem Prepares.of_devices (hr : t.time.ready = s.time.ready) (hb : t.boiler = s.boiler)
    (hd : ∀ (i : Fin 48) (e : Device), t.device i = some e → ∃ d, s.device i = some d ∧ d.Follows e) : Prepares s t := by
  refine ⟨hr, fun h hf => ?_, fun h k => by rw [hb]; exact h (hr ▸ k), by rw [hb], by rw [hb]⟩
  obtain ⟨z, hz, hmeet⟩ := s.forcedOpen_iff.1 (h (by rwa [hb] at hf))
  refine t.forcedOpen_iff.2 ⟨z, by rw [hb]; exact hz, fun i e he hserves => ?_⟩
  obtain ⟨d, hdi, hfollows⟩ := hd i e he
  obtain ⟨hdz, htarget⟩ := hfollows z hserves
  exact htarget.trans (hmeet i d hdi hdz)

theorem prepares_setDevice {i : Fin 48} {d e : Device} (hd : s.device i = some d) (he : d.Follows e) :
    Prepares s (s.setDevice i (some e)) := by
  refine Prepares.of_devices rfl rfl fun j f hf => ?_
  rw [State.setDevice_device] at hf
  split at hf
  · next hj => cases hf; subst hj; exact ⟨d, hd, he⟩
  · exact ⟨f, hf, f.follows_refl⟩

theorem prepares_hand (s : State) (i : Fin 48) (n : Int) (c : Class) : Prepares s (s.hand i n c) := by
  refine Prepares.of_devices (by rw [(s.settlesTo_hand i n c).time]) (s.hand_boiler i n c) fun j e he => ?_
  rw [State.hand_device] at he
  split at he
  · next hj =>
    obtain ⟨d, hd, rfl⟩ := Option.map_eq_some_iff.1 he
    exact ⟨d, hj ▸ hd, Device.follows_of_eq rfl rfl (fun h k => ⟨h, k⟩) rfl⟩
  · exact ⟨e, he, e.follows_refl⟩

theorem prepares_handNext (s : State) (i : Fin 48) (n f : Option NextTarget) : Prepares s (s.handNext i n f) := by
  unfold State.handNext
  split
  · exact prepares_hand _ _ _ _
  · exact prepares_hand _ _ _ _
  · exact Prepares.refl s

/-- A valve that an event has made one of the bypass zone's is taken into forcing (R122). -/
theorem prepares_joinForcing {i : Fin 48} (hr : u.time.ready = s.time.ready) (hb : u.boiler = s.boiler)
    (hd : ∀ j, j ≠ i → u.device j = s.device j) : Prepares s (u.joinForcing i) := by
  have hboiler : (u.joinForcing i).boiler = s.boiler := by
    rw [← hb]
    unfold State.joinForcing
    repeat' split
    all_goals simp
  have hsettles := u.settlesTo_joinForcing i
  refine ⟨by rw [hsettles.time, hr], fun h hf => ?_, fun h k => ?_, by rw [hboiler], by rw [hboiler]⟩
  · rw [hboiler] at hf
    obtain ⟨z, hz, hmeet⟩ := s.forcedOpen_iff.1 (h hf)
    refine (u.joinForcing i).forcedOpen_iff.2 ⟨z, by rw [hboiler]; exact hz, fun j e he hserves => ?_⟩
    obtain ⟨d, hdj, hkept⟩ := hsettles.device_back he
    obtain ⟨-, -, hzone, -⟩ := Device.fields_of_kept hkept
    by_cases hj : j = i
    · subst hj
      have hjoins : u.joinForcing j = u.setAndHand .urgent 100 j := by
        have hserved : d.servesZone z = true := (hzone z).trans hserves
        simp only [State.joinForcing, hb, hz]
        rw [if_pos ⟨hf, by simp [hdj, hserved]⟩]
      have htarget := setAndHand_target .urgent 100 u j
      rw [← hjoins, he, hdj] at htarget
      simpa using htarget
    · have hsame : (u.joinForcing i).device j = u.device j := by
        unfold State.joinForcing
        repeat' split
        · exact (actsAt_setAndHand _ _).device_other u hj
        all_goals rfl
      exact hmeet j e ((hd j hj).symm.trans (hsame.symm.trans he)) hserves
  · rw [hboiler]
    exact h (by rw [← hr, ← hsettles.time]; exact k)

/-- Stage 4 leaves the valves that forcing holds open (R92). -/
theorem prepares_targetValves (s : State) (z : Fin 16) : Prepares s (s.targetValves z) := by
  have hboiler := s.targetValves_boiler z
  have hsettles := s.settlesTo_targetValves z
  refine ⟨by rw [hsettles.time], fun h hf => ?_, fun h k => ?_, by rw [hboiler], by rw [hboiler]⟩
  · rw [hboiler] at hf
    obtain ⟨y, hy, hmeet⟩ := s.forcedOpen_iff.1 (h hf)
    refine (s.targetValves z).forcedOpen_iff.2 ⟨y, by rw [hboiler]; exact hy, fun i e he hserves => ?_⟩
    by_cases hyz : y = z
    · subst hyz
      have hforced : s.forced y = true := by simp [State.forced, hf, hy]
      rw [State.targetValves, if_pos hforced] at he
      exact foldl_valves_target forceValve_target (fun s i j => actsAt_forceValve.device_other s) State.settlesTo_forceValve
        s y i e he hserves
    · have hforced : ¬ s.forced z = true := by simp [State.forced, hf, hy, hyz]
      obtain ⟨d, hd, hkept⟩ := hsettles.device_back he
      obtain ⟨-, -, hzone, -⟩ := Device.fields_of_kept hkept
      have hserved : d.servesZone y = true := (hzone y).trans hserves
      have hout : i ∉ s.valvesOf z := by
        rw [mem_valvesOf]
        rintro ⟨d', hd', hz'⟩
        cases hd.symm.trans hd'
        simp only [Device.servesZone, Bool.and_eq_true, beq_iff_eq] at hserved hz'
        exact hyz (Option.some.inj (hserved.1.1.2.symm.trans hz'.1.1.2))
      rw [State.targetValves, if_neg hforced] at he
      have hfield := foldl_field Device.target _ (targetValve_target (s.zone z).config.hysteresis (s.zone z).ownTarget)
        (fun s i j => (actsAt_targetValve _ _).device_other s) (s.valvesOf z) s i
      rw [if_neg hout, he, hd] at hfield
      exact (Option.some.inj hfield).trans (hmeet i d hd hserved)
  · rw [hboiler]
    exact h (by rw [← hsettles.time]; exact k)

end Sys2Proof.Machine

/-! Every command and event, with what it does to the minimum flow path and to the result of the reported check. -/

namespace Sys2Proof.Machine

variable {p : Prop} {s t u v : State}

/-! ### Events of several evaluations -/

/-- What an event makes of the path when it ends in an evaluation and has written no record before. -/
structure Evaluated (s t : State) : Prop extends Preserves s t where
  path : t.PumpLow → t.PathOpen
  reported : t.ReportedInv

theorem Preserves.evaluate (h : Preserves s t) : Evaluated s t.evaluate :=
  ⟨h.trans (preserves_evaluate t), pathOpen_evaluate, reportedInv_evaluate t⟩

theorem Quiet.evaluate (h : Quiet s t) : Evaluated s t.evaluate := h.preserves.evaluate

theorem Evaluated.trans (h : Evaluated s t) (k : Evaluated t u) : Evaluated s u :=
  ⟨h.toPreserves.trans k.toPreserves, k.path, k.reported⟩

theorem Evaluated.before (h : Evaluated t u) (k : Preserves s t) : Evaluated s u :=
  ⟨k.trans h.toPreserves, h.path, h.reported⟩

theorem Evaluated.after (h : Evaluated t u) (k : Quiet s t) : Evaluated s u := h.before k.preserves

/-- One more evaluation, or none. -/
theorem Evaluated.ite {c : Prop} [Decidable c] (h : Evaluated s t) (k : Evaluated t u) :
    Evaluated s (if c then u else t) := by
  split
  · exact h.trans k
  · exact h

theorem Prepares.flow_of_evaluated (h : Prepares s t) (k : Evaluated t u) : Flow p s u :=
  h.flow_of_preserves k.toPreserves k.path k.reported

theorem Evaluated.flow (h : Evaluated s t) : Flow p s t := (Prepares.refl s).flow_of_evaluated h

theorem Beside.flow (h : Beside s t) : Flow p s t := h.leavesFlow.flow

theorem Quiet.flow_evaluate (h : Quiet s t) : Flow p s t.evaluate := h.evaluate.flow

theorem Quiet.flow_evaluateFrom (h : Quiet s t) : Flow p s (t.evaluateFrom s) := h.prepares.evaluateFrom

/-- A state in which forcing is not in force, the pump is STOPPED and READY is low, as a reset leaves it. -/
theorem Flow.of_low (hr : t.time.ready = false) (hp : t.boiler.pump = .stopped) (hf : t.boiler.forcing = false) (hn : ¬ p) :
    Flow p s t where
  bypass _ := t.bypassInv_iff.2 ⟨fun h => (by rw [hf] at h; cases h), fun _ => hp, fun h => absurd hp h⟩
  reported _ h := by rw [hr] at h; cases h
  begins _ h := by rw [hf] at h; cases h
  ends h := absurd h hn

/-! ### Minute tick, sample and READY -/

theorem evaluated_tickClock (s : State) : Evaluated s s.tickClock :=
  ((Quiet.of_eq rfl rfl rfl rfl rfl : Quiet s { s with clock := s.clock.advanced }).trans
    ((quiet_takeCrossings _).trans (quiet_resolveAll _))).evaluate

theorem evaluated_tickHolds (s : State) : Evaluated s s.tickHolds := ((quiet_countHolds s).trans (quiet_resolveAll _)).evaluate

theorem evaluated_tickHouse (s : State) : Evaluated s s.tickHouse := (quiet_countReturn s).evaluate

theorem evaluated_tickStarts (s : State) : Evaluated s s.tickStarts := (quiet_ageStarts s).evaluate

theorem Evaluated.tickUnless (h : Evaluated s t) (taken : Bool) {f : State → State} (hf : ∀ u, Evaluated u (f u)) :
    Evaluated s (t.tickUnless taken f) := by
  cases taken
  · exact h.trans (hf t)
  · exact h

theorem Evaluated.beside (h : Evaluated s t) (k : Beside t u) : Evaluated s u where
  toPreserves := h.toPreserves.trans k.quiet.preserves
  path hl := by
    have hlow : t.PumpLow := fun hr => by rw [← k.boiler]; exact hl (by rw [k.ready]; exact hr)
    intro hp
    rw [k.leavesFlow.commandedPass, k.boiler]
    exact h.path hlow (by rw [← k.boiler]; exact hp)
  reported := k.leavesFlow.reportedInv h.reported

theorem beside_tickJoins (s : State) (taken : Bool) : Beside s (s.tickUnless taken State.ageJoins) := by
  cases taken
  · exact ⟨rfl, rfl, rfl, rfl, rfl, rfl⟩
  · exact Beside.refl s

theorem evaluated_minuteTick (s : State) : Evaluated s s.minuteTick := by
  have hticks := (((evaluated_tickClock s).tickUnless s.clock.taken.holds evaluated_tickHolds).tickUnless s.clock.taken.house
    evaluated_tickHouse).tickUnless s.clock.taken.starts evaluated_tickStarts
  exact hticks.beside (beside_tickJoins _ _)

theorem evaluated_takeSample (s : State) (tflow tout tcyl : Int) : Evaluated s (s.takeSample tflow tout tcyl) :=
  (quiet_sensors s tflow tout tcyl).evaluate

/-- READY sets: of the path, only what is said of the pump while READY is low reads it. -/
theorem preserves_setReady (s : State) : Preserves s s.setReady := 
  ⟨id, fun _ h => Bool.noConfusion (h : true = false), id, id, rfl⟩

theorem evaluated_dueSample (s : State) (tflow tout tcyl : Int) (h : Evaluated t s) : Evaluated t (s.dueSample tflow tout tcyl) :=
  h.ite ((evaluated_takeSample _ _ _ _).after (Quiet.of_eq rfl rfl rfl rfl rfl))

theorem evaluated_dueMinute (s : State) (h : Evaluated t s) : Evaluated t s.dueMinute :=
  h.ite ((evaluated_minuteTick _).after (Quiet.of_eq rfl rfl rfl rfl rfl))

theorem beside_dueControl (s : State) : Beside s s.dueControl := by
  rw [s.dueControl_eq]
  exact ⟨rfl, rfl, rfl, rfl, rfl, rfl⟩

theorem evaluated_warmReady (s : State) (tflow tout tcyl : Int) : Evaluated s (s.warmReady tflow tout tcyl) := by
  have hblocks : ∀ u : State, Evaluated u ((u.resolveAll.refill s).stopAtReady.readyLockout.readyFault).evaluate := fun u =>
    (((((quiet_resolveAll u).trans (quiet_setBus _ _)).trans (quiet_stopAtReady _)).trans
      (quiet_readyLockout _)).trans (quiet_readyFault _)).evaluate
  refine (evaluated_dueMinute _ (evaluated_dueSample _ tflow tout tcyl
    ((hblocks _).before (preserves_setReady s)))).beside (beside_dueControl _)

theorem evaluated_firstReady (s : State) (tflow tout tcyl : Int) : Evaluated s (s.firstReady tflow tout tcyl) := by
  have hblocks : ∀ u : State, Evaluated u (u.stopAtReady.readyLockout.takeSample tflow tout tcyl) := fun u =>
    (evaluated_takeSample _ _ _ _).after ((quiet_stopAtReady u).trans (quiet_readyLockout _))
  have hnext : ∀ (u : State) (n : Option Nat), Quiet u { u with time := { u.time with sampleAt := n } } := fun u n =>
    Quiet.of_eq rfl rfl rfl rfl rfl
  exact (hblocks _).before (((quiet_reach s _).preserves.trans (preserves_setReady _)).trans (hnext _ _).preserves)

theorem flow_expireHold (s : State) (n : Nat) : Flow p s (s.expireHold n) := by
  unfold State.expireHold
  split
  · exact Flow.ite (fun _ => ((evaluated_tickHolds _).after (quiet_takeEarly s _)).flow) fun _ => Flow.refl s
  · exact Flow.refl s

theorem flow_expireStart (s : State) : Flow p s s.expireStart :=
  Flow.ite (fun _ => ((evaluated_tickStarts _).after (quiet_takeEarly s _)).flow) fun _ => Flow.refl s

theorem flow_expireJoin (s : State) (n : Nat) : Flow p s (s.expireJoin n) := by
  unfold State.expireJoin
  split
  · exact Flow.ite (fun _ => Beside.flow ⟨rfl, rfl, rfl, rfl, rfl, rfl⟩) fun _ => Flow.refl s
  · exact Flow.refl s

theorem flow_expireReturn (s : State) : Flow p s s.expireReturn := by
  refine Flow.ite (fun _ => ?_) fun _ => Flow.refl s
  exact ((quiet_takeEarly s _).trans (quiet_returnEnds _)).flow_evaluateFrom

/-! ### WRITE of the boiler record -/

theorem quiet_evaluate_unforced (hf : s.boiler.forcing = false) (hg : s.evaluate.boiler.forcing = false) :
    Quiet s s.evaluate := by
  cases hr : s.time.ready with
  | false => rw [State.evaluate_low hr]; exact Quiet.refl s
  | true =>
    have hquiet := quiet_pumped hr
    rw [State.evaluate_eq hr] at hg ⊢
    rw [State.evalForcing_boiler] at hg
    rw [State.evalForcing_same ((hquiet.forcing.trans hf).trans hg.symm)]
    exact hquiet

/-- An event that leaves forcing out of force before it evaluates. -/
theorem Flow.of_unforced (hf : t.boiler.forcing = false) (hlow : s.PumpLow → t.PumpLow)
    (hreturned : p → s.boiler.forcing = true → t.ReturnedTo s.boiler.config.bypassZone) : Flow p s t.evaluate := by
  have hno : ∀ {q : Prop}, t.boiler.forcing = true → q := fun h => by rw [hf] at h; cases h
  have hkeeps := preserves_evaluate t
  refine ⟨fun ⟨_, hl, _⟩ => ?_, fun _ => reportedInv_evaluate t, fun _ => hkeeps.urged hno, fun hp hon hoff => ?_⟩
  · exact t.evaluate.bypassInv_iff.2 ⟨hkeeps.forced hno, hkeeps.low (hlow hl), pathOpen_evaluate (hkeeps.low (hlow hl))⟩
  · exact (quiet_evaluate_unforced hf hoff).returnedTo (hreturned hp hon) hoff

theorem quiet_shortened (s : State) (items : List Item) :
    Quiet s (((s.keepPassing.shortenMinOn items).shortenOff items).shortenOverrun items) := by
  have hpassing : Quiet s s.keepPassing := Quiet.ite (fun _ => quiet_setBoiler rfl rfl fun _ => rfl) fun _ => Quiet.refl s
  have hmin : ∀ u : State, Quiet u (u.shortenMinOn items) := fun u =>
    Quiet.ite (fun _ => quiet_setBoiler rfl rfl fun _ => rfl) fun _ => Quiet.refl u
  have hoff : ∀ u : State, Quiet u (u.shortenOff items) := fun u =>
    Quiet.ite (fun _ => quiet_setBoiler rfl rfl fun _ => rfl) fun _ => Quiet.refl u
  have hover : ∀ u : State, Quiet u (u.shortenOverrun items) := fun u =>
    Quiet.ite (fun _ => ⟨rfl, rfl, rfl, fun _ => rfl, rfl, rfl, fun _ _ => rfl⟩) fun _ => Quiet.refl u
  exact ((hpassing.trans (hmin _)).trans (hoff _)).trans (hover _)

/-- A WRITE that takes the bypass zone away gives its valves back first (R122). -/
theorem flow_storeBoiler (s : State) (items : List Item) : Flow p s (s.storeBoiler items) := by
  let stored := fun t : State => t.setBoiler { t.boiler with config := t.boiler.config.store items }
  have hwrite : ∀ t : State, Quiet (stored t) _ := fun t => quiet_shortened (stored t) items
  cases hf : s.boiler.forcing with
  | false =>
    have hkept : s.releaseBypass items = s := if_neg fun h => by simp [hf] at h
    unfold State.storeBoiler
    rw [hkept]
    have hq := hwrite s
    exact Flow.of_unforced (hq.forcing.trans hf) (fun h => hq.low h) fun _ h => by rw [hf] at h; cases h
  | true =>
    by_cases hb : takeBypass items s.boiler.config.bypassZone = s.boiler.config.bypassZone
    · have hkept : s.releaseBypass items = s := if_neg fun h => h.2 hb
      have hstored : Quiet s (stored s) := quiet_setBoiler hb rfl fun _ => rfl
      unfold State.storeBoiler
      rw [hkept]
      exact (hstored.trans (hwrite s)).flow_evaluate
    · have hreleased : s.releaseBypass items = s.endForcing := if_pos ⟨hf, hb⟩
      unfold State.storeBoiler
      rw [hreleased]
      have hq := hwrite s.endForcing
      have hoff : s.endForcing.boiler.forcing = false := by rw [s.endForcing_boiler]
      refine Flow.of_unforced (hq.forcing.trans hoff) (fun h => hq.low fun hr => ?_) fun _ _ => hq.returnedTo fun hoff z hz => ?_
      · have hlow : s.boiler.pump = .stopped := h (by rw [← s.settlesTo_endForcing.time]; exact hr)
        change s.endForcing.boiler.pump = .stopped
        rw [s.endForcing_boiler]; exact hlow
      · exact returned_endForcing hz hoff z rfl

theorem flow_writeBoiler (s : State) (key : Word) (items : List Item) : Flow p s (s.writeBoiler key items).1 := by
  refine Flow.ite_fst (fun _ => Flow.refl s) fun _ => Flow.ite_fst (fun _ => ?_) fun _ => Flow.refl s
  exact Flow.ite (fun _ => Flow.refl s) fun _ => flow_storeBoiler s items

/-! ### The control tick of a zone -/

theorem prepares_tickEnabled (s : State) (z : Fin 16) : Prepares s (s.tickEnabled z) := by
  have hset : Prepares s (s.setZone z ((s.zone z).ticked (s.zoneTemp z))) := Prepares.resolves (s.resolvesTo_setZone z _)
  have happly : ∀ (u : State) (was : ZoneState), Prepares u (u.applyPending z was) := fun u was =>
    Prepares.ite (fun _ => Prepares.of_eq rfl rfl rfl) fun _ => Prepares.refl u
  exact ((hset.trans (quiet_announceIf _ z _).prepares).trans (prepares_targetValves _ z)).trans (happly _ _)

theorem flow_zoneTick (s : State) (z : Fin 16) : Flow p s (s.zoneTick z) := by
  refine Flow.ite (fun _ => (prepares_tickEnabled s z).evaluate) fun _ => ?_
  exact ((Prepares.resolves (s.resolvesTo_setZone z _)).trans (prepares_targetValves _ z)).evaluateFrom

/-! ### Points, holds, zones, house and clock -/

theorem flow_afterHold (h : Quiet s t) (z : Fin 17) : Flow p s (t.afterHold z s) :=
  (h.trans (quiet_resolve _ z)).flow_evaluateFrom

theorem flow_editPoints (s : State) (z : Fin 17) (l : List Point) : Flow p s (s.editPoints z l) :=
  ((quiet_setPoints s z l).trans (quiet_resolve _ z)).flow_evaluateFrom

theorem flow_createPoint (s : State) (key : Word) (items : List Item) : Flow p s (s.createPoint key items).1 := by
  unfold State.createPoint
  refine Flow.ite_fst (fun _ => ?_) fun _ => Flow.refl s
  split
  · refine Flow.ite_fst (fun _ => Flow.refl s) fun _ => Flow.ite_fst (fun _ => Flow.refl s) fun _ => ?_
    exact Flow.ite_fst (fun _ => flow_editPoints s _ _) fun _ => Flow.refl s
  · exact Flow.refl s

theorem flow_writePoint (s : State) (key : Word) (items : List Item) : Flow p s (s.writePoint key items).1 := by
  unfold State.writePoint
  split
  · exact Flow.refl s
  · exact Flow.ite_fst (fun _ => Flow.ite_fst (fun _ => Flow.refl s) fun _ => flow_editPoints s _ _) fun _ => Flow.refl s

theorem flow_retirePoint (s : State) (key : Word) (zone : Byte) : Flow p s (s.retirePoint key zone).1 := by
  unfold State.retirePoint
  split
  · exact Flow.refl s
  · exact flow_editPoints s _ _

theorem flow_createHold (s : State) (items : List Item) : Flow p s (s.createHold items).1 := by
  unfold State.createHold
  refine Flow.ite_fst (fun _ => ?_) fun _ => Flow.refl s
  split
  · exact Flow.ite_fst (fun _ => Flow.refl s) fun _ => flow_afterHold (quiet_push s _ _ _ _ _) _
  · exact Flow.refl s

theorem flow_writeHold (s : State) (key : Word) (items : List Item) : Flow p s (s.writeHold key items).1 := by
  unfold State.writeHold
  split
  · exact Flow.refl s
  · exact Flow.ite_fst (fun _ => flow_afterHold (quiet_putHold s _ _) _) fun _ => Flow.refl s

theorem flow_retireHold (s : State) (key : Word) : Flow p s (s.retireHold key).1 := by
  refine Flow.ite_fst (fun _ => Flow.refl s) fun _ => ?_
  split
  · exact Flow.refl s
  · exact flow_afterHold (quiet_dropHold s _ _) _

theorem flow_writeRoom (s : State) (z : Fin 16) (items : List Item) : Flow p s (s.writeRoom z items).1 :=
  Flow.ite_fst (fun _ => (Prepares.resolves (resolvesTo_storeRoom s z items)).evaluateFrom) fun _ => Flow.refl s

theorem flow_writeCylinder (s : State) (items : List Item) : Flow p s (s.writeCylinder items).1 := by
  refine Flow.ite_fst (fun _ => ?_) fun _ => Flow.refl s
  exact Flow.ite (fun _ => (quiet_storeCylinder s items).flow_evaluate) fun _ => (quiet_storeCylinder s items).flow_evaluateFrom

theorem flow_writeZone (s : State) (key : Word) (items : List Item) : Flow p s (s.writeZone key items).1 := by
  unfold State.writeZone
  split
  · split
    · exact flow_writeRoom s _ items
    · exact flow_writeCylinder s items
  · exact Flow.refl s

theorem flow_writeHouse (s : State) (key : Word) (items : List Item) : Flow p s (s.writeHouse key items).1 := by
  refine Flow.ite_fst (fun _ => Flow.refl s) fun _ => Flow.ite_fst (fun _ => ?_) fun _ => Flow.refl s
  exact Flow.ite (fun _ => ((quiet_setHouse s _).trans (quiet_resolveRooms _)).flow_evaluateFrom)
    fun _ => (Beside.flow ⟨rfl, rfl, rfl, rfl, rfl, rfl⟩ : Flow p s (s.setHouse (s.house.store items)))

theorem flow_enterMode (s : State) (m : Mode) (c : Option Nat) : Flow p s (s.enterMode m c) :=
  Flow.ite (fun _ => (Beside.flow ⟨rfl, rfl, rfl, rfl, rfl, rfl⟩ : Flow p s (s.setHouse { s.house with countdown := c })))
    fun _ => (quiet_changeMode s m c).flow_evaluateFrom

theorem flow_setMode (s : State) (mode : Byte) (countdown : Word) : Flow p s (s.setMode mode countdown).1 := by
  unfold State.setMode
  split
  · exact Flow.refl s
  · exact Flow.ite_fst (fun _ => (quiet_wake s _).flow_evaluateFrom) fun _ => Flow.refl s
  · exact flow_enterMode s _ _
  · exact flow_enterMode s _ _

theorem flow_setClock (s : State) (time : Word) : Flow p s (s.setClock time).1 := by
  refine Flow.ite_fst (fun _ => Flow.refl s) fun _ => ?_
  have hstart : Quiet s (s.startClock time.toNat) := Quiet.of_eq rfl rfl rfl rfl rfl
  have hresolved := (hstart.trans (quiet_takePointChanges _ s.clock.timeOfWeek)).trans (quiet_resolveAll _)
  dsimp only
  exact hresolved.flow_evaluateFrom

end Sys2Proof.Machine

/-! The events that write device records, and every command and event. -/

namespace Sys2Proof.Machine

variable {p : Prop} {s t u : State}

/-! ### Records that the path does not read -/

/-- Records are written in fields alone that path and check do not read, beside blocks that they do not read. -/
theorem LeavesFlow.of_devices (hr : t.time.ready = s.time.ready) (hz : t.zones = s.zones) (hc : t.cylinder = s.cylinder)
    (hb : t.boiler = s.boiler) (hd : ∀ i : Fin 48, (t.device i).map Device.flow = (s.device i).map Device.flow ∧
      (t.device i).map Device.target = (s.device i).map Device.target) : LeavesFlow s t where
  toSameFlow := ⟨hz, by rw [hc], by rw [hb], fun i => (hd i).1⟩
  ready := hr
  burner := by rw [hb]
  pump := by rw [hb]
  forcing := by rw [hb]
  reported := by rw [hb]
  target i := (hd i).2

theorem LeavesFlow.refl (s : State) : LeavesFlow s s := (Beside.refl s).leavesFlow

theorem LeavesFlow.trans (h : LeavesFlow s t) (k : LeavesFlow t u) : LeavesFlow s u :=
  ⟨h.toSameFlow.trans k.toSameFlow, k.ready.trans h.ready, k.burner.trans h.burner, k.pump.trans h.pump,
    k.forcing.trans h.forcing, k.reported.trans h.reported, fun i => (k.target i).trans (h.target i)⟩

theorem LeavesFlow.ite {c : Prop} [Decidable c] (h : c → LeavesFlow s t) (k : ¬ c → LeavesFlow s u) :
    LeavesFlow s (if c then t else u) := by
  split
  · next hc => exact h hc
  · next hc => exact k hc

theorem leavesFlow_setDevice {i : Fin 48} {d e : Device} (hd : s.device i = some d) (hf : e.flow = d.flow)
    (ht : e.target = d.target) : LeavesFlow s (s.setDevice i (some e)) := by
  refine LeavesFlow.of_devices rfl rfl rfl rfl fun j => ?_
  rw [State.setDevice_device]
  split
  · next hj => subst hj; simp [hd, hf, ht]
  · exact ⟨rfl, rfl⟩

/-- Every record is rewritten in fields that path and check do not read. -/
theorem LeavesFlow.of_map (hr : t.time.ready = s.time.ready) (hz : t.zones = s.zones) (hc : t.cylinder = s.cylinder)
    (hb : t.boiler = s.boiler) {f : Device → Device} (hd : ∀ i : Fin 48, t.device i = (s.device i).map f)
    (hf : ∀ d, (f d).flow = d.flow ∧ (f d).target = d.target) : LeavesFlow s t := by
  refine LeavesFlow.of_devices hr hz hc hb fun i => ?_
  rw [hd]
  cases s.device i with
  | none => exact ⟨rfl, rfl⟩
  | some d => exact ⟨congrArg some (hf d).1, congrArg some (hf d).2⟩

theorem leavesFlow_afterRead (s : State) (kind : RecordKind) (key : Word) : LeavesFlow s (s.afterRead kind key) := by
  unfold State.afterRead
  split
  · unfold State.clearBad
    split
    · next d hd => exact leavesFlow_setDevice hd rfl rfl
    · exact LeavesFlow.refl s
  · exact LeavesFlow.refl s

theorem leavesFlow_newCycle (s : State) : LeavesFlow s s.newCycle :=
  LeavesFlow.of_map rfl rfl rfl rfl s.newCycle_device fun _ => ⟨rfl, rfl⟩

theorem leavesFlow_startLine (s : State) : LeavesFlow s s.startLine :=
  (Beside.leavesFlow ⟨rfl, rfl, rfl, rfl, rfl, rfl⟩ :
    LeavesFlow s (s.setBus { s.bus with line := .starting, starting := 0, recovery := none })).trans (leavesFlow_newCycle _)

theorem leavesFlow_issue (s : State) (e : Entry) : LeavesFlow s (s.issue e) := by
  unfold State.issue
  split
  · next d hd =>
    have hset : LeavesFlow s (s.setDevice e.slot (some { d with grant := some (s.grantOf e) })) :=
      leavesFlow_setDevice hd rfl rfl
    exact hset.trans (LeavesFlow.of_devices rfl rfl rfl rfl fun _ => ⟨rfl, rfl⟩)
  · exact LeavesFlow.refl s

theorem leavesFlow_takeBoundary (s : State) : LeavesFlow s s.takeBoundary := by
  have hflag : LeavesFlow s { s with motor := { s.motor with grantFlag := false } } :=
    Beside.leavesFlow ⟨rfl, rfl, rfl, rfl, rfl, rfl⟩
  refine LeavesFlow.ite (fun _ => ?_) fun _ => hflag
  split
  · exact hflag.trans (leavesFlow_issue _ _)
  · exact hflag

theorem Device.aged_flow (d : Device) : d.aged.flow = d.flow ∧ d.aged.target = d.target := by
  unfold Device.aged
  split <;> exact ⟨rfl, rfl⟩

theorem leavesFlow_exerciseAt (s : State) (i : Fin 48) : LeavesFlow s (s.exerciseAt i) := by
  unfold State.exerciseAt
  split
  · next d hd =>
    have hopen : ∀ q, LeavesFlow s (s.openExercise i d q) := fun q => by
      have hset : LeavesFlow s (s.setDevice i (some { d with exercisePhase := .opening })) := leavesFlow_setDevice hd rfl rfl
      exact hset.trans (LeavesFlow.of_devices rfl rfl rfl rfl fun _ => ⟨rfl, rfl⟩)
    refine LeavesFlow.ite (fun _ => ?_) fun _ => LeavesFlow.refl s
    unfold State.exerciseFree
    split
    · exact LeavesFlow.ite (fun _ => hopen _) fun _ => LeavesFlow.refl s
    · exact LeavesFlow.ite (fun _ => hopen _) fun _ => LeavesFlow.refl s
  · exact LeavesFlow.refl s

theorem leavesFlow_advanceHour (s : State) : LeavesFlow s s.advanceHour := by
  have hage : LeavesFlow s s.ageValves :=
    LeavesFlow.of_map rfl rfl rfl rfl (fun i => mapTable_get _ _ i) Device.aged_flow
  have hfold : ∀ (l : List (Fin 48)) (u : State), LeavesFlow u (l.foldl State.exerciseAt u) := by
    intro l
    induction l with
    | nil => exact LeavesFlow.refl
    | cons i l ih => exact fun u => (leavesFlow_exerciseAt u i).trans (ih _)
  exact hage.trans (hfold _ _)

/-! ### Records that evaluations read -/

theorem prepares_leaveOrder (s : State) (i : Fin 48) : Prepares s (s.leaveOrder i) := Prepares.of_eq rfl rfl rfl

theorem prepares_enterOrder (s : State) (i : Fin 48) : Prepares s (s.enterOrder i) := by
  rw [State.enterOrder_eq]
  exact Prepares.of_eq rfl rfl rfl

theorem prepares_takeMiss {i : Fin 48} {d : Device} (hd : s.device i = some d) (bad : Bool) :
    Prepares s (s.takeMiss i d bad) := by
  have hfollows : d.Follows (d.missed bad) := Device.follows_of_eq rfl rfl (fun hf hr => by
    constructor <;> intro h <;> simp [Device.missed, missState, h] at hf hr) rfl
  exact (prepares_setDevice hd hfollows).trans (quiet_raiseIf _ _ _).prepares

theorem prepares_takeReading {i : Fin 48} {d : Device} (hd : s.device i = some d) (temp : Int) :
    Prepares s (s.takeReading i d temp) := by
  have hfollows : d.Follows (d.reported3 temp) := Device.follows_of_eq rfl rfl (fun hf hr => by
    constructor <;> intro h <;> simp [Device.reported3, reportState, h] at hf hr) rfl
  have hread := (prepares_setDevice hd hfollows).trans
    (quiet_raiseIf _ (reportState d.state != d.state) .deviceState).prepares
  exact Prepares.ite (fun _ => hread.trans (prepares_leaveOrder _ i)) fun _ => hread

theorem prepares_returnToken (s : State) : Prepares s s.returnToken := Prepares.of_eq rfl rfl rfl

theorem prepares_endDone {i : Fin 48} {d : Device} (hd : s.device i = some d) (g : Grant) : Prepares s (s.endDone i d g) := by
  unfold State.endDone
  split
  all_goals
    refine ((prepares_setDevice hd ?_).trans (prepares_returnToken _)).trans (prepares_handNext _ _ _ _)
    exact Device.follows_of_eq rfl rfl (fun hf hr => ⟨hf, hr⟩) rfl

theorem prepares_endFailed {i : Fin 48} {d : Device} (hd : s.device i = some d) (g : Grant) :
    Prepares s (s.endFailed i d g) := by
  refine Prepares.ite (fun _ => ?_) fun _ => ?_
  · refine ((prepares_setDevice hd ?_).trans (prepares_returnToken _)).trans (prepares_handNext _ _ _ _)
    exact Device.follows_of_eq rfl rfl (fun hf hr => ⟨hf, hr⟩) rfl
  · have hfault := (prepares_setDevice hd (e := { d with
        grant := none, next := none, failureRun := d.failureRun + 1, commanded := none, exercisePhase := .none
        state := .faulted }) (d.follows_idle (.inl rfl))).trans
      ((prepares_returnToken _).trans (quiet_raise _ .deviceState).prepares)
    exact Prepares.ite (fun _ => hfault.trans (prepares_leaveOrder _ i)) fun _ => hfault

theorem prepares_takePosition {i : Fin 48} {d : Device} (hd : s.device i = some d) (position : Int) (motor : MotorState) :
    Prepares s (s.takePosition i d position motor) := by
  have hstored : Prepares s (s.setDevice i (some { d with reported := some position, motor })) :=
    prepares_setDevice hd (Device.follows_of_eq rfl rfl (fun hf hr => ⟨hf, hr⟩) rfl)
  have hdev : (s.setDevice i (some { d with reported := some position, motor })).device i =
      some { d with reported := some position, motor } := by simp
  unfold State.takePosition
  dsimp only
  split
  · next g _ =>
    refine Prepares.ite (fun _ => hstored.trans ?_) fun _ => hstored
    unfold State.takeOutcome
    split
    · exact prepares_setDevice hdev (Device.follows_of_eq rfl rfl (fun hf hr => ⟨hf, hr⟩) rfl)
    · exact Prepares.ite (fun _ => prepares_endDone hdev g) fun _ => Prepares.refl _
    · exact prepares_endFailed hdev g
  · exact hstored

theorem quiet_pressAt (s : State) (z : Fin 16) (address : Nat) (b : Button) : Quiet s (s.pressAt z address b) := by
  have hpush : ∀ d, Quiet s (s.pushStep z address d) := fun d =>
    Quiet.ite (fun _ => Quiet.refl s) fun _ => ((quiet_push s _ _ _ _ _).trans (quiet_raise _ _)).trans (quiet_resolve _ _)
  have hstep : ∀ d, Quiet s (s.step5 z address d) := fun d => by
    unfold State.step5
    split
    · refine Quiet.ite (fun _ => ?_) fun _ => hpush d
      exact ((quiet_putHold s _ _).trans (quiet_raise _ _)).trans (quiet_resolve _ _)
    · exact hpush d
  unfold State.pressAt
  split
  · exact hstep 5
  · exact hstep (-5)
  · unfold State.cancelTop
    split
    · exact ((quiet_setStack s _ _).trans (quiet_raise _ _)).trans (quiet_resolve _ _)
    · exact Quiet.refl s
  all_goals exact Quiet.refl s

theorem quiet_press (s : State) (zone : Option (Fin 16)) (address : Nat) (b : Button) : Quiet s (s.press zone address b) := by
  refine Quiet.ite (fun _ => quiet_wake s _) fun _ => ?_
  split
  · exact quiet_pressAt s _ address b
  · exact Quiet.refl s

theorem prepares_takeButton {i : Fin 48} {d : Device} (hd : s.device i = some d) (b : Button) (sequence : Nat) :
    Prepares s (s.takeButton i d b sequence) := by
  have htaken : Prepares s (s.setDevice i (some { d with lastSeq := sequence })) :=
    prepares_setDevice hd (Device.follows_of_eq rfl rfl (fun hf hr => ⟨hf, hr⟩) rfl)
  exact Prepares.ite (fun _ => Prepares.refl s) fun _ => htaken.trans (quiet_press _ _ _ _).prepares

theorem prepares_takeSlot (s : State) (i : Fin 48) (received : Option (List Byte)) : Prepares s (s.takeSlot i received) := by
  unfold State.takeSlot
  split
  · next d hd =>
    refine Prepares.ite (fun _ => Prepares.refl s) fun _ => ?_
    split
    · next r _ =>
      have hread := prepares_takeReading hd r.temp
      have hdev := s.takeReading_device i d r.temp
      unfold State.takeReport
      cases r with
      | valve temp position motor => exact hread.trans (prepares_takePosition hdev position motor)
      | sensor temp => exact hread
      | unit temp b q => exact hread.trans (prepares_takeButton hdev b q)
    · exact prepares_takeMiss hd false
    · exact prepares_takeMiss hd true
  · exact Prepares.refl s

theorem prepares_endGrant {i : Fin 48} {d e : Device} (hd : s.device i = some d) (he : d.Follows e) :
    Prepares s (s.endGrant i e) := by
  rw [State.endGrant_eq]
  have hset : Prepares s (s.setDevice i (some { e with grant := none, next := none, exercisePhase := .none })) :=
    prepares_setDevice hd he
  exact hset.trans (Prepares.of_eq rfl rfl rfl)

theorem flow_retire {i : Fin 48} {d : Device} (hd : s.device i = some d) : Flow p s (s.retire i d) := by
  have hqueue : Prepares s (s.setQueue (dequeue s.motor.queue i)) := Prepares.of_eq rfl rfl rfl
  have hdevice : (s.setQueue (dequeue s.motor.queue i)).device i = some d := hd
  have hend : Prepares s ((s.setQueue (dequeue s.motor.queue i)).endGrant i { d with state := .retiring }) :=
    hqueue.trans (prepares_endGrant hdevice (d.follows_idle (.inr rfl)))
  exact (Prepares.ite (fun _ => hend.trans (prepares_leaveOrder _ i)) fun _ => hend).evaluateFrom

/-- A record admitted, moved or found again: its valve is taken into forcing where it joins the bypass zone (R122). -/
theorem flow_admitAt (s : State) (i : Fin 48) (e : JoinEntry) (zone : Option (Fin 16)) : Flow p s (s.admitAt i e zone) := by
  refine Prepares.evaluateFrom (u := (s.admitRecord i e zone).joinForcing i) (prepares_joinForcing ?_ ?_ fun j hj => ?_)
  · rw [s.admitRecord_eq]; rfl
  · rw [s.admitRecord_eq]; rfl
  · rw [s.admitRecord_eq]
    change (s.setDevice i _).device j = _
    rw [State.setDevice_device, if_neg (Ne.symm hj)]

theorem flow_rebind (s : State) (i : Fin 48) (d : Device) (zone : Option (Fin 16)) : Flow p s (s.rebind i d zone) := by
  have heq : ((s.setDevice i (some { d with zone := zone })).dropMember d.zone d.kind).addMember zone d.kind =
      { s.setDevice i (some { d with zone := zone }) with
        zones := (((s.setDevice i (some { d with zone := zone })).dropMember d.zone d.kind).addMember zone d.kind).zones } := by
    rw [State.addMember_eq, State.dropMember_eq]
  refine (prepares_joinForcing (i := i) ?_ ?_ fun j hj => ?_).evaluateFrom
  · rw [heq]; rfl
  · rw [heq]; rfl
  · rw [heq]
    change (s.setDevice i _).device j = _
    rw [State.setDevice_device, if_neg (Ne.symm hj)]

theorem prepares_refind {i : Fin 48} {d : Device} (hd : s.device i = some d) (hr : d.state ≠ .retiring) :
    Prepares s (s.refind i d) := by
  obtain ⟨-, hkind, hzone, hstate⟩ := d.refound_leaves
  have htarget : d.refound.target = d.target := by unfold Device.refound; dsimp only; split <;> rfl
  have horder : ∀ u : State, (u.enterOrder i).time = u.time ∧ (u.enterOrder i).boiler = u.boiler ∧
      ∀ j, (u.enterOrder i).device j = u.device j := fun u => by
    rw [State.enterOrder_eq]; exact ⟨rfl, rfl, fun _ => rfl⟩
  obtain ⟨htime, hboiler, hdevice⟩ := horder (s.endGrant i d.refound)
  refine Prepares.ite (fun _ => prepares_joinForcing ?_ ?_ fun j hj => ?_) fun hf => ?_
  · rw [htime, State.endGrant_eq]; rfl
  · rw [hboiler, State.endGrant_eq]; rfl
  · rw [hdevice, State.endGrant_eq]
    change (s.setDevice i _).device j = _
    rw [State.setDevice_device, if_neg (Ne.symm hj)]
  · have hfollows : d.Follows d.refound := Device.follows_of_eq hkind hzone (fun _ _ => ⟨hf, hr⟩) htarget
    exact (prepares_endGrant hd hfollows).trans (prepares_enterOrder _ i)

theorem prepares_takeJoin (s : State) (serial : BitVec 32) (kind : DeviceKind) : Prepares s (s.takeJoin serial kind) := by
  unfold State.takeJoin
  split
  · unfold State.knownJoin
    split
    · next d hd => exact Prepares.ite (fun _ => Prepares.refl s) fun h => prepares_refind hd fun hr => h (.inl hr)
    · exact Prepares.refl s
  · exact Prepares.of_eq rfl rfl rfl
  · rw [State.newJoin_eq]; exact Prepares.of_eq rfl rfl rfl

theorem prepares_revoke (s : State) : Prepares s s.revoke := by
  refine Prepares.ite (fun _ => Prepares.refl s) fun _ => Prepares.of_devices rfl rfl fun i e he => ?_
  have he : (s.device i).map Device.revoked = some e := (mapTable_get _ _ i).symm.trans he
  obtain ⟨d, hd, rfl⟩ := Option.map_eq_some_iff.1 he
  refine ⟨d, hd, ?_⟩
  unfold Device.revoked
  split
  · exact Device.follows_of_eq rfl rfl (fun hf hr => ⟨hf, hr⟩) rfl
  · exact d.follows_refl

theorem prepares_leaveRunning (s : State) : Prepares s s.leaveRunning :=
  Prepares.ite (fun _ => prepares_revoke s) fun _ => Prepares.refl s

theorem prepares_stopLine (s : State) : Prepares s s.stopLine := (prepares_leaveRunning s).trans (quiet_setBus _ _).prepares

theorem prepares_faultLine (s : State) : Prepares s s.faultLine :=
  ((prepares_leaveRunning s).trans (quiet_setBus _ _).prepares).trans (quiet_raise _ _).prepares

theorem prepares_release (s : State) (i : Fin 48) (d : Device) : Prepares s (s.release i d) := by
  have hfree : Prepares s (s.setDevice i none) := Prepares.of_devices rfl rfl fun j e he => by
    rw [State.setDevice_device] at he
    split at he
    · cases he
    · exact ⟨e, he, e.follows_refl⟩
  unfold State.release
  rw [State.dropMember_eq]
  exact hfree.trans (Prepares.of_eq rfl rfl rfl)

theorem prepares_serveSlot (s : State) (i : Fin 48) : Prepares s (s.serveSlot i) := by
  have hpart : ∀ q sent answer invited, Prepares s (s.beginPart q sent answer invited) := fun _ _ _ _ =>
    (quiet_setBus s _).prepares
  unfold State.serveSlot
  split
  · next d hd =>
    refine Prepares.ite (fun _ => hpart _ _ _ _) fun _ => ?_
    refine Prepares.ite (fun _ => (hpart _ _ _ _).trans (prepares_release _ i d)) fun _ => ?_
    split
    · next g _ =>
      have hmove : ∀ u : State, u.device i = some d → Prepares u (u.sendMove i d g) := fun u hu =>
        prepares_setDevice hu (Device.follows_of_eq rfl rfl (fun hf hr => ⟨hf, hr⟩) rfl)
      exact Prepares.ite (fun _ => hpart _ _ _ _) fun _ => (hpart _ _ _ _).trans (hmove _ hd)
    · exact hpart _ _ _ _
  · exact hpart _ _ _ _

/-! ### The commands of the registry and the bus -/

theorem flow_admitDevice (s : State) (serial : BitVec 32) (zone : Byte) : Flow p s (s.admitDevice serial zone).1 := by
  unfold State.admitDevice
  split
  · exact Flow.refl s
  split
  · exact Flow.refl s
  split
  · exact Flow.refl s
  exact Flow.ite_fst (fun _ => Flow.refl s) fun _ => flow_admitAt s _ _ _

theorem flow_writeDevice (s : State) (key : Word) (items : List Item) : Flow p s (s.writeDevice key items).1 := by
  unfold State.writeDevice
  split
  · unfold State.rebindOr
    split
    · exact Flow.refl s
    · refine Flow.ite_fst (fun _ => Flow.refl s) fun _ => Flow.ite_fst (fun _ => Flow.refl s) fun _ => ?_
      exact Flow.ite_fst (fun _ => Flow.refl s) fun _ => flow_rebind s _ _ _
  · exact Flow.refl s

theorem flow_retireDevice (s : State) (key : Word) : Flow p s (s.retireDevice key).1 := by
  unfold State.retireDevice
  split
  · next i d h => exact Flow.ite_fst (fun _ => Flow.refl s) fun _ => flow_retire (State.deviceOf_spec h)
  · exact Flow.refl s

theorem beside_setJoins (s : State) (l : List JoinEntry) : Beside s (s.setJoins l) := ⟨rfl, rfl, rfl, rfl, rfl, rfl⟩

theorem beside_setBus (s : State) (b : Bus) : Beside s (s.setBus b) := ⟨rfl, rfl, rfl, rfl, rfl, rfl⟩

theorem beside_setLink (s : State) (l : Link) : Beside s (s.setLink l) := ⟨rfl, rfl, rfl, rfl, rfl, rfl⟩

theorem beside_reach (s : State) (n : Nat) : Beside s (s.reach n) := ⟨rfl, rfl, rfl, rfl, rfl, rfl⟩

theorem flow_retireJoin (s : State) (key : Word) : Flow p s (s.retireJoin key).1 := by
  unfold State.retireJoin
  split
  · exact (beside_setJoins s _).flow
  · exact Flow.refl s

theorem flow_writeMotor (s : State) (key : Word) (items : List Item) : Flow p s (s.writeMotor key items).1 := by
  refine Flow.ite_fst (fun _ => Flow.refl s) fun _ => Flow.ite_fst (fun _ => ?_) fun _ => Flow.refl s
  exact Flow.ite_fst (fun _ => Flow.refl s) fun _ => Beside.flow ⟨rfl, rfl, rfl, rfl, rfl, rfl⟩

theorem flow_runLine (s : State) : Flow p s s.runLine.1 := by
  unfold State.runLine
  split
  · exact (leavesFlow_startLine s).flow
  all_goals exact Flow.refl s

theorem flow_stop (s : State) : Flow p s s.stop.1 := by
  unfold State.stop
  split
  · exact Flow.refl s
  all_goals exact (prepares_stopLine s).evaluateFrom

/-- Fields of the boiler that neither path nor check reads are written. -/
theorem leavesFlow_setBoiler {b : Boiler} (h : b = { s.boiler with
      pulse := b.pulse, attempts := b.attempts, lockoutPin := b.lockoutPin }) : LeavesFlow s (s.setBoiler b) := by
  rw [h]
  exact ⟨SameFlow.of_eq rfl rfl rfl rfl, rfl, rfl, rfl, rfl, rfl, fun _ => rfl⟩

theorem flow_boilerReset (s : State) : Flow p s s.boilerReset.1 := by
  refine Flow.ite_fst (fun _ => Flow.ite_fst (fun _ => Flow.refl s) fun _ => ?_) fun _ => Flow.refl s
  exact Flow.ite_fst (fun _ => (leavesFlow_setBoiler rfl).flow) fun _ => Flow.refl s

/-! ### The host link -/

theorem flow_takeFrame (s : State) {f : State → State} (h : ∀ s, Flow p s (f s)) : Flow p s (s.takeFrame f) :=
  Flow.ite (fun _ => (beside_setLink s _).flow) fun _ => (h _).before (beside_setLink s _)

theorem flow_command (s : State) (c : Instr) {body : State → State × Answer} (h : ∀ s, Flow p s (body s).1) :
    Flow p s (s.command c body) :=
  flow_takeFrame s fun t => ((h _).before (beside_setLink t _)).after (beside_setLink _ _)

theorem flow_seek (s : State) (kind : RecordKind) : Flow p s (s.seek kind).1 :=
  Flow.ite_fst (fun _ => (beside_setLink s _).flow) fun _ => Flow.refl s

theorem flow_readRecord (s : State) (kind : RecordKind) (key : Word) (view first zone : Byte) :
    Flow p s (s.readRecord kind key view first zone).1 := by
  unfold State.readRecord
  split
  · exact Flow.refl s
  · exact Flow.refl s
  · exact Flow.ite_fst (fun _ => (leavesFlow_afterRead s kind key).flow) fun _ => Flow.refl s

theorem flow_nextRecord (s : State) (view first : Byte) : Flow p s (s.nextRecord view first).1 := by
  unfold State.nextRecord
  split
  · exact Flow.refl s
  split
  · unfold State.returnNext
    split
    · exact Flow.ite_fst (fun _ => ((leavesFlow_afterRead s _ _).flow).after (beside_setLink _ _)) fun _ => Flow.refl s
    all_goals exact Flow.refl s
  · exact Flow.refl s

theorem flow_warm (s : State) (hp : ¬ p) : Flow p s s.warm := Flow.of_low rfl rfl rfl hp

/-! ### Events -/

theorem quiet_reach_setBoiler {n : Nat} {b : Boiler} (hc : b.config.bypassZone = s.boiler.config.bypassZone)
    (hf : b.forcing = s.boiler.forcing) (hp : s.time.ready = false → b.pump = s.boiler.pump) :
    Quiet s ((s.reach n).setBoiler b) :=
  (quiet_reach s n).trans (quiet_setBoiler hc hf hp)

theorem exec_boilerTimer_flow (s : State) {c : Instr} (h : c = .outdoorHoldExpiry ∨ c = .sensorRecoveryExpiry ∨
    c = .tboffExpiry ∨ c = .tbonExpiry ∨ c = .waitFlowExpiry ∨ c = .pumpOverrunExpiry) :
    ∃ t, exec c s = .next t ∧ Flow p s t := by
  rcases h with rfl | rfl | rfl | rfl | rfl | rfl <;> refine ⟨_, rfl, ?_⟩
  · split
    · exact Quiet.flow_evaluate (quiet_reach_setBoiler rfl rfl fun _ => rfl)
    · exact Flow.refl s
  · split
    · exact ((quiet_reach s _).trans (quiet_burnerOff _)).flow_evaluate
    · exact Flow.refl s
  · exact Flow.ite (fun _ => Quiet.flow_evaluate (quiet_reach_setBoiler rfl rfl fun _ => rfl)) fun _ => Flow.refl s
  · split
    · exact Quiet.flow_evaluate (quiet_reach_setBoiler rfl rfl fun _ => rfl)
    · exact Flow.refl s
  · split
    · refine Quiet.flow_evaluate (Quiet.trans ?_ (quiet_raise _ .boiler))
      exact quiet_reach_setBoiler rfl rfl fun _ => rfl
    · exact Flow.refl s
  · split
    · refine Flow.ite (fun _ => (quiet_reach s _).flow_evaluate) fun _ => Quiet.flow_evaluate ?_
      exact ⟨rfl, rfl, rfl, fun _ => rfl, rfl, rfl, fun _ _ => rfl⟩
    · exact Flow.refl s

theorem exec_lockout_flow (s : State) {c : Instr} (h : c = .lockoutAssert ∨ c = .lockoutRelease ∨ c = .lockoutResetPulseEnd) :
    ∃ t, exec c s = .next t ∧ Flow p s t := by
  rcases h with rfl | rfl | rfl <;> refine ⟨_, rfl, ?_⟩
  · have hpin : Quiet s (s.setBoiler { s.boiler with lockoutPin := true }) := quiet_setBoiler rfl rfl fun _ => rfl
    exact Flow.ite (fun _ => (hpin.trans (quiet_lockOut _)).flow_evaluate) fun _ => (leavesFlow_setBoiler rfl).flow
  · have hpin : Quiet s (s.setBoiler { s.boiler with lockoutPin := false }) := quiet_setBoiler rfl rfl fun _ => rfl
    exact Flow.ite (fun _ => (hpin.trans (quiet_endLockout _)).flow_evaluate) fun _ => (leavesFlow_setBoiler rfl).flow
  · split
    · next t _ =>
      have hend : ∀ u : State, Quiet u (u.setBoiler { u.boiler with pulse := none }) := fun u =>
        quiet_setBoiler rfl rfl fun _ => rfl
      have hfailed : ∀ u : State, LeavesFlow u (u.setBoiler { u.boiler with pulse := none }).failedAttempt := fun u =>
        (leavesFlow_setBoiler (s := u) (b := { u.boiler with
          pulse := none, attempts := min 3 (u.boiler.attempts + 1) }) rfl).trans (beside_setLink _ _).leavesFlow
      exact Flow.ite (fun _ => (hfailed _).flow.before (beside_reach s _)) fun _ =>
        (((quiet_reach s _).trans (hend _)).trans (quiet_endLockout _)).flow_evaluate
    · exact Flow.refl s

theorem exec_cylinderTimer_flow (s : State) {c : Instr} (h : c = .tprioExpiry ∨ c = .tgapExpiry ∨ c = .cylinderRecoveryExpiry) :
    ∃ t, exec c s = .next t ∧ Flow p s t := by
  rcases h with rfl | rfl | rfl <;> refine ⟨_, rfl, ?_⟩
  · split
    · exact ((quiet_reach s _).trans (quiet_prioExpires _)).flow_evaluate
    · exact Flow.refl s
  · split
    · exact ((quiet_reach s _).trans (quiet_gapExpires _)).flow_evaluate
    · exact Flow.refl s
  · split
    · exact ((quiet_reach s _).trans (quiet_toIdle _)).flow_evaluate
    · exact Flow.refl s

theorem exec_tick_flow (s : State) {c : Instr} (h : c = .minuteTick ∨ c = .controlTick ∨ (∃ z, c = .zoneControlTick z) ∨
    c = .hourCountAdvance ∨ ∃ a b d, c = .sensorSample a b d) : ∃ t, exec c s = .next t ∧ Flow p s t := by
  rcases h with rfl | rfl | ⟨z, rfl⟩ | rfl | ⟨a, b, d, rfl⟩ <;> refine ⟨_, rfl, ?_⟩
  · split
    · exact Flow.refl s
    · next n _ =>
      have hadvance : Beside s (s.advanceMinute n) := ⟨rfl, rfl, rfl, rfl, rfl, rfl⟩
      exact Flow.ite (fun _ => (evaluated_minuteTick _).flow.before hadvance)
        fun _ => Beside.flow ⟨rfl, rfl, rfl, rfl, rfl, rfl⟩
  · split
    · exact Flow.refl s
    · exact Flow.ite (fun _ => Beside.flow ⟨rfl, rfl, rfl, rfl, rfl, rfl⟩) fun _ => Beside.flow ⟨rfl, rfl, rfl, rfl, rfl, rfl⟩
  · have htaken : ∀ u : State, Beside u (u.tickTaken z) := fun _ => ⟨rfl, rfl, rfl, rfl, rfl, rfl⟩
    exact Flow.ite (fun _ => (flow_zoneTick s z).after (htaken _)) fun _ => Flow.refl s
  · have hdue : Beside s { s with clock := { s.clock with hourDue := false } } := ⟨rfl, rfl, rfl, rfl, rfl, rfl⟩
    exact Flow.ite (fun _ => (leavesFlow_advanceHour _).flow.before hdue) fun _ => Flow.refl s
  · split
    · exact Flow.refl s
    · next n _ =>
      have hadvance : Beside s (s.advanceSample n) := ⟨rfl, rfl, rfl, rfl, rfl, rfl⟩
      exact Flow.ite (fun _ => (evaluated_takeSample _ a b d).flow.before hadvance)
        fun _ => Beside.flow ⟨rfl, rfl, rfl, rfl, rfl, rfl⟩

theorem exec_slot_flow (s : State) {c : Instr} (h : (∃ i, c = .deviceSlotBegin i) ∨ (∃ i r, c = .deviceSlotEnd i r) ∨
    (∃ i, c = .grantTimeout i) ∨ c = .groupSlot ∨ c = .joinSlot ∨ ∃ r, c = .joinReq r) :
    ∃ t, exec c s = .next t ∧ Flow p s t := by
  rcases h with ⟨i, rfl⟩ | ⟨i, r, rfl⟩ | ⟨i, rfl⟩ | rfl | rfl | ⟨r, rfl⟩ <;> refine ⟨_, rfl, ?_⟩
  · exact Flow.ite (fun _ => ((quiet_reach s _).prepares.trans (prepares_serveSlot _ i)).evaluateFrom) fun _ => Flow.refl s
  · have hend : ∀ n, Prepares s (s.reachPart n).endPart := fun n => ((quiet_reach s _).trans (quiet_setBus _ _)).prepares
    exact Flow.ite (fun _ => ((hend _).trans (prepares_takeSlot _ i r)).evaluateFrom) fun _ => Flow.refl s
  · split
    · next d hd =>
      split
      · next g _ => exact ((quiet_reach s _).prepares.trans (prepares_endFailed (s := s.reach _) hd g)).evaluateFrom
      · exact Flow.refl s
    · exact Flow.refl s
  · refine Flow.ite (fun _ => ?_) fun _ => Flow.refl s
    have hserve : ∀ u : State, Beside u u.serveGroup := fun u => by
      unfold State.serveGroup; split <;> exact ⟨rfl, rfl, rfl, rfl, rfl, rfl⟩
    exact ((beside_reach s _).trans (hserve _)).flow
  · refine Flow.ite (fun _ => ?_) fun _ => Flow.refl s
    have hserve : ∀ u : State, Beside u u.serveJoin := fun u => by
      unfold State.serveJoin; split <;> exact ⟨rfl, rfl, rfl, rfl, rfl, rfl⟩
    exact ((beside_reach s _).trans (hserve _)).flow
  · refine Flow.ite (fun _ => ?_) fun _ => Flow.refl s
    have hend : Beside s (s.reachPart Config.tCYC).endPart := ⟨rfl, rfl, rfl, rfl, rfl, rfl⟩
    dsimp only
    split
    · exact (hend.quiet.prepares.trans (prepares_takeJoin _ _ _)).evaluateFrom
    · exact hend.flow

theorem exec_line_flow (s : State) {c : Instr} (h : c = .overcurrent ∨ c = .lineFaultRecoveryExpiry ∨ c = .cycleBegin ∨
    ∃ k, c = .windowBoundary k) : ∃ t, exec c s = .next t ∧ Flow p s t := by
  rcases h with rfl | rfl | rfl | ⟨k, rfl⟩ <;> refine ⟨_, rfl, ?_⟩
  · exact Flow.ite (fun _ => (prepares_faultLine s).evaluateFrom) fun _ => Flow.refl s
  · split
    · exact (leavesFlow_startLine _).flow.before (beside_reach s _)
    · exact Flow.refl s
  · exact Flow.ite (fun _ => (leavesFlow_newCycle _).flow.before (beside_reach s _)) fun _ => Flow.refl s
  · refine Flow.ite (fun _ => ?_) fun _ => Flow.refl s
    exact (leavesFlow_takeBoundary _).flow.before ((beside_reach s _).trans (beside_setBus _ _))

/-! ### Every command and event, and every step -/

/-- Every command and event, with what it does to the minimum flow path. -/
theorem exec_flow (c : Instr) (s : State) :
    ∃ t, exec c s = .next t ∧ Flow (c ≠ .warmReset ∧ c ≠ .powerOnReset) s t := by
  cases c with
  | powerOnReset => exact ⟨_, rfl, Flow.of_low rfl rfl rfl fun h => h.2 rfl⟩
  | readySet a b d => exact ⟨_, rfl, Flow.ite (fun _ => Flow.refl s) fun _ =>
      Flow.ite (fun _ => (evaluated_warmReady s a b d).flow) fun _ => (evaluated_firstReady s a b d).flow⟩
  | frameCrcError bytes => exact ⟨_, rfl, flow_takeFrame s fun t => Flow.before (beside_setLink t _)
      (Flow.ite (fun _ => (beside_setLink _ _).flow) fun _ => Flow.refl _)⟩
  | shortFrame bytes =>
    exact ⟨_, rfl, Flow.ite (fun _ => (beside_setLink s _).flow) fun _ => flow_takeFrame s fun t => (beside_setLink t _).flow⟩
  | frameWhileNotReady => exact ⟨_, rfl, Flow.ite (fun _ => (beside_setLink s _).flow) fun _ => Flow.refl s⟩
  | nop => exact ⟨_, rfl, flow_takeFrame s fun t => (beside_setLink t _).flow⟩
  | read kind key view first zone => exact ⟨_, rfl, flow_command s _ fun t => flow_readRecord t kind key view first zone⟩
  | writeZone key items => exact ⟨_, rfl, flow_command s _ fun t => flow_writeZone t key items⟩
  | enable z => exact ⟨_, rfl, flow_command s _ fun t => flow_writeRoom t z _⟩
  | disable z => exact ⟨_, rfl, flow_command s _ fun t => flow_writeRoom t z _⟩
  | zwEnable => exact ⟨_, rfl, flow_command s _ fun t => flow_writeCylinder t _⟩
  | zwDisable => exact ⟨_, rfl, flow_command s _ fun t => flow_writeCylinder t _⟩
  | createPoint key items => exact ⟨_, rfl, flow_command s _ fun t => flow_createPoint t key items⟩
  | writePoint key items => exact ⟨_, rfl, flow_command s _ fun t => flow_writePoint t key items⟩
  | retirePoint key zone => exact ⟨_, rfl, flow_command s _ fun t => flow_retirePoint t key zone⟩
  | createHold items => exact ⟨_, rfl, flow_command s _ fun t => flow_createHold t items⟩
  | writeHold key items => exact ⟨_, rfl, flow_command s _ fun t => flow_writeHold t key items⟩
  | retireHold key => exact ⟨_, rfl, flow_command s _ fun t => flow_retireHold t key⟩
  | writeHouse key items => exact ⟨_, rfl, flow_command s _ fun t => flow_writeHouse t key items⟩
  | writeBoiler key items => exact ⟨_, rfl, flow_command s _ fun t => flow_writeBoiler t key items⟩
  | writeDevice key items => exact ⟨_, rfl, flow_command s _ fun t => flow_writeDevice t key items⟩
  | retireDevice key => exact ⟨_, rfl, flow_command s _ fun t => flow_retireDevice t key⟩
  | retireJoin key => exact ⟨_, rfl, flow_command s _ fun t => flow_retireJoin t key⟩
  | writeMotor key items => exact ⟨_, rfl, flow_command s _ fun t => flow_writeMotor t key items⟩
  | seek kind => exact ⟨_, rfl, flow_command s _ fun t => flow_seek t kind⟩
  | next view first => exact ⟨_, rfl, flow_command s _ fun t => flow_nextRecord t view first⟩
  | admitDevice serial zone => exact ⟨_, rfl, flow_command s _ fun t => flow_admitDevice t serial zone⟩
  | setClock time => exact ⟨_, rfl, flow_command s _ fun t => flow_setClock t time⟩
  | setMode mode countdown => exact ⟨_, rfl, flow_command s _ fun t => flow_setMode t mode countdown⟩
  | run => exact ⟨_, rfl, flow_command s _ fun t => flow_runLine t⟩
  | stop => exact ⟨_, rfl, flow_command s _ fun t => flow_stop t⟩
  | boilerReset => exact ⟨_, rfl, flow_command s _ fun t => flow_boilerReset t⟩
  | readNotices => exact ⟨_, rfl, flow_command s _ fun t => (beside_setLink t _).flow⟩
  | writeNoticeEnables mask => exact ⟨_, rfl, flow_command s _ fun t => (beside_setLink t _).flow⟩
  | warmReset => exact ⟨_, rfl, flow_command s _ fun t => flow_warm t fun h => h.1 rfl⟩
  | minuteTick => exact exec_tick_flow s (by simp)
  | holdCountdownExpiry handle => exact ⟨_, rfl, Flow.ite (fun _ => flow_expireHold s handle) fun _ => Flow.refl s⟩
  | returnCountdownExpiry => exact ⟨_, rfl, Flow.ite (fun _ => flow_expireReturn s) fun _ => Flow.refl s⟩
  | hourCountAdvance => exact exec_tick_flow s (by simp)
  | startListEntryExpiry => exact ⟨_, rfl, Flow.ite (fun _ => flow_expireStart s) fun _ => Flow.refl s⟩
  | joinEntryExpiry number => exact ⟨_, rfl, Flow.ite (fun _ => flow_expireJoin s number) fun _ => Flow.refl s⟩
  | controlTick => exact exec_tick_flow s (by simp)
  | zoneControlTick z => exact exec_tick_flow s (by simp)
  | sensorSample a b d => exact exec_tick_flow s (by simp)
  | outdoorHoldExpiry => exact exec_boilerTimer_flow s (by simp)
  | sensorRecoveryExpiry => exact exec_boilerTimer_flow s (by simp)
  | tboffExpiry => exact exec_boilerTimer_flow s (by simp)
  | tbonExpiry => exact exec_boilerTimer_flow s (by simp)
  | waitFlowExpiry => exact exec_boilerTimer_flow s (by simp)
  | lockoutAssert => exact exec_lockout_flow s (by simp)
  | lockoutRelease => exact exec_lockout_flow s (by simp)
  | lockoutResetPulseEnd => exact exec_lockout_flow s (by simp)
  | pumpOverrunExpiry => exact exec_boilerTimer_flow s (by simp)
  | tprioExpiry => exact exec_cylinderTimer_flow s (by simp)
  | tgapExpiry => exact exec_cylinderTimer_flow s (by simp)
  | cylinderRecoveryExpiry => exact exec_cylinderTimer_flow s (by simp)
  | wakeInputEdge => exact ⟨_, rfl, Flow.ite (fun _ => (quiet_wake s _).flow_evaluateFrom) fun _ => Flow.refl s⟩
  | cycleBegin => exact exec_line_flow s (by simp)
  | windowBoundary k => exact exec_line_flow s (by simp)
  | deviceSlotBegin i => exact exec_slot_flow s (by simp)
  | deviceSlotEnd i r => exact exec_slot_flow s (by simp)
  | grantTimeout i => exact exec_slot_flow s (by simp)
  | groupSlot => exact exec_slot_flow s (by simp)
  | joinSlot => exact exec_slot_flow s (by simp)
  | joinReq r => exact exec_slot_flow s (by simp)
  | overcurrent => exact exec_line_flow s (by simp)
  | lineFaultRecoveryExpiry => exact exec_line_flow s (by simp)
  | frameBegin => exact ⟨_, rfl, (beside_setLink s _).flow⟩
  | resetnRelease => exact ⟨_, rfl, Flow.ite (fun _ => Flow.refl s) fun _ => Beside.flow ⟨rfl, rfl, rfl, rfl, rfl, rfl⟩⟩
  | badCommand command kind => exact ⟨_, rfl, flow_command s _ fun t => Flow.refl t⟩

theorem step_flow (h : step s = .next t) : Flow False s t := by
  unfold step at h
  split at h
  · cases h; exact (beside_reach s _).flow
  · next c rest _ =>
    obtain ⟨u, hu, hflow⟩ := exec_flow c { s with pending := rest }
    cases hu.symm.trans h
    have hrest : Beside s { s with pending := rest } := ⟨rfl, rfl, rfl, rfl, rfl, rfl⟩
    exact ⟨(hflow.before hrest).bypass, (hflow.before hrest).reported, (hflow.before hrest).begins, False.elim⟩

/-- Settles O59, from what an evaluation makes of the path (`pathOpen_evaluate`, `State.Urged`) and what every event
writes before it evaluates (`exec_flow`). -/
theorem bypassPathKept : Obligations.BypassPathKept := by
  refine ⟨fun s t hs h => (step_flow h).bypass hs, fun s z hs hpump hz _ => ?_, fun s t hs h => (step_flow h).reported hs⟩
  obtain ⟨hforced, -, hopen⟩ := s.bypassInv_iff.1 hs
  refine (hopen hpump).imp id fun hf i d hd hk hzone hfault hretire => ?_
  obtain ⟨y, hy, hmeet⟩ := s.forcedOpen_iff.1 (hforced hf)
  obtain rfl : z = y := Option.some.inj (hz.symm.trans hy)
  exact hmeet i d hd (by simp [Device.servesZone, hk, hzone, hfault, hretire])

end Sys2Proof.Machine

/-! A zone's valves under stage 4 and forcing, valve by valve (R89 to R92, R94, R122). -/

namespace Sys2Proof.Machine

variable {s t : State} {z : Fin 16} {i : Fin 48} {d : Device}

/-! ### Stage 4, at one record and its queue entry -/

/-- What stage 4 of a zone leaves at a record and its queue entry. -/
def State.stage4 (s : State) (z : Fin 16) (i : Fin 48) (d : Device) : Device × Option Entry :=
  if d.servesZone z then
    if s.forced z then d.forced i (s.entryOf i)
    else d.targeted (s.zone z).config.hysteresis (s.zone z).ownTarget i (s.entryOf i)
  else (d, s.entryOf i)

theorem State.stage4_unserved (h : d.servesZone z = false) : s.stage4 z i d = (d, s.entryOf i) := if_neg (by simp [h])

theorem State.stage4_forced (h : d.servesZone z = true) (hf : s.forced z = true) :
    s.stage4 z i d = d.forced i (s.entryOf i) := by
  rw [State.stage4, if_pos h, if_pos hf]

theorem State.stage4_targeted (h : d.servesZone z = true) (hf : s.forced z = false) : s.stage4 z i d =
    d.targeted (s.zone z).config.hysteresis (s.zone z).ownTarget i (s.entryOf i) := by
  rw [State.stage4, if_pos h, if_neg (by simp [hf])]

/-- An operation over the valves of a zone, at each of them. -/
theorem ActsAt.foldl_valves {f : State → Fin 48 → State} {g : Fin 48 → Device → Option Entry → Device × Option Entry}
    (h : ActsAt f g) (hs : s.SlotsApart) (hd : s.device i = some d) (l : List (Fin 48)) (hl : l.Nodup)
    (hmem : i ∈ l ↔ d.servesZone z = true) :
    (l.foldl f s).device i = some (if d.servesZone z then g i d (s.entryOf i) else (d, s.entryOf i)).1 ∧
      (l.foldl f s).entryOf i = (if d.servesZone z then g i d (s.entryOf i) else (d, s.entryOf i)).2 := by
  by_cases hz : d.servesZone z = true
  · rw [if_pos hz]; exact h.foldl_mem hl (hmem.2 hz) hs hd
  · rw [if_neg hz]
    obtain ⟨hdevice, hentry⟩ := h.foldl_other (mt hmem.1 hz) hs
    exact ⟨hdevice.trans hd, hentry⟩

theorem mem_valvesOf_of_device (hd : s.device i = some d) : i ∈ s.valvesOf z ↔ d.servesZone z = true := by
  rw [mem_valvesOf]
  constructor
  · rintro ⟨e, he, hz⟩
    cases hd.symm.trans he
    exact hz
  · exact fun hz => ⟨d, hd, hz⟩

theorem targetValves_at (hs : s.SlotsApart) (hd : s.device i = some d) :
    (s.targetValves z).device i = some (s.stage4 z i d).1 ∧ (s.targetValves z).entryOf i = (s.stage4 z i d).2 := by
  unfold State.targetValves State.stage4
  split
  · exact actsAt_forceValve.foldl_valves hs hd _ (nodup_valvesOf s z) (mem_valvesOf_of_device hd)
  · exact (actsAt_targetValve _ _).foldl_valves hs hd _ (nodup_valvesOf s z) (mem_valvesOf_of_device hd)

theorem targetValves_free (hs : s.SlotsApart) (hd : s.device i = none) :
    (s.targetValves z).device i = none ∧ (s.targetValves z).entryOf i = s.entryOf i := by
  have hout : i ∉ s.valvesOf z := fun h => by
    obtain ⟨d, hd', -⟩ := mem_valvesOf.1 h
    rw [hd] at hd'; cases hd'
  unfold State.targetValves
  split
  · obtain ⟨hdevice, hentry⟩ := actsAt_forceValve.foldl_other hout hs
    exact ⟨hdevice.trans hd, hentry⟩
  · obtain ⟨hdevice, hentry⟩ :=
      (actsAt_targetValve (s.zone z).config.hysteresis (s.zone z).ownTarget).foldl_other hout hs
    exact ⟨hdevice.trans hd, hentry⟩

theorem targetValves_slotsApart (hs : s.SlotsApart) (z : Fin 16) : (s.targetValves z).SlotsApart := by
  unfold State.targetValves
  split
  · exact actsAt_forceValve.foldl_apart _ hs
  · exact (actsAt_targetValve _ _).foldl_apart _ hs

/-- Stage 4 reads of the state the zone's target and deadband, forcing, and the valve with its entry. -/
theorem targetValves_congr (hs : s.SlotsApart) (ht : t.SlotsApart) (hsd : s.device i = some d) (htd : t.device i = some d)
    (hentry : t.entryOf i = s.entryOf i) (hforced : t.forced z = s.forced z)
    (hh : (t.zone z).config.hysteresis = (s.zone z).config.hysteresis) (hp : (t.zone z).ownTarget = (s.zone z).ownTarget) :
    (t.targetValves z).device i = (s.targetValves z).device i ∧ (t.targetValves z).entryOf i = (s.targetValves z).entryOf i := by
  obtain ⟨h1, h2⟩ := targetValves_at (z := z) hs hsd
  obtain ⟨k1, k2⟩ := targetValves_at (z := z) ht htd
  have hsame : t.stage4 z i d = s.stage4 z i d := by simp only [State.stage4, hentry, hforced, hh, hp]
  rw [h1, h2, k1, k2, hsame]
  exact ⟨rfl, rfl⟩

/-! ### The target handed, by what the valve has (R90, R91) -/

theorem Device.targeted_target (h p : Int) (d : Device) (i : Fin 48) (e : Option Entry) : (d.targeted h p i e).1.target = p := by
  unfold Device.targeted; split <;> rfl

theorem Device.forced_target (d : Device) (i : Fin 48) (e : Option Entry) : (d.forced i e).1.target = 100 := by
  unfold Device.forced
  split
  · rfl
  · next h => exact not_not.1 (not_or.1 h).1

theorem outsideDeadband_iff (h p : Int) (o : Option Int) : outsideDeadband h p o = true ↔
    o = none ∨ ∃ c, o = some c ∧ (h ≤ |p - c| ∨ ((p = 0 ∨ p = 100) ∧ p ≠ c)) := by
  cases o <;> simp [outsideDeadband]

/-- A valve without entry and grant gets an entry for a target outside the deadband (R90). -/
theorem Device.targeted_idle (h p : Int) (hd : d.handable = true) (hg : d.grant = none) :
    (d.targeted h p i none).2 = if outsideDeadband h p d.commanded = true ∧ d.commanded ≠ some p then
      some { slot := i, kind := .position, target := p, cls := .normal } else none := by
  have hhands : handsTarget d none h p = outsideDeadband h p d.commanded := by simp only [handsTarget, hg]
  unfold Device.targeted
  rw [hhands]
  by_cases ho : outsideDeadband h p d.commanded = true
  · rw [if_pos ho]
    by_cases hc : d.commanded = some p <;> simp [ho, hc, Device.setAndHanded, Device.entryAfter, hd, hg]
  · rw [if_neg ho, if_neg fun h => ho h.1]

/-- A valve with an entry: a POSITION entry takes a target that differs, an EXERCISE entry stays (R91). -/
theorem Device.targeted_queued (h p : Int) (hd : d.handable = true) (hg : d.grant = none) (e : Entry) :
    (d.targeted h p i (some e)).2 = if e.kind = .exercise ∨ p = e.target then some e
      else if d.commanded = some p then none else some { e with target := p, cls := .normal } := by
  have hhands : handsTarget d (some e) h p = (e.kind == .position && p != e.target) := by simp only [handsTarget, hg]
  unfold Device.targeted
  rw [hhands]
  cases hk : e.kind with
  | exercise => simp
  | position =>
    by_cases hp : p = e.target
    · simp [hp]
    · simp [hp, Device.setAndHanded, Device.entryAfter, hd, hg, hk]

/-- A valve with a grant: the next target is what differs from the target held (R91, R187). -/
theorem Device.targeted_granted (h p : Int) (hd : d.handable = true) {g : Grant} (hg : d.grant = some g) (e : Option Entry) :
    (d.targeted h p i e).1.next = if g.kind = .exercise ∨ p = d.next.elim g.target NextTarget.target then d.next
      else if p = g.target then none else some { target := p, cls := .normal } := by
  have hhands : handsTarget d e h p = (g.kind == .position && p != d.next.elim g.target NextTarget.target) := by
    simp only [handsTarget, hg]
  unfold Device.targeted
  rw [hhands]
  cases hk : g.kind with
  | exercise => simp
  | position =>
    by_cases hp : p = d.next.elim g.target NextTarget.target
    · simp [hp]
    · simp [hp, Device.setAndHanded, Device.nextAfter, hd, hg, handToGrant, hk]

/-- A hand leaves the entry and the next target that `Device.setAndHanded` names. -/
theorem hand_at (hs : s.SlotsApart) (hd : s.device i = some d) (p : Int) (c : Class) :
    (s.hand i p c).entryOf i = (d.setAndHanded c p i (s.entryOf i)).2 ∧
      ((s.hand i p c).device i).map Device.next = some (d.setAndHanded c p i (s.entryOf i)).1.next := by
  rw [State.hand_entryOf hs hd, State.hand_device, if_pos rfl, hd]
  exact ⟨rfl, rfl⟩

/-! ### Forcing, at one valve -/

theorem evalForcing_begins_at (hs : s.SlotsApart) (hz : s.boiler.config.bypassZone = some z) (hd : s.device i = some d)
    (hserves : d.servesZone z = true) (hf : s.boiler.forcing = false) (hw : s.forcingWanted = true) :
    s.evalForcing.device i = some (d.setAndHanded .urgent 100 i (s.entryOf i)).1 ∧
      s.evalForcing.entryOf i = (d.setAndHanded .urgent 100 i (s.entryOf i)).2 := by
  rw [State.evalForcing_begins hf hw hz]
  exact (actsAt_setAndHand _ _).foldl_mem (s := s.setBoiler { s.boiler with forcing := true }) (nodup_valvesOf s z)
    ((mem_valvesOf_of_device hd).2 hserves) hs hd

theorem evalForcing_ends_at (hs : s.SlotsApart) (hz : s.boiler.config.bypassZone = some z) (hd : s.device i = some d)
    (hserves : d.servesZone z = true) (hf : s.boiler.forcing = true) (hw : s.forcingWanted = false) :
    s.evalForcing.device i = some (d.setAndHanded .normal (s.zone z).ownTarget i (s.entryOf i)).1 ∧
      s.evalForcing.entryOf i = (d.setAndHanded .normal (s.zone z).ownTarget i (s.entryOf i)).2 := by
  rw [State.evalForcing_ends hf hw, State.endForcing_zone hz]
  exact (actsAt_setAndHand _ _).foldl_mem (s := s.setBoiler { s.boiler with forcing := false }) (nodup_valvesOf s z)
    ((mem_valvesOf_of_device hd).2 hserves) hs hd

/-- Forcing leaves the valves of other zones and their entries. -/
theorem evalForcing_other (hs : s.SlotsApart) (hi : ∀ y, s.boiler.config.bypassZone = some y → i ∉ s.valvesOf y) :
    s.evalForcing.device i = s.device i ∧ s.evalForcing.entryOf i = s.entryOf i := by
  by_cases hsame : s.boiler.forcing = s.forcingWanted
  · rw [State.evalForcing_same hsame]; exact ⟨rfl, rfl⟩
  cases hf : s.boiler.forcing with
  | false =>
    have hw : s.forcingWanted = true := by simpa [hf] using Ne.symm hsame
    obtain ⟨z, hz⟩ := bypassZone_of_fails (s.forcingWanted_iff.1 hw).2
    rw [State.evalForcing_begins hf hw hz]
    exact (actsAt_setAndHand _ _).foldl_other (s := s.setBoiler { s.boiler with forcing := true }) (hi z hz) hs
  | true =>
    have hw : s.forcingWanted = false := by simpa [hf] using Ne.symm hsame
    rw [State.evalForcing_ends hf hw]
    cases hz : s.boiler.config.bypassZone with
    | none => simp only [State.endForcing, hz]; exact ⟨rfl, rfl⟩
    | some z =>
      rw [State.endForcing_zone hz]
      exact (actsAt_setAndHand _ _).foldl_other (s := s.setBoiler { s.boiler with forcing := false }) (hi z hz) hs

theorem Quiet.entryOf (h : Quiet s t) (i : Fin 48) : t.entryOf i = s.entryOf i := by simp only [State.entryOf, h.queue]

theorem Quiet.device (h : Quiet s t) (i : Fin 48) : t.device i = s.device i := by simp only [State.device, h.devices]

theorem Quiet.valvesOf (h : Quiet s t) (z : Fin 16) : t.valvesOf z = s.valvesOf z := by
  simp only [State.valvesOf, h.device]

theorem evaluate_other (hs : s.SlotsApart) (hi : ∀ y, s.boiler.config.bypassZone = some y → i ∉ s.valvesOf y) :
    s.evaluate.device i = s.device i ∧ s.evaluate.entryOf i = s.entryOf i := by
  cases hr : s.time.ready with
  | false => rw [State.evaluate_low hr]; exact ⟨rfl, rfl⟩
  | true =>
    have hquiet := quiet_pumped hr
    rw [State.evaluate_eq hr, ← hquiet.device i, ← hquiet.entryOf i]
    refine evalForcing_other ?_ fun y hy => ?_
    · rw [State.SlotsApart, hquiet.queue]; exact hs
    · rw [hquiet.valvesOf]; exact hi y (hquiet.bypass ▸ hy)

theorem evaluateFrom_other (before : State) (hs : s.SlotsApart)
    (hi : ∀ y, s.boiler.config.bypassZone = some y → i ∉ s.valvesOf y) :
    (s.evaluateFrom before).device i = s.device i ∧ (s.evaluateFrom before).entryOf i = s.entryOf i := by
  unfold State.evaluateFrom
  split
  · exact ⟨rfl, rfl⟩
  · exact evaluate_other hs hi

/-! ### The control tick of a zone that forcing does not govern -/

theorem State.forced_eq_false (hb : s.boiler.config.bypassZone ≠ some z) : s.forced z = false := by
  simp [State.forced, hb]

/-- A device of another zone than the bypass zone is none of its valves. -/
theorem not_mem_valvesOf (hd : s.device i = some d) (hz : d.zone = some z) (hb : s.boiler.config.bypassZone ≠ some z) :
    ∀ y, s.boiler.config.bypassZone = some y → i ∉ s.valvesOf y := by
  intro y hy h
  rw [mem_valvesOf_of_device hd] at h
  simp only [Device.servesZone, Bool.and_eq_true, beq_iff_eq] at h
  exact hb (hy.trans (h.1.1.2.symm.trans hz))

/-- What stage 4 leaves at a device of its zone outlasts an evaluation that follows. -/
theorem targetValves_outlasts {u v : State} (hu : u.SlotsApart) (hb : u.boiler.config.bypassZone ≠ some z)
    (hd : u.device i = some d) (hz : d.zone = some z) (hv : Quiet (u.targetValves z) v) : v.SlotsApart ∧
      (∀ y, v.boiler.config.bypassZone = some y → i ∉ v.valvesOf y) ∧
      v.device i = (u.targetValves z).device i ∧ v.entryOf i = (u.targetValves z).entryOf i := by
  obtain ⟨e, he, hkept⟩ : ∃ e, (u.targetValves z).device i = some e ∧ e.kept = d.kept := by
    have := (u.settlesTo_targetValves z).2 i
    rw [hd] at this
    simpa using this
  have hezone : e.kept.zone = d.kept.zone := by rw [hkept]
  have hbypass : (u.targetValves z).boiler.config.bypassZone ≠ some z := by rw [u.targetValves_boiler z]; exact hb
  refine ⟨?_, fun y hy => ?_, hv.device i, hv.entryOf i⟩
  · rw [State.SlotsApart, hv.queue]; exact targetValves_slotsApart hu z
  · rw [hv.valvesOf]
    exact not_mem_valvesOf he (hezone.trans hz) hbypass y (hv.bypass ▸ hy)

theorem quiet_applyPending (s : State) (z : Fin 16) (was : ZoneState) : Quiet s (s.applyPending z was) := by
  refine Quiet.ite (fun _ => Quiet.trans ?_ (quiet_raise _ _)) fun _ => Quiet.refl s
  refine Quiet.resolves (s.resolvesTo_setZone z _) fun y => ?_
  rw [State.setZone_zone]
  split
  · next h => rw [← h]; unfold Zone.applied; split <;> rfl
  · rfl

theorem State.zoneTick_zone (s : State) (z : Fin 16) (h : (s.zone z).state ≠ .disabled) :
    (s.zoneTick z).zone z = (s.zone z).afterTick (s.zoneTemp z) := by
  have hzones := (s.settlesTo_zoneTick_enabled z h).zones
  have hannounced : ∀ (b : Bool) (u : State), (u.announceIf b z).zones = u.zones := fun b u => by
    cases b <;> simp [State.announceIf]
  have hraised : ∀ (b : Bool) (u : State), (u.raiseIf b .configApplied).zones = u.zones := fun b u => by cases b <;> rfl
  rw [hannounced, hraised] at hzones
  simp [State.zone, hzones]

/-- A zone's control tick leaves at its devices what stage 4 does with the record that the tick stores. -/
theorem zoneTick_at (hs : s.SlotsApart) (hb : s.boiler.config.bypassZone ≠ some z) (hd : s.device i = some d)
    (hz : d.zone = some z) : let u := (s.setZone z ((s.zoneTick z).zone z)).targetValves z
    (s.zoneTick z).device i = u.device i ∧ (s.zoneTick z).entryOf i = u.entryOf i := by
  by_cases hdis : (s.zone z).state = .disabled
  · have hrecord : (s.zoneTick z).zone z = { s.zone z with ownTarget := 0 } := by
      simp [State.zone, (s.settlesTo_zoneTick_disabled z hdis).zones]
    have htick : s.zoneTick z = (s.tickDisabled z).evaluateFrom s := if_neg (by simp [Zone.enabled, hdis])
    obtain ⟨hapart, hout, -, -⟩ :=
      targetValves_outlasts (u := s.setZone z { s.zone z with ownTarget := 0 }) hs hb hd hz (Quiet.refl _)
    rw [hrecord, htick]
    exact evaluateFrom_other s hapart hout
  · have htick : s.zoneTick z = (s.tickEnabled z).evaluate := if_pos (by simpa [Zone.enabled] using hdis)
    have hrecord := s.zoneTick_zone z hdis
    obtain ⟨q, hq⟩ : ∃ q, (s.zone z).ticked (s.zoneTemp z) = q := ⟨_, rfl⟩
    have hannounce := quiet_announceIf (q.state != (s.zone z).state) z (s.setZone z q)
    have hzones : ((s.setZone z q).announceIf (q.state != (s.zone z).state) z).zone z = q := by
      simp only [State.announceIf]
      split <;> simp [State.zone]
    have henabled : s.tickEnabled z =
        (((s.setZone z q).announceIf (q.state != (s.zone z).state) z).targetValves z).applyPending z (s.zone z).state := by
      rw [← hq]; rfl
    generalize (s.setZone z q).announceIf (q.state != (s.zone z).state) z = u at hannounce hzones henabled
    have hu : u.SlotsApart := by rw [State.SlotsApart, hannounce.queue]; exact hs
    have hbypass : u.boiler.config.bypassZone ≠ some z := by rw [hannounce.bypass]; exact hb
    have hud : u.device i = some d := (hannounce.device i).trans hd
    obtain ⟨hapart, hout, hdevice, hentry⟩ := targetValves_outlasts hu hbypass hud hz (quiet_applyPending _ z (s.zone z).state)
    rw [← henabled] at hapart hout hdevice hentry
    obtain ⟨hdevice', hentry'⟩ := evaluate_other hapart hout
    have hfields : (u.zone z).config.hysteresis = ((s.zoneTick z).zone z).config.hysteresis ∧
        (u.zone z).ownTarget = ((s.zoneTick z).zone z).ownTarget := by
      have hkept : ((s.zone z).ticked (s.zoneTemp z)).config = (s.zone z).config := by
        rw [Zone.ticked_eq, Zone.demanded_keeps]
      rw [hzones, hrecord, Zone.afterTick_eq, ← hq]
      exact ⟨by rw [hkept], rfl⟩
    have hforced : u.forced z = (s.setZone z ((s.zoneTick z).zone z)).forced z :=
      (State.forced_eq_false hbypass).trans (State.forced_eq_false (s := s.setZone z ((s.zoneTick z).zone z)) hb).symm
    obtain ⟨hd4, he4⟩ := targetValves_congr (s := s.setZone z ((s.zoneTick z).zone z)) hs hu hd hud (hannounce.entryOf i) hforced
      (by rw [State.setZone_zone, if_pos rfl]; exact hfields.1) (by rw [State.setZone_zone, if_pos rfl]; exact hfields.2)
    have hd5 := hdevice'.trans (hdevice.trans hd4)
    have he5 := hentry'.trans (hentry.trans he4)
    rw [← htick] at hd5 he5
    exact ⟨hd5, he5⟩

/-! ### The obligation -/

theorem Device.servesZone_iff : d.servesZone z = true ↔
    d.kind = .valveHead ∧ d.zone = some z ∧ d.state ≠ .faulted ∧ d.state ≠ .retiring := by
  simp [Device.servesZone, and_assoc]

theorem State.forced_iff : s.forced z = true ↔ s.boiler.forcing = true ∧ s.boiler.config.bypassZone = some z := by
  simp [State.forced]

/-- Settles O40: stage 4, the control tick and forcing write each valve of the zone once, as `Device.targeted`,
`Device.forced` and `Device.setAndHanded` say, and every event keeps what forcing has written (`exec_flow`). -/
theorem zoneValvesTakeTargets : Obligations.ZoneValvesTakeTargets := by
  refine ⟨?_, fun z s t i d hs hr hz hb hexec hd hdz => ?_, ?_, ?_⟩
  · intro z s i hs p served forced t
    have hat : ∀ d, s.device i = some d → t.device i = some (s.stage4 z i d).1 ∧ t.entryOf i = (s.stage4 z i d).2 :=
      fun d hd => targetValves_at hs hd
    have hserved : ∀ d, served d = d.servesZone z := fun _ => rfl
    have hforced : forced ↔ s.forced z = true := State.forced_iff.symm
    refine ⟨?_, (s.settlesTo_targetValves z).2 i, fun d hd hno => ?_, fun d hd hyes hg he hf => ?_,
      fun d e hd hyes hg he hf => ?_, fun d g hd hyes hg hf => ?_, fun d hd hyes hf => ?_⟩
    · cases hd : s.device i with
      | none => rw [show t.device i = none from (targetValves_free hs hd).1]; rfl
      | some d =>
        rw [(hat d hd).1, Option.map_some, Option.map_some, hserved]
        congr 1
        cases hz : d.servesZone z with
        | false => rw [State.stage4_unserved hz]; rfl
        | true =>
          cases hf : s.forced z with
          | true => rw [State.stage4_forced hz hf, if_pos rfl, if_pos (hforced.2 hf)]; exact Device.forced_target _ _ _
          | false =>
            rw [State.stage4_targeted hz hf, if_pos rfl, if_neg (by rw [hforced, hf]; simp)]
            exact Device.targeted_target _ _ _ _ _
    · obtain ⟨h1, h2⟩ := hat d hd
      rw [h1, h2, State.stage4_unserved hno]
      exact ⟨rfl, rfl⟩
    · have hnf : s.forced z = false := by simpa using mt hforced.2 hf
      rw [(hat d hd).2, State.stage4_targeted hyes hnf, he, Device.targeted_idle _ _ (Device.handable_of_serves hyes) hg]
      exact if_congr (and_congr_left' (outsideDeadband_iff _ _ _)) rfl rfl
    · have hnf : s.forced z = false := by simpa using mt hforced.2 hf
      rw [(hat d hd).2, State.stage4_targeted hyes hnf, he, Device.targeted_queued _ _ (Device.handable_of_serves hyes) hg]
    · have hnf : s.forced z = false := by simpa using mt hforced.2 hf
      rw [(hat d hd).1, State.stage4_targeted hyes hnf, Option.map_some,
        Device.targeted_granted _ _ (Device.handable_of_serves hyes) hg]
    · intro hands u
      obtain ⟨h1, h2⟩ := hat d hd
      rw [h1, h2, State.stage4_forced hyes (hforced.1 hf), Option.map_some]
      unfold Device.forced
      by_cases hh : hands
      · obtain ⟨k1, k2⟩ := hand_at hs hd 100 .urgent
        rw [show u = s.hand i 100 .urgent from if_pos hh, k1, k2, if_pos hh]
        exact ⟨rfl, rfl⟩
      · rw [show u = s from if_neg hh, if_neg hh, hd]
        exact ⟨rfl, rfl⟩
  · rw [exec_zoneControlTick s z hr hz] at hexec
    cases hexec
    exact zoneTick_at hs hb hd hdz
  · intro s z i d hs hz hd hk hzone hfault hretire t given
    have hserves := Device.servesZone_iff.2 ⟨hk, hzone, hfault, hretire⟩
    have hgiven : ∀ p c, t.device i = some (d.setAndHanded c p i (s.entryOf i)).1 →
        t.entryOf i = (d.setAndHanded c p i (s.entryOf i)).2 → given p c := fun p c h1 h2 => by
      obtain ⟨k1, k2⟩ := hand_at hs hd p c
      exact ⟨by rw [h1]; rfl, h2.trans k1.symm, by rw [h1, k2]; rfl⟩
    have hafter : t.boiler.forcing = s.forcingWanted := by rw [s.evalForcing_boiler]
    refine ⟨fun hf hp hc => ?_, fun hf hend => ?_⟩
    · have hw := s.forcingWanted_iff.2 ⟨hp, hc⟩
      obtain ⟨h1, h2⟩ := evalForcing_begins_at hs hz hd hserves hf hw
      exact ⟨hafter.trans hw, hgiven _ _ h1 h2⟩
    · have hw : s.forcingWanted = false := by
        rw [Bool.eq_false_iff, Ne, s.forcingWanted_iff]
        rintro ⟨hp, hc⟩
        rcases hend with h | h
        · exact hp h
        · rw [hc] at h; cases h
      obtain ⟨h1, h2⟩ := evalForcing_ends_at hs hz hd hserves hf hw
      exact ⟨hafter.trans hw, hgiven _ _ h1 h2⟩
  · intro c s t z i d _ hexec hd hk hzone hfault hretire
    have hserves := Device.servesZone_iff.2 ⟨hk, hzone, hfault, hretire⟩
    obtain ⟨u, hu, hflow⟩ := exec_flow c s
    cases hu.symm.trans hexec
    exact ⟨fun hoff hon hz => hflow.begins hoff hon z hz i d hd hserves,
      fun hon hoff hz hwarm hpower => hflow.ends ⟨hwarm, hpower⟩ hon hoff z hz i d hd hserves⟩

end Sys2Proof.Machine

/-! The end of a device slot (R151 to R153, R169, R172): what it receives, and what that leaves at the record. -/

namespace Sys2Proof.Machine

variable {s : State} {i : Fin 48} {d e : Device}

/-! ### What a slot receives (R80, R151) -/

theorem tempInRange_eq_false {k : DeviceKind} {t : Int} : tempInRange k t = false ↔
    (k = .valveHead ∧ (t < -100 ∨ 1100 < t)) ∨ (k ≠ .valveHead ∧ (t < 0 ∨ 500 < t)) := by
  cases k <;> simp [tempInRange, imp_iff_not_or]

/-- The telegram is none of the owner's: its check byte, or its address, kind or a field does not fit. -/
def telegramBad (k : DeviceKind) (address : Nat) (bytes : List Byte) : Bool :=
  bytes ≠ [] && (!crcGood bytes || (readReport k address bytes.dropLast).isNone)

theorem reception_bad {k : DeviceKind} {address : Nat} {received : Option (List Byte)}
    (h : telegramBad k address (received.getD []) = true) : reception k address received = .badTelegram := by
  cases received with
  | none => simp [telegramBad] at h
  | some bytes =>
    simp only [telegramBad, Option.getD_some, Bool.and_eq_true, decide_eq_true_eq, Bool.or_eq_true, Bool.not_eq_true',
      Option.isNone_iff_eq_none] at h
    obtain ⟨hne, hcrc | hread⟩ := h
    · simp [reception, hne, hcrc]
    · cases hcrc : crcGood bytes <;> simp [reception, hne, hcrc, hread]

theorem reception_miss {k : DeviceKind} {address : Nat} {received : Option (List Byte)}
    (h : received.getD [] = [] ∨ (crcGood (received.getD []) = true ∧
      ∃ r, readReport k address (received.getD []).dropLast = some r ∧ tempInRange k r.temp = false)) :
    telegramBad k address (received.getD []) = false ∧ reception k address received = .miss := by
  cases received with
  | none => simp [telegramBad, reception]
  | some bytes =>
    by_cases hne : bytes = []
    · simp [telegramBad, reception, hne]
    · obtain ⟨hcrc, r, hread, hrange⟩ := h.resolve_left hne
      simp only [Option.getD_some] at hcrc hread
      simp [telegramBad, reception, hne, hcrc, hread, hrange]

theorem reception_of_report {bytes : List Byte} {r : Report} {k : DeviceKind} {address : Nat} (hne : bytes ≠ [])
    (hcrc : crcGood bytes = true) (hread : readReport k address bytes.dropLast = some r)
    (hrange : tempInRange k r.temp = true) : reception k address (some bytes) = .good r := by
  simp [reception, hne, hcrc, hread, hrange]

/-- Buttons come from room units alone (R148). -/
theorem kind_of_unit {k : DeviceKind} {address : Nat} {body : List Byte} {temp : Int} {b : Button} {q : Nat}
    (h : readReport k address body = some (.unit temp b q)) : k = .roomUnit := by
  unfold readReport at h
  split at h
  · split at h <;> simp at h
  · split at h <;> simp at h
  · rfl
  · cases h

/-! ### The record that a slot's end stores -/

/-- A slot's end stores a record, its moment reached and its exchange over; a change of state raises DEVICE_STATE. -/
def State.slotStored (s : State) (i : Fin 48) (was : DeviceState) (e : Device) : State :=
  State.setDevice { (if e.state = was then s else s.raise .deviceState) with
    time := { s.time with now := max s.time.now (s.bus.cycleStart + (78 + 38 * i.val)) }
    bus := { s.bus with answer := none, invited := false, sent := none } } i (some e)

theorem State.slotStored_eq (s : State) (i : Fin 48) (was : DeviceState) (e : Device) : s.slotStored i was e =
    ((s.reachPart (78 + 38 * i.val)).endPart.setDevice i (some e)).raiseIf (e.state != was) .deviceState := by
  unfold State.slotStored State.raiseIf
  by_cases h : e.state = was
  · simp only [h, bne_self_eq_false, ↓reduceIte]; rfl
  · have hb : (e.state != was) = true := bne_iff_ne.2 h
    simp only [h, hb, ↓reduceIte]; rfl

theorem missState_eq (st : DeviceState) (n : Nat) : missState st n =
    if st = .active ∧ 5 ≤ n then .stale else if st = .stale ∧ 150 ≤ n then .lost else st := by
  cases st <;> simp [missState]

theorem State.takeMiss_eq (s : State) (i : Fin 48) (d : Device) (bad : Bool) :
    (s.reachPart (78 + 38 * i.val)).endPart.takeMiss i d bad = s.slotStored i d.state (d.missed bad) :=
  (s.slotStored_eq i d.state (d.missed bad)).symm

/-- A completed admission leaves the admission order with the record stored (R169). -/
def State.slotReported (s : State) (i : Fin 48) (was : DeviceState) (e : Device) : State :=
  if was = .admitted then (s.slotStored i was e).leaveOrder i else s.slotStored i was e

theorem State.takeReading_stored (s : State) (i : Fin 48) (d : Device) (temp : Int) :
    (s.reachPart (78 + 38 * i.val)).endPart.takeReading i d temp = s.slotReported i d.state (d.reported3 temp) := by
  unfold State.slotReported
  rw [State.slotStored_eq]
  rfl

/-- The record stored once more, in the same state. -/
theorem State.slotReported_setDevice (s : State) (i : Fin 48) (was : DeviceState) {d e : Device} (h : e.state = d.state) :
    (s.slotReported i was d).setDevice i (some e) = s.slotReported i was e := by
  have hset : ∀ (t : State) (a b : Option Device), (t.setDevice i a).setDevice i b = t.setDevice i b := fun t a b => by
    simp [State.setDevice]
  have hleave : ∀ (t : State) (b : Option Device), (t.leaveOrder i).setDevice i b = (t.setDevice i b).leaveOrder i :=
    fun t b => rfl
  unfold State.slotReported State.slotStored
  rw [h]
  split
  · rw [hleave, hset]
  · rw [hset]

theorem reportState_eq {st : DeviceState} (h : st ≠ .retiring) :
    reportState st = if st = .faulted then .faulted else .active := by
  cases st <;> simp [reportState] at h ⊢

/-! ### The event -/

theorem exec_deviceSlotEnd_awaited (received : Option (List Byte)) (hline : s.bus.line = .running)
    (hanswer : s.bus.answer = some i) : exec (.deviceSlotEnd i received) s =
      .next (((s.reachPart (78 + 38 * i.val)).endPart.takeSlot i received).evaluateFrom s) :=
  congrArg Host.Outcome.next (if_pos ⟨hline, hanswer⟩)

theorem State.takeSlot_missed {u : State} {received : Option (List Byte)} {bad : Bool} (hd : u.device i = some d)
    (hr : d.state ≠ .retiring) (h : reception d.kind (addressOf i) received = if bad then .badTelegram else .miss) :
    u.takeSlot i received = u.takeMiss i d bad := by
  unfold State.takeSlot
  rw [hd]
  dsimp only
  rw [if_neg hr, h]
  cases bad <;> rfl

theorem State.takeSlot_reported {u : State} {received : Option (List Byte)} {r : Report} (hd : u.device i = some d)
    (hr : d.state ≠ .retiring) (h : reception d.kind (addressOf i) received = .good r) :
    u.takeSlot i received = u.takeReport i d r := by
  unfold State.takeSlot
  rw [hd]
  dsimp only
  rw [if_neg hr, h]

/-- A slot's end without a good report (R151, R153). -/
theorem exec_slotEnd_missed {received : Option (List Byte)} {bad : Bool} (hline : s.bus.line = .running)
    (hanswer : s.bus.answer = some i) (hd : s.device i = some d) (hr : d.state ≠ .retiring)
    (hreception : reception d.kind (addressOf i) received = if bad then .badTelegram else .miss) :
    exec (.deviceSlotEnd i received) s = .next ((s.slotStored i d.state (d.missed bad)).evaluateFrom s) := by
  have hdevice : (s.reachPart (78 + 38 * i.val)).endPart.device i = some d := hd
  rw [exec_deviceSlotEnd_awaited received hline hanswer, State.takeSlot_missed hdevice hr hreception, State.takeMiss_eq]

/-- A slot's end with a good report (R152). -/
theorem exec_slotEnd_reported {bytes : List Byte} {r : Report} (hline : s.bus.line = .running)
    (hanswer : s.bus.answer = some i) (hd : s.device i = some d) (hr : d.state ≠ .retiring)
    (hreception : reception d.kind (addressOf i) (some bytes) = .good r) :
    exec (.deviceSlotEnd i (some bytes)) s =
      .next (((s.reachPart (78 + 38 * i.val)).endPart.takeReport i d r).evaluateFrom s) := by
  have hdevice : (s.reachPart (78 + 38 * i.val)).endPart.device i = some d := hd
  rw [exec_deviceSlotEnd_awaited (some bytes) hline hanswer, State.takeSlot_reported hdevice hr hreception]

/-- The record after step 4 of R152. -/
def Device.reported4 (d : Device) (temp position : Int) (m : MotorState) : Device :=
  { d.reported3 temp with reported := some position, motor := m }

theorem State.takeReading_setDevice (s : State) (i : Fin 48) (d : Device) (temp position : Int) (m : MotorState) :
    ((s.reachPart (78 + 38 * i.val)).endPart.takeReading i d temp).setDevice i (some (d.reported4 temp position m)) =
      s.slotReported i d.state (d.reported4 temp position m) := by
  rw [State.takeReading_stored]
  exact s.slotReported_setDevice i d.state rfl

/-- A good report of a valve stores its position with temperature and state (R152). -/
theorem State.takeReport_idle (s : State) (i : Fin 48) {d : Device} (hidle : ∀ g, d.grant = some g → g.running = false)
    (temp position : Int) (m : MotorState) :
    (s.reachPart (78 + 38 * i.val)).endPart.takeReport i d (.valve temp position m) =
      s.slotReported i d.state (d.reported4 temp position m) := by
  rw [← State.takeReading_setDevice]
  unfold State.takeReport State.takePosition
  dsimp only
  split
  · next g hg => exact if_neg (by simp [hidle g hg])
  · rfl

/-- A good report of a valve with a RUNNING grant gives it its outcome too (R184). -/
theorem State.takeReport_running (s : State) (i : Fin 48) {d : Device} {g : Grant} (hg : d.grant = some g)
    (hrun : g.running = true) (temp position : Int) (m : MotorState) :
    (s.reachPart (78 + 38 * i.val)).endPart.takeReport i d (.valve temp position m) =
      (s.slotReported i d.state (d.reported4 temp position m)).takeOutcome i (d.reported4 temp position m) g position m := by
  rw [← State.takeReading_setDevice]
  unfold State.takeReport State.takePosition
  dsimp only
  split
  · next f hf =>
    obtain rfl : f = g := Option.some.inj (hf.symm.trans hg)
    exact if_pos hrun
  · next hf => cases hf.symm.trans hg

/-- Settles O47: what the answer time received (`reception_bad`, `reception_miss`, `reception_of_report`) and the record
that the slot's end stores (`State.slotStored`). -/
theorem slotEnds : Obligations.SlotEnds := by
  refine ⟨?_, ?_, ?_, ?_, fun i received s h => ?_⟩
  · intro i received s d hline hanswer hd hr bytes miss bad misses state u h
    have hreception : reception d.kind (addressOf i) received = if bad then .badTelegram else .miss := by
      by_cases hbad : bad = true
      · rw [if_pos hbad]; exact reception_bad hbad
      · have hmiss : miss := h.resolve_right hbad
        rw [if_neg hbad]
        exact (reception_miss (hmiss.imp id fun ⟨hcrc, r, hread, hrange⟩ =>
          ⟨hcrc, r, hread, tempInRange_eq_false.2 hrange⟩)).2
    have hrecord : d.missed bad = { d with misses := misses, bad := if bad then min 255 (d.bad + 1) else d.bad, state := state } := by
      unfold Device.missed
      rw [missState_eq]
      rfl
    refine ⟨_, exec_slotEnd_missed hline hanswer hd hr hreception, ?_⟩
    rw [hrecord]
    exact State.settlesTo_evaluateFrom _ s
  · intro i bytes r s d hline hanswer hd hr hkind hidle hne hcrc hread hvalve hsensor state e e' u v
    have hrange : tempInRange d.kind r.temp = true := by
      by_contra hout
      rcases tempInRange_eq_false.1 (Bool.eq_false_iff.2 hout) with ⟨hk, h⟩ | ⟨hk, h⟩
      · have := hvalve hk; omega
      · have := hsensor (by cases hd : d.kind <;> simp_all); omega
    refine ⟨_, exec_slotEnd_reported hline hanswer hd hr (reception_of_report hne hcrc hread hrange), ?_⟩
    have he : d.reported3 r.temp = e := by rw [Device.reported3, reportState_eq hr]
    cases r with
    | valve temp position m =>
      refine State.settlesTo_evaluateFrom_of_eq (u := s.slotReported i d.state e') ?_ s
      have he' : d.reported4 temp position m = e' := by rw [Device.reported4]; exact congrArg (fun k : Device =>
        { k with reported := some position, motor := m }) he
      rw [s.takeReport_idle i hidle, he']
    | sensor temp =>
      refine State.settlesTo_evaluateFrom_of_eq (u := s.slotReported i d.state e') ?_ s
      exact (s.takeReading_stored i d temp).trans (congrArg _ he)
    | unit temp b q => exact absurd (kind_of_unit hread) hkind
  · intro i bytes temp position m s d g hline hanswer hd hkind hr hg hrun hne hcrc hread hlow hhigh state e u v
    have hrange : tempInRange d.kind temp = true := by rw [hkind]; exact decide_eq_true ⟨hlow, hhigh⟩
    have he : d.reported4 temp position m = e := by rw [Device.reported4, Device.reported3, reportState_eq hr]
    refine ⟨_, exec_slotEnd_reported hline hanswer hd hr
      (reception_of_report (r := .valve temp position m) hne hcrc (by rw [hkind]; exact hread) hrange), ?_⟩
    refine State.settlesTo_evaluateFrom_of_eq (u := (s.slotReported i d.state e).takeOutcome i e g position m) ?_ s
    rw [State.takeReport_running s i hg hrun, he]
  · intro i received s d hline hanswer hd hr
    have hdevice : (s.reachPart (78 + 38 * i.val)).endPart.device i = some d := hd
    rw [exec_deviceSlotEnd_awaited received hline hanswer]
    simp only [State.takeSlot, hdevice, hr, ↓reduceIte]
    rw [State.evaluateFrom, if_pos ⟨rfl, rfl, rfl, rfl⟩]
    rfl
  · have hno : ¬ (s.bus.line = .running ∧ s.bus.answer = some i) := fun ⟨h1, h2⟩ => h.elim (· h1) (· h2)
    exact congrArg Host.Outcome.next (if_neg hno)

end Sys2Proof.Machine

/-! The evaluations, read by read: what each burner state becomes, with the conditions of start and stop as R111 and R113 give
them, and the timers of burner, outdoor hold and pump (R101, R102, R110 to R113, R119). -/

namespace Sys2Proof.Machine

variable {s t u : State}

/-! ### What settling leaves of what burner and pump read -/

section
variable (h : s.SettlesTo t) (hc : t.cylinder.state = s.cylinder.state)
include h hc

theorem State.SettlesTo.burnerDemand : t.burnerDemand = s.burnerDemand := (h.sameFlow hc).burnerDemand

theorem State.SettlesTo.reportedPass : t.reportedPass = s.reportedPass := (h.sameFlow hc).reportedPass

theorem State.SettlesTo.flowTarget : t.flowTarget = s.flowTarget := by
  rw [h.1, hc]; rfl

theorem State.SettlesTo.pumpReason : t.pumpReason =
    (t.boiler.burner == .firing || s.anyCalling || s.charging || s.outdoorFrost || s.anyZoneFrost) := by
  rw [h.1, hc]; rfl

end

theorem State.evaluate_settles (h : s.time.ready = true) : s.evalCylinder.SettlesTo s.evaluate := by
  rw [State.evaluate_eq h]
  exact (((((State.settlesTo_evalReported _).trans (State.settlesTo_evalBurner _)).trans (State.settlesTo_evalReported _)).trans
    (State.settlesTo_evalPump _)).trans (State.settlesTo_evalForcing _))

/-- A channel that is neither CHARGING nor starts a charge stands still. -/
theorem State.evalCylinder_still (hc : s.cylinder.state ≠ .charging)
    (hidle : s.cylinder.state = .idle → s.chargeWanted = false) : s.evalCylinder = s := by
  unfold State.evalCylinder
  split
  · next h => rw [State.evalIdle, hidle h]; rfl
  · next h => exact absurd h hc
  · rfl
  · rfl
  · rfl

/-! ### The conditions -/

theorem State.startConditions_iff (s : State) : s.startConditions = true ↔ s.burnerDemand = true ∧
    s.boiler.tf.status = some .ok ∧ ∃ v, s.boiler.tf.value = some v ∧ v ≤ s.flowTarget - s.boiler.config.onDiff := by
  simp only [State.startConditions, Bool.and_eq_true, beq_iff_eq, Option.any_eq_true, decide_eq_true_eq, and_assoc]

theorem State.startsGate_iff (s : State) :
    s.startsGate = true ↔ s.boiler.config.startsLimit ≤ (s.boiler.startList.length : Int) := decide_eq_true_iff

theorem State.stopWanted_iff (s : State) : s.stopWanted = true ↔ s.boiler.minOn = none ∧ (s.burnerDemand = false ∨
    ∃ v, s.boiler.tf.value = some v ∧ s.flowTarget + s.boiler.config.offDiff ≤ v) := by
  simp only [State.stopWanted, Bool.and_eq_true, Bool.or_eq_true, Bool.not_eq_true', Option.isNone_iff_eq_none,
    Option.any_eq_true, decide_eq_true_eq]

/-! ### The burner -/

/-- A burner in READY or WAIT. -/
def Boiler.startable (b : Boiler) : Prop := b.burner = .ready ∨ ∃ r, b.burner = .wait r

theorem State.evalBurner_startable (h : s.boiler.startable) : s.evalBurner = s.evalStart := by
  unfold State.evalBurner
  rcases h with h | ⟨r, h⟩ <;> rw [h]

theorem State.evalBurner_firing (h : s.boiler.burner = .firing) :
    s.evalBurner = if s.stopWanted then s.burnerOff else s := by
  simp only [State.evalBurner, h]

theorem State.evalStart_ready (h : s.startConditions = false) : s.evalStart = s.setBoiler (s.boiler.moveTo .ready) := by
  simp [State.evalStart, h]

theorem State.evalStart_gated (h : s.startConditions = true) (hg : s.startsGate = true) :
    s.evalStart = s.setBoiler (s.boiler.moveTo (.wait .starts)) := by
  simp [State.evalStart, h, hg, State.waitFor]

theorem State.evalStart_blocked (h : s.startConditions = true) (hg : s.startsGate = false) (hp : s.reportedPass = false) :
    s.evalStart = s.waitFor .flow := by
  simp [State.evalStart, h, hg, hp]

theorem State.evalStart_fires (h : s.startConditions = true) (hg : s.startsGate = false) (hp : s.reportedPass = true) :
    s.evalStart = s.startBurner := by
  simp [State.evalStart, h, hg, hp]

theorem State.waitFor_going (h : s.boiler.burner = .wait .flow) : s.waitFor .flow = s := if_pos h

theorem State.waitFor_begins (h : s.boiler.burner ≠ .wait .flow) : s.waitFor .flow =
    s.setBoiler { s.boiler.moveTo (.wait .flow) with waitFlow := some s.time.now } := if_neg h

theorem State.waitFor_flow (s : State) : (s.waitFor .flow).boiler.burner = .wait .flow ∧
    (s.waitFor .flow).boiler.startList = s.boiler.startList ∧
    (s.waitFor .flow).boiler.waitFlow = if s.boiler.burner = .wait .flow then s.boiler.waitFlow else some s.time.now := by
  by_cases h : s.boiler.burner = .wait .flow
  · rw [State.waitFor_going h, if_pos h]; exact ⟨h, rfl, rfl⟩
  · rw [State.waitFor_begins h, if_neg h]; exact ⟨rfl, rfl, rfl⟩

theorem Boiler.resting_of_not {b : Boiler} (hs : ¬ b.startable) (hf : b.burner ≠ .firing) : b.resting := by
  unfold Boiler.startable at hs
  unfold Boiler.resting
  cases hb : b.burner <;> simp_all

/-- The boiler with another result of the reported check. -/
def State.setReported (s : State) (r : Option Bool) : State := s.setBoiler { s.boiler with reported := r }

theorem State.evalReported_setReported (s : State) : s.evalReported = s.setReported s.evalReported.boiler.reported := by
  rw [State.evalReported_eq]; rfl

/-- The result of the reported check is nothing to the burner (R111, R113). -/
theorem State.evalBurner_setReported (s : State) (r : Option Bool) :
    (s.setReported r).evalBurner = s.evalBurner.setReported r := by
  have hwait : (s.setReported r).waitFor .flow = (s.waitFor .flow).setReported r := by
    by_cases h : s.boiler.burner = .wait .flow
    · rw [State.waitFor_going (s := s.setReported r) h, State.waitFor_going h]
    · rw [State.waitFor_begins (s := s.setReported r) h, State.waitFor_begins h]; rfl
  by_cases hstart : s.boiler.startable
  · rw [State.evalBurner_startable (s := s.setReported r) hstart, State.evalBurner_startable hstart]
    unfold State.evalStart
    rw [hwait]
    change (if s.startConditions then if s.startsGate then _ else if s.reportedPass then _ else _ else _) = _
    repeat' split
    all_goals rfl
  by_cases hfire : s.boiler.burner = .firing
  · rw [State.evalBurner_firing (s := s.setReported r) hfire, State.evalBurner_firing hfire]
    change (if s.stopWanted then _ else _) = _
    split <;> rfl
  · have hrest := Boiler.resting_of_not hstart hfire
    rw [State.evalBurner_of_resting (s := s.setReported r) hrest, State.evalBurner_of_resting hrest]

/-- What an evaluation makes of the burner is what the burner's own evaluation makes of it after the channel's. -/
theorem State.evaluate_restsTo (h : s.time.ready = true) : s.evalCylinder.evalBurner.boiler.RestsTo s.evaluate.boiler := by
  have hbefore : s.evalCylinder.evalBurner.boiler.RestsTo s.beforeBurner.evalBurner.boiler := by
    rw [State.beforeBurner, State.evalReported_setReported, State.evalBurner_setReported]
    rfl
  rw [State.evaluate_eq h]
  exact (hbefore.trans (State.restsTo_evalReported _)).trans
    ((State.restsTo_evalPump _).trans (State.restsTo_evalForcing _))

/-- The other evaluations leave what the burner's writes. -/
theorem Boiler.RestsTo.fields {b c : Boiler} (h : b.RestsTo c) : c.burner = b.burner ∧ c.startList = b.startList ∧
    c.minOn = b.minOn ∧ c.waitFlow = b.waitFlow ∧ c.lastStop = b.lastStop := by
  unfold Boiler.RestsTo at h
  rw [h]
  exact ⟨rfl, rfl, rfl, rfl, rfl⟩

/-- The evaluation of a start, in all four outcomes (R111). -/
theorem State.evaluate_startable (h : s.time.ready = true) (hb : s.boiler.startable) :
    let u := s.evalCylinder
    let b := s.evaluate.boiler
    (u.startConditions = false → b.burner = .ready ∧ b.startList = s.boiler.startList) ∧
    (u.startConditions = true → u.startsGate = true → b.burner = .wait .starts ∧ b.startList = s.boiler.startList) ∧
    (u.startConditions = true → u.startsGate = false → u.reportedPass = false →
      b.burner = .wait .flow ∧ b.startList = s.boiler.startList ∧
      b.waitFlow = if s.boiler.burner = .wait .flow then s.boiler.waitFlow else some s.time.now) ∧
    (u.startConditions = true → u.startsGate = false → u.reportedPass = true →
      b.burner = .firing ∧ b.minOn = some s.time.now ∧ b.startList = s.boiler.startList ++ [0]) := by
  intro u b
  obtain ⟨hburner, hlist, hmin, hwait, -⟩ := (State.evaluate_restsTo h).fields
  have hboiler : u.boiler = s.boiler := s.evalCylinder_boiler
  have htime : u.time = s.time := s.settlesTo_evalCylinder.time
  have hstart : u.evalBurner = u.evalStart := State.evalBurner_startable (hboiler ▸ hb)
  rw [hburner, hlist, hmin, hwait, hstart, ← hboiler, ← htime]
  refine ⟨fun hc => ?_, fun hc hg => ?_, fun hc hg hp => ?_, fun hc hg hp => ?_⟩
  · rw [State.evalStart_ready hc]; exact ⟨rfl, rfl⟩
  · rw [State.evalStart_gated hc hg]; exact ⟨rfl, rfl⟩
  · rw [State.evalStart_blocked hc hg hp]; exact u.waitFor_flow
  · rw [State.evalStart_fires hc hg hp]; exact ⟨rfl, rfl, rfl⟩

/-- A burner that goes on in WAIT FLOW keeps the start of the stretch (R111). -/
theorem State.evaluate_waitFlow (h : s.time.ready = true) (hb : s.boiler.burner = .wait .flow)
    (hw : s.evaluate.boiler.burner = .wait .flow) : s.evaluate.boiler.waitFlow = s.boiler.waitFlow := by
  obtain ⟨hready, hstarts, hflow, hfires⟩ := State.evaluate_startable h (.inr ⟨_, hb⟩)
  cases hc : s.evalCylinder.startConditions with
  | false => simp [hready hc] at hw
  | true =>
    cases hg : s.evalCylinder.startsGate with
    | true => simp [hstarts hc hg] at hw
    | false =>
      cases hp : s.evalCylinder.reportedPass with
      | false => rw [(hflow hc hg hp).2.2, if_pos hb]
      | true => simp [hfires hc hg hp] at hw

/-- A burner in READY or WAIT is in READY, WAIT or FIRING after an evaluation. -/
theorem State.evaluate_startable_ne_off (hb : s.boiler.startable) : s.evaluate.boiler.burner ≠ .off := by
  cases h : s.time.ready with
  | false =>
    rw [State.evaluate_low h]
    rcases hb with hb | ⟨r, hb⟩ <;> simp [hb]
  | true =>
    obtain ⟨hready, hstarts, hflow, hfires⟩ := State.evaluate_startable h hb
    cases hc : s.evalCylinder.startConditions with
    | false => simp [hready hc]
    | true =>
      cases hg : s.evalCylinder.startsGate with
      | true => simp [hstarts hc hg]
      | false =>
        cases hp : s.evalCylinder.reportedPass with
        | false => simp [hflow hc hg hp]
        | true => simp [hfires hc hg hp]

/-- The evaluation of a stop (R113). -/
theorem State.evaluate_firing (h : s.time.ready = true) (hb : s.boiler.burner = .firing) :
    let b := s.evaluate.boiler
    b.startList = s.boiler.startList ∧
    (s.evalCylinder.stopWanted = true → b.burner = .off ∧ b.minOn = none ∧ b.lastStop = s.time.now) ∧
    (s.evalCylinder.stopWanted = false →
      b.burner = .firing ∧ b.minOn = s.boiler.minOn ∧ b.lastStop = s.boiler.lastStop) := by
  intro b
  obtain ⟨hburner, hlist, hmin, -, hstop⟩ := (State.evaluate_restsTo h).fields
  have hboiler : s.evalCylinder.boiler = s.boiler := s.evalCylinder_boiler
  have htime : s.evalCylinder.time = s.time := s.settlesTo_evalCylinder.time
  rw [hburner, hlist, hmin, hstop, State.evalBurner_firing (by rw [hboiler]; exact hb), ← htime]
  refine ⟨?_, fun hw => ?_, fun hw => ?_⟩
  · split
    · change s.evalCylinder.boiler.startList = _; rw [hboiler]
    · rw [hboiler]
  · rw [if_pos hw]; exact ⟨rfl, rfl, rfl⟩
  · rw [if_neg (by simp [hw]), hboiler]; exact ⟨hb, rfl, rfl⟩

/-! ### Pump and forcing -/

/-- The pump after an evaluation (R119). -/
theorem State.evaluate_pump (h : s.time.ready = true) : s.evaluate.boiler.pump =
    if s.evaluate.pumpReason then .running else if s.boiler.pump = .running then .overrun s.time.now else s.boiler.pump := by
  have hreason : s.evaluate.pumpReason = s.beforePump.pumpReason := by
    have hsettles := (State.settlesTo_evalPump s.beforePump).trans (State.settlesTo_evalForcing _)
    rw [State.evaluate_eq h, hsettles.pumpReason (by simp), State.evalForcing_boiler, State.evalPump_eq]
    rfl
  have hpump : s.beforePump.boiler.pump = s.boiler.pump := by
    rw [State.beforePump, State.evalReported_eq, State.evalBurner_eq, State.beforeBurner_frame]; rfl
  rw [hreason, State.evaluate_eq h, State.evalForcing_boiler, State.evalPump_eq, ← hpump, ← s.beforePump_time]
  rfl

/-- Forcing after an evaluation (R122). -/
theorem State.evaluate_forcing (h : s.time.ready = true) :
    s.evaluate.boiler.forcing = true ↔ s.evaluate.boiler.pump ≠ .stopped ∧ s.evaluate.commandedPass = false := by
  rw [State.evaluate_eq h, (State.sameFlow_evalForcing _).commandedPass, State.evalForcing_boiler]
  exact State.forcingWanted_iff _

/-- Where a device stood, one stands that serves the same zone. -/
theorem State.SettlesTo.device_served (h : s.SettlesTo t) {i : Fin 48} {d : Device} (hd : s.device i = some d) {z : Fin 16}
    (hz : d.servesZone z = true) : ∃ e, t.device i = some e ∧ e.servesZone z = true := by
  have hsame := h.2 i
  rw [hd] at hsame
  obtain ⟨e, he, hkept⟩ : ∃ e, t.device i = some e ∧ e.kept = d.kept := by simpa using hsame
  obtain ⟨-, -, hzone, -⟩ := Device.fields_of_kept hkept
  exact ⟨e, he, (hzone z).trans hz⟩

/-- The valves that forcing has given back have their own target (R92). -/
theorem State.ReturnedTo.target {z : Fin 16} (h : t.ReturnedTo (some z)) (hf : t.boiler.forcing = false) (hst : s.SettlesTo t)
    {i : Fin 48} {d : Device} (hd : s.device i = some d) (hz : d.servesZone z = true) :
    (t.device i).map Device.target = some (s.zone z).ownTarget := by
  obtain ⟨e, he, hserves⟩ := hst.device_served hd hz
  have htarget := h hf z rfl i e he hserves
  rw [he, Option.map_some, htarget, State.zone, State.zone, hst.zones]

/-! ### The timers -/

theorem exec_tboffExpiry (hr : s.time.ready = true) (hb : s.boiler.burner = .off) : exec .tboffExpiry s = .next
    (State.evaluate { s with
      time := { s.time with now := max s.time.now (s.boiler.lastStop + s.boiler.config.tBoff.toNat * 60000) }
      boiler := s.boiler.moveTo .ready }) := by
  have hexec : exec .tboffExpiry s = execTboffExpiry s := rfl
  rw [hexec, execTboffExpiry, if_pos ⟨hr, hb⟩]
  rfl

theorem exec_tbonExpiry {a : Nat} (hb : s.boiler.burner = .firing) (hm : s.boiler.minOn = some a) :
    exec .tbonExpiry s = .next (State.evaluate { s with
      time := { s.time with now := max s.time.now (a + s.boiler.config.tBon.toNat * 60000) }
      boiler := { s.boiler with minOn := none } }) := by
  have hexec : exec .tbonExpiry s = execTbonExpiry s := rfl
  rw [hexec, execTbonExpiry]
  split
  · next _ ha => cases hm.symm.trans ha; rfl
  · next hno => exact absurd hm (hno a hb)

theorem exec_waitFlowExpiry {a : Nat} (hb : s.boiler.burner = .wait .flow) (hw : s.boiler.waitFlow = some a) :
    exec .waitFlowExpiry s = .next (State.evaluate { s.raise .boiler with
      time := { s.time with now := max s.time.now (a + 300000) }
      boiler := { s.boiler with waitFlow := none } }) := by
  have hexec : exec .waitFlowExpiry s = execWaitFlowExpiry s := rfl
  rw [hexec, execWaitFlowExpiry]
  split
  · next _ ha => cases hw.symm.trans ha; rfl
  · next hno => exact absurd hw (hno a hb)

theorem exec_sensorRecoveryExpiry {a : Nat} (hb : s.boiler.burner = .sensorFault) (ha : s.boiler.recovery = some a) :
    exec .sensorRecoveryExpiry s = .next (State.evaluate (State.burnerOff { s with
      time := { s.time with now := max s.time.now (a + 60000) } })) := by
  have hexec : exec .sensorRecoveryExpiry s = execSensorRecoveryExpiry s := rfl
  rw [hexec]
  simp only [execSensorRecoveryExpiry, hb, ha]
  rfl

theorem exec_outdoorHoldExpiry {a : Nat} (ha : s.boiler.outdoorHold = some a) :
    exec .outdoorHoldExpiry s = .next (State.evaluate { s with
      time := { s.time with now := max s.time.now (a + 3600000) }
      boiler := { s.boiler with outdoorHold := none } }) := by
  have hexec : exec .outdoorHoldExpiry s = execOutdoorHoldExpiry s := rfl
  rw [hexec]
  simp only [execOutdoorHoldExpiry, ha]
  rfl

theorem exec_pumpOverrunExpiry {a : Nat} (ha : s.boiler.pump = .overrun a) (hp : s.pumpReason = false) :
    exec .pumpOverrunExpiry s = .next (State.evaluate { s with
      time := { s.time with now := max s.time.now (a + s.boiler.config.tOvr.toNat * 60000) }
      boiler := { s.boiler with pump := .stopped } }) := by
  have hexec : exec .pumpOverrunExpiry s = execPumpOverrunExpiry s := rfl
  have hreason : ∀ n, (s.reach n).pumpReason = false := fun _ => hp
  rw [hexec]
  simp only [execPumpOverrunExpiry, ha, hreason, Bool.false_eq_true, ↓reduceIte]
  rfl

theorem State.pumpPin_low (h : s.boiler.pump = .stopped) : s.pumpPin = false := by simp [State.pumpPin, h]

theorem State.burnerPin_high (h : s.boiler.burner = .firing) : s.burnerPin = true := by simp [State.burnerPin, h]

/-- A firing burner is a reason for the pump (R119). -/
theorem State.evaluate_pump_of_firing (h : s.time.ready = true) (hb : s.evaluate.boiler.burner = .firing) :
    s.evaluate.boiler.pump = .running := by
  rw [State.evaluate_pump h, if_pos (by simp [State.pumpReason, hb])]

/-- Without burner demand no burner starts in an evaluation (R111). -/
theorem State.evaluate_burner_idle (h : s.time.ready = true) (hd : s.evalCylinder.burnerDemand = false)
    (hb : s.boiler.burner ≠ .firing) : s.evaluate.boiler.burner ≠ .firing := by
  have hno : s.evalCylinder.startConditions = false := by
    rw [Bool.eq_false_iff, Ne, State.startConditions_iff, hd]; simp
  by_cases hs : s.boiler.startable
  · rw [((State.evaluate_startable h hs).1 hno).1]; simp
  · rw [(State.restsTo_evaluate (Boiler.resting_of_not hs hb)).burner.1]; exact hb

/-- Without a reason, and with a channel that starts no charge, a stopped pump stays stopped in an evaluation (R119). -/
theorem State.evaluate_pump_stays (h : s.time.ready = true) (hp : s.pumpReason = false)
    (hidle : s.cylinder.state = .idle → s.chargeWanted = false) (hs : s.boiler.pump = .stopped) :
    s.evaluate.boiler.pump = .stopped := by
  simp only [State.pumpReason, Bool.or_eq_false_iff, beq_eq_false_iff_ne] at hp
  obtain ⟨⟨⟨⟨hburner, hcalling⟩, hcharging⟩, hfrost⟩, hzone⟩ := hp
  have hstill : s.evalCylinder = s := State.evalCylinder_still (by simpa [State.charging] using hcharging) hidle
  have hchannel : s.evaluate.cylinder.state = s.cylinder.state := by rw [State.evaluate_ready h, hstill]
  have hdemand : s.evalCylinder.burnerDemand = false := by simp [hstill, State.burnerDemand, hcalling, hcharging, hzone]
  have hidle : s.evaluate.pumpReason = false := by
    rw [s.settlesTo_evaluate.pumpReason hchannel, hcalling, hcharging, hfrost, hzone]
    simpa using State.evaluate_burner_idle h hdemand hburner
  simp [State.evaluate_pump h, hidle, hs]

/-- The timer of the pump's overrun (R119, R122). -/
theorem pumpOverrun_ends {a : Nat} (ha : s.boiler.pump = .overrun a) (hp : s.pumpReason = false)
    (hidle : s.cylinder.state = .idle → s.chargeWanted = false) : ∃ t, exec .pumpOverrunExpiry s = .next t ∧
      t.time.now = max s.time.now (a + s.boiler.config.tOvr.toNat * 60000) ∧ t.boiler.pump = .stopped ∧
      t.pumpPin = false ∧ (s.time.ready = true → t.boiler.forcing = false) ∧
      (s.time.ready = true → s.boiler.forcing = true → ∀ (z : Fin 16) (i : Fin 48) (d : Device),
        s.boiler.config.bypassZone = some z → s.device i = some d → d.servesZone z = true →
        (t.device i).map Device.target = some (s.zone z).ownTarget) ∧
      (State.SettlesTo { s with
        time := { s.time with now := max s.time.now (a + s.boiler.config.tOvr.toNat * 60000) } } t) := by
  refine ⟨_, exec_pumpOverrunExpiry ha hp, ?_⟩
  generalize max s.time.now (a + s.boiler.config.tOvr.toNat * 60000) = now
  let v : State := { s with time := { s.time with now := now }, boiler := { s.boiler with pump := .stopped } }
  change v.evaluate.time.now = now ∧ _
  have hsettles : State.SettlesTo { s with time := { s.time with now := now } } v.evaluate :=
    State.SettlesTo.trans (t := v) ⟨rfl, fun _ => rfl⟩ v.settlesTo_evaluate
  have hpump : v.evaluate.boiler.pump = .stopped := by
    cases hr : v.time.ready with
    | false => rw [State.evaluate_low hr]
    | true => exact State.evaluate_pump_stays hr hp hidle rfl
  have hforcing : s.time.ready = true → v.evaluate.boiler.forcing = false := fun hr => by
    exact Bool.eq_false_iff.2 fun h => ((State.evaluate_forcing (s := v) hr).1 h).1 hpump
  refine ⟨by rw [v.settlesTo_evaluate.time], hpump, State.pumpPin_low hpump, hforcing,
    fun hr hf z i d hz hd hserves => ?_, hsettles⟩
  · have hreturned := (preserves_evaluate v).returned fun hoff => absurd (hf.symm.trans hoff) (by simp)
    rw [(preserves_evaluate v).bypass, show v.boiler.config.bypassZone = some z from hz] at hreturned
    exact hreturned.target (hforcing hr) hsettles hd hserves

/-- Settles O32: each expiry is an evaluation of the state its timer leaves, and the evaluation of a start, of a stop and of
the pump say what comes of it. -/
theorem burnerTimers : Obligations.BurnerTimers := by
  refine ⟨fun s hr hb => ?_, fun s a hr hb hm => ?_, fun s a hb hw => ?_, fun s a hb ha => ?_, fun s a ha => ?_,
    fun s a ha hp hidle => pumpOverrun_ends ha hp hidle⟩
  · refine ⟨_, exec_tboffExpiry hr hb, ?_⟩
    intro now u wanted full
    let v : State := { s with time := { s.time with now := now }, boiler := s.boiler.moveTo .ready }
    have hwanted : u.startConditions = true ↔ wanted := by
      rw [State.startConditions_iff, show u.boiler = v.boiler from v.evalCylinder_boiler]; rfl
    have hfull : u.startsGate = true ↔ full := by
      rw [State.startsGate_iff, show u.boiler = v.boiler from v.evalCylinder_boiler]; rfl
    rw [← hwanted, ← hfull, Bool.not_eq_true, Bool.not_eq_true]
    obtain ⟨hready, hstarts, hflow, hfires⟩ := State.evaluate_startable (s := v) hr (.inl rfl)
    refine ⟨v.settlesTo_evaluate.time, State.evaluate_ready hr, v.settlesTo_evaluate.zones, hready, hstarts,
      fun hc hg hp => ?_, fun hc hg hp => ?_⟩
    · obtain ⟨h1, h2, h3⟩ := hflow hc hg hp
      exact ⟨h1, h3, h2⟩
    · obtain ⟨h1, h2, h3⟩ := hfires hc hg hp
      exact ⟨h1, h2, h3, State.burnerPin_high h1, State.evaluate_pump_of_firing hr h1⟩
  · refine ⟨_, exec_tbonExpiry hb hm, ?_⟩
    intro now u stops
    let v : State := { s with time := { s.time with now := now }, boiler := { s.boiler with minOn := none } }
    have hstops : u.stopWanted = true ↔ stops := by
      rw [State.stopWanted_iff, show u.boiler = v.boiler from v.evalCylinder_boiler]
      exact and_iff_right rfl
    rw [← hstops, Bool.not_eq_true]
    obtain ⟨-, hoff, hstays⟩ := State.evaluate_firing (s := v) hr hb
    refine ⟨v.settlesTo_evaluate.time, fun h => ?_, fun h => ?_⟩
    · obtain ⟨h1, -, h3⟩ := hoff h
      exact ⟨h1, h3⟩
    · obtain ⟨h1, h2, -⟩ := hstays h
      exact ⟨h1, h2⟩
  · refine ⟨_, exec_waitFlowExpiry hb hw, ?_⟩
    generalize max s.time.now (a + 300000) = now
    let v : State := { s.raise .boiler with time := { s.time with now := now }, boiler := { s.boiler with waitFlow := none } }
    refine ⟨?_, State.SettlesTo.trans (t := v) ⟨rfl, fun _ => rfl⟩ v.settlesTo_evaluate, fun hwait => ?_⟩
    · rw [State.raised, v.settlesTo_evaluate.link]; exact s.raised_raise .boiler
    · cases hr : v.time.ready with
      | false => rw [State.evaluate_low hr]
      | true => exact State.evaluate_waitFlow (s := v) hr hb hwait
  · refine ⟨_, exec_sensorRecoveryExpiry hb ha, ?_⟩
    generalize max s.time.now (a + 60000) = now
    let v : State := { s with time := { s.time with now := now } }
    have hrest := State.restsTo_evaluate (s := v.burnerOff) (.inl rfl)
    obtain ⟨hburner, -, -, -, hstop⟩ := hrest.fields
    have htime : v.burnerOff.evaluate.time.now = now := by rw [v.burnerOff.settlesTo_evaluate.time]; rfl
    exact ⟨htime, hburner, hstop.trans htime.symm,
      State.SettlesTo.trans (t := v.burnerOff) ⟨rfl, fun _ => rfl⟩ v.burnerOff.settlesTo_evaluate⟩
  · refine ⟨_, exec_outdoorHoldExpiry ha, State.settlesTo_evaluate _, fun hno => ?_⟩
    generalize max s.time.now (a + 3600000) = now
    let v : State := { s with time := { s.time with now := now }, boiler := { s.boiler with outdoorHold := none } }
    have hout : v.evaluate.outdoor = v.outdoor := by rw [v.settlesTo_evaluate.1]; rfl
    rw [hout]
    unfold State.outdoor
    split
    · next h _ => exact absurd h hno
    · rfl
    · rfl

end Sys2Proof.Machine

/-! WRITE of the boiler record (R103): what it stores, the intervals it ends, and what the evaluation after it makes of burner,
reported check, pump, forcing and valves (R107, R110, R111, R113, R119 to R122). -/

namespace Sys2Proof.Machine

variable {s t : State} {items : List Item}

/-! ### What an evaluation leaves of the conditions it took -/

section
variable (h : s.time.ready = true)
include h

theorem State.evaluate_keeps : s.evaluate.burnerDemand = s.evalCylinder.burnerDemand ∧
    s.evaluate.flowTarget = s.evalCylinder.flowTarget ∧ s.evaluate.reportedPass = s.evalCylinder.reportedPass := by
  have hsettles := State.evaluate_settles h
  have hchannel : s.evaluate.cylinder.state = s.evalCylinder.cylinder.state := by rw [State.evaluate_ready h]
  exact ⟨hsettles.burnerDemand hchannel, hsettles.flowTarget hchannel, hsettles.reportedPass hchannel⟩

/-- The conditions of a start, read after the evaluation (R111). -/
theorem State.evaluate_startConditions : s.evalCylinder.startConditions = true ↔ s.evaluate.burnerDemand = true ∧
    s.boiler.tf.status = some .ok ∧
      ∃ v, s.boiler.tf.value = some v ∧ v ≤ s.evaluate.flowTarget - s.boiler.config.onDiff := by
  obtain ⟨hdemand, htarget, -⟩ := State.evaluate_keeps h
  rw [State.startConditions_iff, s.evalCylinder_boiler, hdemand, htarget]

/-- The conditions of a stop, read after the evaluation (R113). -/
theorem State.evaluate_stopWanted : s.evalCylinder.stopWanted = true ↔ s.boiler.minOn = none ∧
    (s.evaluate.burnerDemand = false ∨
      ∃ v, s.boiler.tf.value = some v ∧ s.evaluate.flowTarget + s.boiler.config.offDiff ≤ v) := by
  obtain ⟨hdemand, htarget, -⟩ := State.evaluate_keeps h
  rw [State.stopWanted_iff, s.evalCylinder_boiler, hdemand, htarget]

end

theorem State.evalCylinder_startsGate (s : State) : s.evalCylinder.startsGate = true ↔
    s.boiler.config.startsLimit ≤ (s.boiler.startList.length : Int) := by
  rw [State.startsGate_iff, s.evalCylinder_boiler]

/-- The channel's evaluation reads the channel, the sensor TC and the time. -/
theorem State.evalCylinder_congr (hc : t.cylinder = s.cylinder) (hb : t.boiler.tc = s.boiler.tc) (hn : t.time = s.time) :
    t.evalCylinder.cylinder = s.evalCylinder.cylinder := by
  have hwanted : t.chargeWanted = s.chargeWanted := by simp only [State.chargeWanted, hc, hb]
  have hdone : t.chargeDone = s.chargeDone := by simp only [State.chargeDone, hc, hb]
  by_cases hidle : s.cylinder.state = .idle
  · rw [State.evalCylinder_idle hidle, State.evalCylinder_idle (hc ▸ hidle), hwanted, hc, hn]
  · by_cases hcharging : s.cylinder.state = .charging
    · rw [State.evalCylinder_charging hcharging, State.evalCylinder_charging (hc ▸ hcharging), State.toIdle_cylinder,
        State.toIdle_cylinder, hwanted, hdone, hc, hn]
    · rw [State.evalCylinder_other hidle hcharging, State.evalCylinder_other (hc ▸ hidle) (hc ▸ hcharging), hc]

/-- An evaluation under which forcing stands as it is writes neither records nor the queue. -/
theorem quiet_evaluate_steady (h : s.evaluate.boiler.forcing = s.boiler.forcing) : Quiet s s.evaluate := by
  cases hr : s.time.ready with
  | false => rw [State.evaluate_low hr]; exact Quiet.refl s
  | true =>
    have hquiet := quiet_pumped hr
    rw [State.evaluate_eq hr] at h ⊢
    rw [State.evalForcing_boiler] at h
    rw [State.evalForcing_same (hquiet.forcing.trans h.symm)]
    exact hquiet

/-- Forcing leaves the targets of the valves of other zones. -/
theorem evalForcing_target_other {i : Fin 48} (hi : ∀ y, s.boiler.config.bypassZone = some y → i ∉ s.valvesOf y) :
    (s.evalForcing.device i).map Device.target = (s.device i).map Device.target := by
  have hfold : ∀ (c : Class) (v : Int) (y : Fin 16) (f : Bool), s.boiler.config.bypassZone = some y →
      (((s.valvesOf y).foldl (State.setAndHand c v) (s.setBoiler { s.boiler with forcing := f })).device i).map Device.target =
        (s.device i).map Device.target := fun c v y f hy => by
    rw [foldl_field Device.target v (setAndHand_target c v) (fun s i j => (actsAt_setAndHand c v).device_other s),
      if_neg (hi y hy)]
    rfl
  by_cases hsame : s.boiler.forcing = s.forcingWanted
  · rw [State.evalForcing_same hsame]
  cases hf : s.boiler.forcing with
  | false =>
    have hw : s.forcingWanted = true := by simpa [hf] using Ne.symm hsame
    obtain ⟨z, hz⟩ := bypassZone_of_fails (s.forcingWanted_iff.1 hw).2
    rw [State.evalForcing_begins hf hw hz]
    exact hfold _ _ z _ hz
  | true =>
    have hw : s.forcingWanted = false := by simpa [hf] using Ne.symm hsame
    rw [State.evalForcing_ends hf hw]
    cases hz : s.boiler.config.bypassZone with
    | none => simp only [State.endForcing, hz]; rfl
    | some z => rw [State.endForcing_zone hz]; exact hfold _ _ z _ hz

theorem evaluate_target_other {i : Fin 48} (hi : ∀ y, s.boiler.config.bypassZone = some y → i ∉ s.valvesOf y) :
    (s.evaluate.device i).map Device.target = (s.device i).map Device.target := by
  cases hr : s.time.ready with
  | false => rw [State.evaluate_low hr]
  | true =>
    have hquiet := quiet_pumped hr
    rw [State.evaluate_eq hr, ← hquiet.device i]
    exact evalForcing_target_other fun y hy => by rw [hquiet.valvesOf]; exact hi y (hquiet.bypass ▸ hy)

/-- The valves that forcing holds have target 100 (R122). -/
theorem State.Urged.target {z : Fin 16} (h : t.Urged) (hf : t.boiler.forcing = true) (hb : t.boiler.config.bypassZone = some z)
    (hst : s.SettlesTo t) {i : Fin 48} {d : Device} (hd : s.device i = some d) (hz : d.servesZone z = true) :
    (t.device i).map Device.target = some 100 := by
  obtain ⟨e, he, hserves⟩ := hst.device_served hd hz
  rw [he, Option.map_some, (h hf z hb i e he hserves).1]

/-! ### The stores -/

theorem realItems_eq_nil : realItems items = [] ↔ ∀ x ∈ items, x.code = 0 := by
  simp [realItems, List.filter_eq_nil_iff]

theorem itemWord_of_nil (h : realItems items = []) (code : Nat) : itemWord items code = none := by simp [itemWord, h]

/-- A write with no item keeps the record. -/
theorem BoilerConfig.store_of_nil (h : realItems items = []) (c : BoilerConfig) : c.store items = c := by
  simp [BoilerConfig.store, takeItem, item, takeBypass, itemWord_of_nil h]

theorem takeBypass_elim (h : bypassOk items = true) (old : Option (Fin 16)) : takeBypass items old =
    (itemWord items 17).elim old (fun w => if h : w.toNat < 16 then some ⟨w.toNat, h⟩ else none) := by
  unfold takeBypass
  unfold bypassOk at h
  cases hw : itemWord items 17 with
  | none => rfl
  | some w =>
    rw [hw] at h
    simp only [Option.all_some] at h
    simp only [Option.bind_some, Option.elim_some]
    unfold roomOrNone at h ⊢
    by_cases hlt : w.toNat < 16
    · simp only [dif_pos hlt]
    · simp only [dif_neg hlt] at h ⊢
      split at h
      · next hnone => simp only [if_pos hnone]
      · cases h

/-- A length written for an interval that began at `start` has already run (R103). -/
def State.ranOut (s : State) (items : List Item) (code start : Nat) (length : Int) : Bool :=
  carries items code && decide (length.toNat * 60000 ≤ s.time.now - start)

theorem State.ranOut_iff (s : State) (items : List Item) (code start : Nat) (m : Int) :
    s.ranOut items code start m = true ↔ carries items code = true ∧ s.overdue (some start) (minutes m) = true := by
  rw [State.ranOut, Bool.and_eq_true]; exact Iff.rfl

/-- A write that ends tBOFF. -/
abbrev State.offEnds (s : State) (items : List Item) : Prop :=
  s.boiler.burner = .off ∧ s.ranOut items 12 s.boiler.lastStop s.boiler.config.tBoff = true

/-- The pump once the write has taken tOVR. -/
def State.pumpShortened (s : State) (items : List Item) : Pump :=
  match s.boiler.pump with
  | .overrun a => if s.ranOut items 13 a s.boiler.config.tOvr then .stopped else .overrun a
  | p => p

/-- The minimum on time once the write has taken tBON. -/
def State.minOnShortened (s : State) (items : List Item) : Option Nat :=
  s.boiler.minOn.filter (fun a => !s.ranOut items 11 a s.boiler.config.tBon)

theorem State.minOnShortened_eq (s : State) (items : List Item) : s.minOnShortened items =
    if carries items 11 = true ∧ s.overdue s.boiler.minOn (minutes s.boiler.config.tBon) = true then none
    else s.boiler.minOn := by
  unfold State.minOnShortened
  cases s.boiler.minOn with
  | none => simp
  | some a =>
    rw [if_congr (s.ranOut_iff items 11 a s.boiler.config.tBon).symm rfl rfl]
    cases h : s.ranOut items 11 a s.boiler.config.tBon <;> simp [Option.filter_some, h]

theorem State.pumpShortened_eq (s : State) (items : List Item) : s.pumpShortened items =
    if carries items 13 = true ∧ s.overdue s.boiler.overrunStart (minutes s.boiler.config.tOvr) = true then .stopped
    else s.boiler.pump := by
  unfold State.pumpShortened Boiler.overrunStart
  cases s.boiler.pump with
  | stopped => simp
  | running => simp [State.overdue]
  | overrun a => exact if_congr (s.ranOut_iff items 13 a s.boiler.config.tOvr) rfl rfl

theorem State.pumpShortened_overrun {a : Nat} (h : s.boiler.pump = .overrun a) :
    s.pumpShortened items = if s.ranOut items 13 a s.boiler.config.tOvr then .stopped else .overrun a := by
  simp only [State.pumpShortened, h]

theorem State.pumpShortened_still (h : ∀ a, s.boiler.pump ≠ .overrun a) : s.pumpShortened items = s.boiler.pump := by
  unfold State.pumpShortened
  split
  · next a ha => exact absurd ha (h a)
  · rfl

theorem State.shortenMinOn_eq (items : List Item) (s : State) :
    s.shortenMinOn items = s.setBoiler { s.boiler with minOn := s.minOnShortened items } := by
  rw [State.minOnShortened_eq, State.shortenMinOn]
  split <;> rfl

theorem State.shortenOff_eq (items : List Item) (s : State) :
    s.shortenOff items = s.setBoiler (if s.offEnds items then s.boiler.moveTo .ready else s.boiler) := by
  have hends : (carries items 12 = true ∧ s.boiler.burner = .off ∧
      s.overdue (some s.boiler.lastStop) (minutes s.boiler.config.tBoff) = true) ↔ s.offEnds items :=
    and_left_comm.trans (and_congr_right' (s.ranOut_iff items 12 _ _).symm)
  rw [State.shortenOff, if_congr hends rfl rfl]
  split <;> rfl

theorem State.shortenOverrun_eq (items : List Item) (s : State) :
    s.shortenOverrun items = s.setBoiler { s.boiler with pump := s.pumpShortened items } := by
  rw [State.pumpShortened_eq, State.shortenOverrun]
  split <;> rfl

/-- The result of the reported check that a write leaves before its evaluation (R121). -/
def State.reportedKept (s : State) : Option Bool :=
  if s.boiler.burner = .firing ∧ s.checkInForce = true ∧ s.boiler.reported = none then some true else s.boiler.reported

theorem State.keepPassing_eq (s : State) : s.keepPassing = s.setBoiler { s.boiler with reported := s.reportedKept } := by
  unfold State.keepPassing State.reportedKept
  split <;> rfl

/-- The state with the values of the write stored, its intervals not yet taken. -/
def State.boilerStored (s : State) (items : List Item) : State :=
  (s.releaseBypass items).setBoiler
    { (s.releaseBypass items).boiler with config := (s.releaseBypass items).boiler.config.store items }

/-- The state that the evaluation of a write begins in. -/
def State.boilerWritten (s : State) (items : List Item) : State :=
  (((s.boilerStored items).keepPassing.shortenMinOn items).shortenOff items).shortenOverrun items

theorem State.storeBoiler_eq (s : State) (items : List Item) : s.storeBoiler items = (s.boilerWritten items).evaluate := rfl

/-- The boiler with the intervals taken that the write ends. -/
def State.boilerShortened (s : State) (items : List Item) : Boiler :=
  let b := { s.boiler with reported := s.reportedKept, minOn := s.minOnShortened items }
  { (if s.offEnds items then b.moveTo .ready else b) with pump := s.pumpShortened items }

theorem State.boilerWritten_eq (s : State) (items : List Item) :
    s.boilerWritten items = (s.boilerStored items).setBoiler ((s.boilerStored items).boilerShortened items) := by
  unfold State.boilerWritten
  generalize s.boilerStored items = v
  let b := { v.boiler with reported := v.reportedKept, minOn := v.minOnShortened items }
  have hmin : v.keepPassing.shortenMinOn items = v.setBoiler b := by
    rw [State.keepPassing_eq, State.shortenMinOn_eq]; rfl
  have hoff : (v.setBoiler b).offEnds items ↔ v.offEnds items := Iff.rfl
  rw [hmin, State.shortenOff_eq, if_congr hoff rfl rfl, State.shortenOverrun_eq, State.boilerShortened]
  split <;> rfl

theorem State.boilerWritten_boiler (s : State) (items : List Item) :
    (s.boilerWritten items).boiler = (s.boilerStored items).boilerShortened items := by
  rw [State.boilerWritten_eq]; rfl

theorem State.releaseBypass_boiler (s : State) (items : List Item) : (s.releaseBypass items).boiler = { s.boiler with
    forcing := s.boiler.forcing && decide (takeBypass items s.boiler.config.bypassZone = s.boiler.config.bypassZone) } := by
  unfold State.releaseBypass
  cases hf : s.boiler.forcing with
  | false =>
    have hsame : s.boiler = { s.boiler with forcing := s.boiler.forcing } := rfl
    rw [hf] at hsame
    simpa using hsame
  | true =>
    by_cases hb : takeBypass items s.boiler.config.bypassZone = s.boiler.config.bypassZone
    · have hsame : s.boiler = { s.boiler with forcing := s.boiler.forcing } := rfl
      rw [hf] at hsame
      simpa [hb] using hsame
    · simp [hb, s.endForcing_boiler]

theorem State.settlesTo_releaseBypass (s : State) (items : List Item) : s.SettlesTo (s.releaseBypass items) := by
  unfold State.releaseBypass
  split
  · exact s.settlesTo_endForcing
  · exact s.settlesTo_refl

theorem State.releaseBypass_cylinder (s : State) (items : List Item) : (s.releaseBypass items).cylinder = s.cylinder := by
  unfold State.releaseBypass State.endForcing
  split
  · split
    · exact State.setAndHands_cylinder _ _ _ _
    · rfl
  · rfl

/-- Of the record that forcing holds the write keeps the hold where bypass_zone stays. -/
abbrev State.holdsOn (s : State) (items : List Item) : Prop :=
  s.boiler.forcing = true ∧ (s.boiler.config.store items).bypassZone = s.boiler.config.bypassZone

theorem State.releaseBypass_kept (h : s.holdsOn items ∨ s.boiler.forcing = false) : s.releaseBypass items = s := by
  refine if_neg fun ⟨hf, hb⟩ => ?_
  rcases h with ⟨-, hsame⟩ | hoff
  · exact hb hsame
  · rw [hf] at hoff; cases hoff

theorem State.boilerStored_boiler (s : State) (items : List Item) : (s.boilerStored items).boiler = { s.boiler with
    config := s.boiler.config.store items, forcing := decide (s.holdsOn items) } := by
  have hforcing : (s.boiler.forcing && decide (takeBypass items s.boiler.config.bypassZone = s.boiler.config.bypassZone)) =
      decide (s.holdsOn items) := by
    rw [Bool.decide_and, Bool.decide_eq_true]; rfl
  unfold State.boilerStored
  rw [State.releaseBypass_boiler, hforcing]
  rfl

theorem State.boilerStored_frame (s : State) (items : List Item) : (s.boilerStored items).cylinder = s.cylinder ∧
    (s.boilerStored items).time = s.time ∧ (s.boilerStored items).zones = s.zones :=
  ⟨s.releaseBypass_cylinder items, (s.settlesTo_releaseBypass items).time, (s.settlesTo_releaseBypass items).zones⟩

theorem State.boilerWritten_frame (s : State) (items : List Item) : (s.boilerWritten items).cylinder = s.cylinder ∧
    (s.boilerWritten items).time = s.time ∧ (s.boilerWritten items).zones = s.zones := by
  rw [State.boilerWritten_eq]
  exact s.boilerStored_frame items

theorem State.boilerShortened_frame (s : State) (items : List Item) : s.boilerShortened items = { s.boiler with
    burner := (s.boilerShortened items).burner, minOn := (s.boilerShortened items).minOn
    waitFlow := (s.boilerShortened items).waitFlow, recovery := (s.boilerShortened items).recovery
    pump := s.pumpShortened items, reported := s.reportedKept } := by
  unfold State.boilerShortened
  split <;> rfl

theorem State.boilerShortened_burner (s : State) (items : List Item) :
    (s.boilerShortened items).burner = if s.offEnds items then .ready else s.boiler.burner := by
  unfold State.boilerShortened
  split <;> rfl

theorem State.boilerShortened_on (h : s.boiler.burner ≠ .off) :
    (s.boilerShortened items).minOn = s.minOnShortened items ∧ (s.boilerShortened items).waitFlow = s.boiler.waitFlow := by
  unfold State.boilerShortened
  split
  · next hends => exact absurd hends.1 h
  · exact ⟨rfl, rfl⟩

/-- The boiler that the evaluation of a write begins with, less burner, timers and reported check. -/
theorem State.boilerWritten_fields (s : State) (items : List Item) :
    let b := s.boiler
    let c := (s.boilerWritten items).boiler
    c.config = b.config.store items ∧ c.tf = b.tf ∧ c.tc = b.tc ∧ c.startList = b.startList ∧ c.lastStop = b.lastStop ∧
      c.forcing = decide (s.holdsOn items) := by
  intro b c
  have hc : c = (s.boilerStored items).boilerShortened items := s.boilerWritten_boiler items
  rw [hc, State.boilerShortened_frame, State.boilerStored_boiler]
  exact ⟨rfl, rfl, rfl, rfl, rfl, rfl⟩

theorem State.boilerWritten_forcing (s : State) (items : List Item) :
    (s.boilerWritten items).boiler.forcing = decide (s.holdsOn items) := by
  obtain ⟨-, -, -, -, -, hforcing⟩ := s.boilerWritten_fields items
  exact hforcing

/-- Burner and pump that the evaluation of a write begins with (R103). -/
theorem State.boilerWritten_moves (s : State) (items : List Item) :
    let b := s.boiler
    let k := b.config.store items
    let c := (s.boilerWritten items).boiler
    c.burner = (if b.burner = .off ∧ s.ranOut items 12 b.lastStop k.tBoff = true then .ready else b.burner) ∧
      (∀ a, b.pump = .overrun a → c.pump = if s.ranOut items 13 a k.tOvr then .stopped else .overrun a) ∧
      ((∀ a, b.pump ≠ .overrun a) → c.pump = b.pump) ∧
      (b.burner ≠ .off → c.minOn = b.minOn.filter (fun a => !s.ranOut items 11 a k.tBon) ∧ c.waitFlow = b.waitFlow) := by
  intro b k c
  let v := s.boilerStored items
  have hc : c = v.boilerShortened items := s.boilerWritten_boiler items
  have hran : ∀ code start m, v.ranOut items code start m = s.ranOut items code start m := fun _ _ _ => by
    unfold State.ranOut; rw [(s.boilerStored_frame items).2.1]
  have hv : v.boiler = { b with config := k, forcing := decide (s.holdsOn items) } := s.boilerStored_boiler items
  have hends : v.offEnds items ↔ b.burner = .off ∧ s.ranOut items 12 b.lastStop k.tBoff = true := by
    change (v.boiler.burner = .off ∧ v.ranOut items 12 v.boiler.lastStop v.boiler.config.tBoff = true) ↔ _
    rw [hran, hv]
  rw [hc, State.boilerShortened_burner, if_congr hends rfl rfl]
  have hpump : (v.boilerShortened items).pump = v.pumpShortened items := by rw [State.boilerShortened_frame]
  refine ⟨?_, fun a ha => ?_, fun hno => ?_, fun hon => ?_⟩
  · rw [hv]
  · rw [hpump, State.pumpShortened_overrun (s := v) (by rw [hv]; exact ha), hran, hv]
  · rw [hpump, State.pumpShortened_still (s := v) (by rw [hv]; exact hno), hv]
  · obtain ⟨hmin, hwait⟩ := State.boilerShortened_on (s := v) (items := items) (by rw [hv]; exact hon)
    rw [hmin, hwait, State.minOnShortened, hv]
    simp only [hran]
    exact ⟨trivial, trivial⟩

/-- Only a firing burner fires where the evaluation of a write begins. -/
theorem State.boilerWritten_firing (s : State) (items : List Item) :
    (s.boilerWritten items).boiler.burner = .firing ↔ s.boiler.burner = .firing := by
  rw [(s.boilerWritten_moves items).1]
  split
  · next hoff => simp [hoff.1]
  · rfl

/-- A stretch of WAIT FLOW goes on over a write (R111). -/
theorem State.boilerWritten_waitFlow (s : State) (items : List Item) :
    let c := (s.boilerWritten items).boiler
    (if c.burner = .wait .flow then c.waitFlow else some (s.boilerWritten items).time.now) =
      if s.boiler.burner = .wait .flow then s.boiler.waitFlow else some s.time.now := by
  intro c
  obtain ⟨hburner, -, -, htimers⟩ := s.boilerWritten_moves items
  have hiff : c.burner = .wait .flow ↔ s.boiler.burner = .wait .flow := by
    rw [show c.burner = _ from hburner]
    split
    · next hoff => simp [hoff.1]
    · rfl
  rw [if_congr hiff rfl rfl, (s.boilerWritten_frame items).2.1]
  split
  · next hwait => exact (htimers (by simp [hwait])).2
  · rfl

theorem State.checkInForce_iff (s : State) : s.checkInForce = true ↔
    s.boiler.config.bypassZone ≠ none ∧ s.boiler.config.minflowPct ≠ 0 ∧ s.cylinder.state ≠ .charging := by
  simp [State.checkInForce, State.charging, Option.isSome_iff_ne_none, and_assoc]

/-- The result of the reported check that the evaluation of a write begins with (R121). -/
theorem State.boilerWritten_reported (s : State) (items : List Item) : (s.boilerWritten items).boiler.reported =
    if s.boiler.burner = .firing ∧ ((s.boiler.config.store items).bypassZone ≠ none ∧
        (s.boiler.config.store items).minflowPct ≠ 0 ∧ s.cylinder.state ≠ .charging) ∧ s.boiler.reported = none
      then some true
    else s.boiler.reported := by
  rw [State.boilerWritten_boiler, State.boilerShortened_frame]
  simp only [State.reportedKept, State.checkInForce_iff, s.boilerStored_boiler, (s.boilerStored_frame items).1]

/-- The result of the reported check after an evaluation: under a burner that goes on firing it stays (R121, R136). -/
theorem State.evaluate_reported_stays (h : s.time.ready = true) : s.evaluate.boiler.reported =
    if s.evaluate.checkInForce then
      some (if s.boiler.burner = .firing ∧ s.evaluate.boiler.burner = .firing then
        s.boiler.reported.getD s.evaluate.reportedPass else s.evaluate.reportedPass)
    else none := by
  have hflow : SameFlow s.evalCylinder s.evaluate := by
    rw [State.evaluate_eq h]
    exact s.sameFlow_beforePump.trans s.sameFlow_pumped
  have hbefore : s.beforeBurner.evalBurner.boiler.reported = s.evalCylinder.evalReported.boiler.reported := by
    rw [State.evalBurner_eq]; rfl
  rw [State.evaluate_reported h, hbefore, State.evalReported_eq]
  change (if s.evaluate.checkInForce = true then (if s.evaluate.boiler.burner = .firing ∧
    (if s.evalCylinder.checkInForce = true then _ else _ : Option Bool).isSome = true then _ else _) else _) = _
  rw [← hflow.checkInForce, ← hflow.checkHolds, ← hflow.reportedOf, s.evalCylinder_boiler]
  cases hforce : s.evaluate.checkInForce with
  | false => rfl
  | true =>
    have hpass : s.evaluate.reportedPass = s.evaluate.checkHolds s.evaluate.reportedOf := by
      simp [State.reportedPass, hforce]
    rw [hpass]
    by_cases hb : s.boiler.burner = .firing <;> by_cases ht : s.evaluate.boiler.burner = .firing <;>
      cases hr : s.boiler.reported <;> simp [hb, ht]

theorem State.settlesTo_boilerWritten (s : State) (items : List Item) :
    State.SettlesTo { s with boiler := { s.boiler with config := s.boiler.config.store items } } (s.boilerWritten items) := by
  have hrelease := s.settlesTo_releaseBypass items
  have hstored : State.SettlesTo { s with boiler := { s.boiler with config := s.boiler.config.store items } }
      (s.boilerStored items) := by
    refine ⟨?_, hrelease.2⟩
    rw [State.boilerStored, s.releaseBypass_config]
    conv_lhs => rw [hrelease.1]
    rfl
  refine hstored.trans ?_
  rw [State.boilerWritten_eq, State.boilerShortened_frame]
  exact ⟨rfl, fun _ => rfl⟩

theorem State.settlesTo_storeBoiler (s : State) (items : List Item) :
    State.SettlesTo { s with boiler := { s.boiler with config := s.boiler.config.store items } } (s.storeBoiler items) :=
  (s.settlesTo_boilerWritten items).trans (State.settlesTo_evaluate _)

end Sys2Proof.Machine

/-! WRITE of the boiler record, clause by clause (R103). -/

namespace Sys2Proof.Machine

variable {s t : State} {items : List Item}

/-! ### Acceptance and refusal -/

theorem pairOk_eq_false {low high : Nat} {storedLow storedHigh : Int}
    (hc : carries items low = true ∨ carries items high = true)
    (hlt : (item items high).getD storedHigh < (item items low).getD storedLow) :
    pairOk items low high storedLow storedHigh = false := by
  have hcarry : (carries items low || carries items high) = true := by simpa using hc
  simpa [pairOk, hcarry] using hlt

/-- What a WRITE of the boiler record is refused for (R103, R201). -/
theorem boilerCheck_eq_false {c : BoilerConfig} (h : (∃ x ∈ items, 18 < x.code.toNat) ∨
    (∃ w, itemWord items 17 = some w ∧ 16 ≤ w.toNat ∧ w ≠ 0x8000) ∨
    ((carries items 4 = true ∨ carries items 6 = true) ∧
      (item items 6).getD c.floorMax < (item items 4).getD c.flowMin) ∨
    ((carries items 4 = true ∨ carries items 5 = true) ∧
      (item items 5).getD c.flowMax < (item items 4).getD c.flowMin)) : boilerCheck c items = false := by
  unfold boilerCheck
  simp only [Bool.and_eq_false_iff]
  rcases h with ⟨x, hx, hcode⟩ | ⟨w, hw, hlarge, hnone⟩ | ⟨hcarry, hlt⟩ | ⟨hcarry, hlt⟩
  · have hzero : x.code ≠ 0 := fun h => by simp [h] at hcode
    refine .inl (.inl (.inl (codesOk_eq_false hx hzero fun hmem => ?_)))
    have hbound : ∀ n ∈ boilerCodes, n ≤ 18 := by decide
    exact absurd (hbound _ hmem) (by omega)
  · refine .inl (.inl (.inr ?_))
    unfold bypassOk roomOrNone
    rw [hw, Option.all_some, dif_neg (by omega)]
    exact congrArg Option.isSome (if_neg hnone)
  · exact .inl (.inr (pairOk_eq_false hcarry hlt))
  · exact .inr (pairOk_eq_false hcarry hlt)

theorem exec_writeBoiler (key : Word) (items : List Item) (s : State) : exec (.writeBoiler key items) s =
    .next (s.command (.writeBoiler key items) (fun t => t.writeBoiler key items)) := rfl

theorem writeBoiler_accepted (h : boilerCheck s.boiler.config items = true) (s' : State)
    (hs' : s' = if realItems items = [] then s else s.storeBoiler items) :
    s.writeBoiler 0 items = (s', .record (okOrClamped (boilerClamped items)) 0 s'.boilerView) := by
  subst hs'
  unfold State.writeBoiler
  rw [if_neg (by decide), if_pos h]

/-! ### The burner -/

section
variable (h : s.time.ready = true)
include h

theorem boilerWritten_ready (items : List Item) : (s.boilerWritten items).time.ready = true := by
  rw [(s.boilerWritten_frame items).2.1]; exact h

theorem storeBoiler_channel (items : List Item) : (s.storeBoiler items).cylinder = s.evalCylinder.cylinder := by
  obtain ⟨hc, ht, -⟩ := s.boilerWritten_frame items
  obtain ⟨-, -, htc, -⟩ := s.boilerWritten_fields items
  rw [State.storeBoiler_eq, State.evaluate_ready (boilerWritten_ready h items), State.evalCylinder_congr hc htc ht]

/-- The conditions that the evaluation of a write takes, read after it (R111, R113). -/
theorem storeBoiler_conditions (items : List Item) :
    let t := s.storeBoiler items
    let k := s.boiler.config.store items
    let u := (s.boilerWritten items).evalCylinder
    (u.startConditions = true ↔ t.burnerDemand = true ∧ s.boiler.tf.status = some .ok ∧
      ∃ v, s.boiler.tf.value = some v ∧ v ≤ t.flowTarget - k.onDiff) ∧
    (u.startsGate = true ↔ k.startsLimit ≤ (s.boiler.startList.length : Int)) ∧
    (u.stopWanted = true ↔ (s.boilerWritten items).boiler.minOn = none ∧ (t.burnerDemand = false ∨
      ∃ v, s.boiler.tf.value = some v ∧ t.flowTarget + k.offDiff ≤ v)) ∧
    u.reportedPass = t.reportedPass := by
  intro t k u
  have hready := boilerWritten_ready h items
  obtain ⟨hconfig, htf, -, hlist, -⟩ := s.boilerWritten_fields items
  have hstart := State.evaluate_startConditions hready
  have hstop := State.evaluate_stopWanted hready
  have hgate := (s.boilerWritten items).evalCylinder_startsGate
  rw [htf, hconfig] at hstart hstop
  rw [hconfig, hlist] at hgate
  exact ⟨hstart, hgate, hstop, (State.evaluate_keeps hready).2.2.symm⟩

/-! ### The reported check -/

/-- The result of the reported check after a write (R121). -/
theorem storeBoiler_reported (items : List Item) :
    let t := s.storeBoiler items
    let b := s.boiler
    let k := b.config.store items
    t.boiler.reported = if k.bypassZone ≠ none ∧ k.minflowPct ≠ 0 ∧ t.cylinder.state ≠ .charging then
      some (if b.burner = .firing ∧ t.boiler.burner = .firing then
        b.reported.getD (decide (s.cylinder.state ≠ .charging) || t.reportedPass) else t.reportedPass)
      else none := by
  intro t b k
  have hconfig : t.boiler.config = k := by
    rw [show t.boiler.config = _ from congrArg (fun u : State => u.boiler.config) (s.settlesTo_storeBoiler items).1]
  have hforce : t.checkInForce = true ↔ k.bypassZone ≠ none ∧ k.minflowPct ≠ 0 ∧ t.cylinder.state ≠ .charging := by
    rw [State.checkInForce_iff, hconfig]
  have hreported := State.evaluate_reported_stays (boilerWritten_ready h items)
  rw [← State.storeBoiler_eq, if_congr (and_congr_left' (s.boilerWritten_firing items)) rfl rfl] at hreported
  rw [show t.boiler.reported = _ from hreported, if_congr hforce rfl rfl]
  by_cases hin : k.bypassZone ≠ none ∧ k.minflowPct ≠ 0 ∧ t.cylinder.state ≠ .charging
  · rw [if_pos hin, if_pos hin]
    by_cases hfire : b.burner = .firing ∧ t.boiler.burner = .firing
    · rw [if_pos hfire, if_pos hfire, State.boilerWritten_reported]
      cases hr : s.boiler.reported with
      | some r => simp
      | none =>
        by_cases hcharging : s.cylinder.state = .charging
        · simp [hcharging, t]
        · rw [if_pos ⟨hfire.1, ⟨hin.1, hin.2.1, hcharging⟩, rfl⟩]
          simp [hcharging]
    · rw [if_neg hfire, if_neg hfire]
  · rw [if_neg hin, if_neg hin]

end

/-! ### Forcing and the valves -/

section
variable {z : Fin 16} {i : Fin 48} {d : Device} (hd : s.device i = some d) (hserves : d.servesZone z = true)

theorem storeBoiler_bypass (s : State) (items : List Item) :
    (s.storeBoiler items).boiler.config = s.boiler.config.store items := by
  rw [(s.settlesTo_storeBoiler items).1]

include hd hserves

/-- Forcing that begins with the write opens the valves of the new zone (R122). -/
theorem storeBoiler_forces (hz : (s.boiler.config.store items).bypassZone = some z)
    (hon : (s.storeBoiler items).boiler.forcing = true) (hnew : ¬ s.holdsOn items) :
    ((s.storeBoiler items).device i).map Device.target = some 100 := by
  have hurged : (s.storeBoiler items).Urged := (preserves_evaluate (s.boilerWritten items)).urged fun hf => by
    rw [s.boilerWritten_forcing items] at hf
    exact absurd (of_decide_eq_true hf) hnew
  refine hurged.target hon ?_ (s.settlesTo_storeBoiler items) hd hserves
  rw [storeBoiler_bypass]; exact hz

/-- Forcing released at the write gives the valves of the old zone back before the stores (R122). -/
theorem boilerWritten_returned (hz : s.boiler.config.bypassZone = some z) (hon : s.boiler.forcing = true)
    (hreleased : ¬ s.holdsOn items) :
    ((s.boilerWritten items).device i).map Device.target = some (s.zone z).ownTarget := by
  have hend : s.releaseBypass items = s.endForcing := if_pos ⟨hon, fun hsame => hreleased ⟨hon, hsame⟩⟩
  have hforcing : (s.boilerWritten items).boiler.forcing = false := by
    rw [s.boilerWritten_forcing items]; exact decide_eq_false hreleased
  refine State.ReturnedTo.target ?_ hforcing (s.settlesTo_boilerWritten items) hd hserves
  rw [State.boilerWritten_eq, State.boilerStored, hend]
  exact fun _ => returned_endForcing hz (by rw [s.endForcing_boiler])

/-- Forcing that ends with the write, or leaves the old zone, gives its valves back their own target (R92, R122). -/
theorem storeBoiler_returns (hz : s.boiler.config.bypassZone = some z) (hon : s.boiler.forcing = true)
    (hends : ¬ (s.holdsOn items ∧ (s.storeBoiler items).boiler.forcing = true)) :
    ((s.storeBoiler items).device i).map Device.target = some (s.zone z).ownTarget := by
  obtain ⟨hconfig, -⟩ := s.boilerWritten_fields items
  by_cases hheld : s.holdsOn items
  · have hoff : (s.storeBoiler items).boiler.forcing = false := by simpa [hheld] using hends
    have hreturned := (preserves_evaluate (s.boilerWritten items)).returned fun hf => by
      rw [s.boilerWritten_forcing items, decide_eq_true hheld] at hf; cases hf
    rw [← State.storeBoiler_eq, storeBoiler_bypass, hheld.2, hz] at hreturned
    exact hreturned.target hoff (s.settlesTo_storeBoiler items) hd hserves
  · obtain ⟨e, he, hez⟩ := (s.settlesTo_boilerWritten items).device_served hd hserves
    rw [State.storeBoiler_eq, evaluate_target_other, boilerWritten_returned hd hserves hz hon hheld]
    refine not_mem_valvesOf he (Device.servesZone_iff.1 hez).2.1 ?_
    rw [hconfig, ← hz]
    exact fun hsame => hheld ⟨hon, hsame⟩

end

/-- A write under which forcing stays as it is, in its zone, writes no device record and no queue entry (R122). -/
theorem storeBoiler_undisturbed (hsame : (s.storeBoiler items).boiler.forcing = s.boiler.forcing)
    (hkept : s.holdsOn items ∨ s.boiler.forcing = false) :
    (s.storeBoiler items).registry = s.registry ∧ (s.storeBoiler items).motor = s.motor := by
  have hforcing : (s.boilerWritten items).boiler.forcing = s.boiler.forcing := by
    rw [s.boilerWritten_forcing items]
    rcases hkept with h | h
    · rw [decide_eq_true h, h.1]
    · exact (decide_eq_false fun hheld => by rw [hheld.1] at h; cases h).trans h.symm
  have hquiet : Quiet (s.boilerWritten items) (s.storeBoiler items) := quiet_evaluate_steady (hsame.trans hforcing.symm)
  have hwritten : (s.boilerWritten items).registry = s.registry ∧ (s.boilerWritten items).motor = s.motor := by
    rw [State.boilerWritten_eq, State.boilerStored, State.releaseBypass_kept hkept]
    exact ⟨rfl, rfl⟩
  have hsettles := (s.settlesTo_storeBoiler items).1
  have hregistry : (s.storeBoiler items).registry =
      { s.registry with devices := (s.storeBoiler items).registry.devices } := congrArg State.registry hsettles
  have hmotor : (s.storeBoiler items).motor = { s.motor with queue := (s.storeBoiler items).motor.queue } :=
    congrArg State.motor hsettles
  rw [hregistry, hmotor, hquiet.devices, hquiet.queue, hwritten.1, hwritten.2]
  exact ⟨rfl, rfl⟩

/-! ### Intervals that the write ends -/

/-- A tBON that has run ends its interval, whatever the evaluation makes of it. -/
theorem storeBoiler_minOn (hcarries : carries items 11 = true) (hb : s.boiler.burner = .firing)
    (hran : ∀ a, s.boiler.minOn = some a →
      (s.boiler.config.store items).tBon.toNat * 60000 ≤ s.time.now - a) : (s.storeBoiler items).boiler.minOn = none := by
  obtain ⟨hburner, -, -, htimers⟩ := s.boilerWritten_moves items
  rw [hb, if_neg (by simp)] at hburner
  have hnone : (s.boilerWritten items).boiler.minOn = none := by
    rw [(htimers (by simp [hb])).1]
    cases hm : s.boiler.minOn with
    | none => rfl
    | some a => simp [State.ranOut, hcarries, hran a hm]
  rw [State.storeBoiler_eq]
  cases hr : (s.boilerWritten items).time.ready with
  | false => rw [State.evaluate_low hr]; exact hnone
  | true =>
    obtain ⟨-, hstops, hstays⟩ := State.evaluate_firing hr hburner
    cases hw : (s.boilerWritten items).evalCylinder.stopWanted with
    | true => exact (hstops hw).2.1
    | false => exact (hstays hw).2.1.trans hnone

/-- A tBOFF that has run ends its interval (R110). -/
theorem storeBoiler_ne_off (hcarries : carries items 12 = true) (hb : s.boiler.burner = .off)
    (hran : (s.boiler.config.store items).tBoff.toNat * 60000 ≤ s.time.now - s.boiler.lastStop) :
    (s.storeBoiler items).boiler.burner ≠ .off := by
  obtain ⟨hburner, -⟩ := s.boilerWritten_moves items
  rw [if_pos ⟨hb, by simp [State.ranOut, hcarries, hran]⟩] at hburner
  exact State.evaluate_startable_ne_off (.inl hburner)

/-! ### The obligation -/

/-- Settles O27: a write is its stores, the intervals they end and an evaluation (`State.boilerWritten`), and the evaluation
of a start, of a stop, of the reported check, of the pump and of forcing say what comes of it. -/
theorem writeBoilerStores : Obligations.WriteBoilerStores := by
  refine ⟨fun key items s ht hk => ?_, fun items s ht hbad => ?_, fun items s ht hcheck => ?_⟩
  · exact exec_refused ht (exec_writeBoiler key items s) (if_pos fun h => hk (BitVec.eq_of_toNat_eq h))
  · refine exec_refused ht (exec_writeBoiler 0 items s) ?_
    have hno : boilerCheck s.boiler.config items = false := boilerCheck_eq_false hbad
    unfold State.writeBoiler
    rw [if_neg (by decide), if_neg (by rw [show (s.received (.writeBoiler 0 items)).boiler = s.boiler from rfl, hno]; simp)]
  · intro i c c'
    have hbypass : bypassOk items = true := by
      simp only [boilerCheck, Bool.and_eq_true] at hcheck
      obtain ⟨⟨⟨-, hbypass⟩, -⟩, -⟩ := hcheck
      exact hbypass
    have hstore : c' = s.boiler.config.store items := by
      simp only [BoilerConfig.store, takeItem_elim, takeBypass_elim hbypass]
      rfl
    clear_value c'
    subst hstore
    let r := s.received i
    have hexec := fun t ht' =>
      exec_answered (t := t) ht (exec_writeBoiler 0 items s) (writeBoiler_accepted (s := r) hcheck t ht')
    by_cases hnil : realItems items = []
    · have hnone : ∀ code, carries items code = false := fun code => by rw [carries, itemWord_of_nil hnil]; rfl
      refine ⟨r, hexec r (if_pos hnil).symm, ?_, fun h => ?_, fun h => ?_, fun ⟨x, hx, hcode⟩ => ?_⟩
      · rw [BoilerConfig.store_of_nil hnil]; exact State.settlesTo_refl r
      · rw [hnone] at h; cases h
      · rw [hnone] at h; cases h
      · exact absurd (realItems_eq_nil.1 hnil x hx) hcode
    · refine ⟨r.storeBoiler items, hexec _ (if_neg hnil).symm, r.settlesTo_storeBoiler items,
        fun hcarries hb hran => storeBoiler_minOn (s := r) hcarries hb hran,
        fun hcarries hb hran => storeBoiler_ne_off (s := r) hcarries hb hran, fun _ hready => ?_⟩
      intro b b' now ran minOn burner pump wanted full stops held
      let w := r.boilerWritten items
      have hwready : w.time.ready = true := boilerWritten_ready (s := r) hready items
      obtain ⟨-, htime, -⟩ := r.boilerWritten_frame items
      obtain ⟨-, -, -, hlist, hlast, -⟩ := r.boilerWritten_fields items
      obtain ⟨hmoved, hoverrun, hstill, htimers⟩ := r.boilerWritten_moves items
      have hburner : w.boiler.burner = burner := hmoved
      have hpump : w.boiler.pump = pump := by
        cases hp : s.boiler.pump with
        | overrun a => refine (hoverrun a hp).trans ?_; simp only [pump, b, hp]; rfl
        | stopped => refine ((hstill fun a h => by cases hp.symm.trans h).trans hp).trans ?_; simp only [pump, b, hp]
        | running => refine ((hstill fun a h => by cases hp.symm.trans h).trans hp).trans ?_; simp only [pump, b, hp]
      obtain ⟨hstart, hgate, hstop, hpass⟩ := storeBoiler_conditions (s := r) hready items
      have hwanted : w.evalCylinder.startConditions = true ↔ wanted := hstart
      have hfull : w.evalCylinder.startsGate = true ↔ full := hgate
      refine ⟨?_, fun hb => ?_, fun hb => ?_, fun hb => ?_, storeBoiler_reported (s := r) hready items, ?_,
        State.evaluate_forcing hwready, fun z i d hd hz => ⟨fun hbypass hon hnew => ?_, fun hbypass hon hends => ?_⟩,
        storeBoiler_undisturbed (s := r)⟩
      · rw [storeBoiler_channel (s := r) hready items]
        exact State.evalCylinder_congr rfl rfl rfl
      · have hstartable : w.boiler.startable := by
          unfold Boiler.startable
          rw [hburner]
          rcases hb with h | h | h <;> simp [h]
        obtain ⟨h1, h2, h3, h4⟩ := State.evaluate_startable hwready hstartable
        rw [hlist, htime] at h4
        rw [hlist] at h1 h2 h3
        refine ⟨fun hno => h1 (Bool.eq_false_iff.2 (mt hwanted.1 hno)), fun hw hf => h2 (hwanted.2 hw) (hfull.2 hf),
          fun hw hf hp => ?_, fun hw hf hp => h4 (hwanted.2 hw) (Bool.eq_false_iff.2 (mt hfull.1 hf)) (hpass.trans hp)⟩
        obtain ⟨k1, k2, k3⟩ := h3 (hwanted.2 hw) (Bool.eq_false_iff.2 (mt hfull.1 hf)) (hpass.trans hp)
        exact ⟨k1, k2, k3.trans (r.boilerWritten_waitFlow items)⟩
      · have hfire : w.boiler.burner = .firing := hburner.trans hb
        have hon : s.boiler.burner = .firing := (r.boilerWritten_firing items).1 hfire
        have hmin : w.boiler.minOn = minOn := (htimers fun h => by cases hon.symm.trans h).1
        have hstops : w.evalCylinder.stopWanted = true ↔ stops := hstop.trans (and_congr_left' (by rw [← hmin]))
        obtain ⟨h1, h2, h3⟩ := State.evaluate_firing hwready hfire
        refine ⟨h1.trans hlist, fun h => ?_, fun h => ?_⟩
        · obtain ⟨k1, -, k3⟩ := h2 (hstops.2 h)
          exact ⟨k1, k3.trans (congrArg TimeBase.now htime)⟩
        · obtain ⟨k1, k2, k3⟩ := h3 (Bool.eq_false_iff.2 (mt hstops.1 h))
          exact ⟨k1, k2.trans hmin, k3.trans hlast⟩
      · have hrest : w.boiler.resting := by unfold Boiler.resting; rw [hburner]; exact hb
        obtain ⟨k1, k2⟩ := (State.restsTo_evaluate hrest).burner
        exact ⟨k1.trans hburner, k2.trans hlist⟩
      · have hafter := State.evaluate_pump hwready
        rw [hpump, htime] at hafter
        exact hafter
      · exact storeBoiler_forces (s := r) hd hz hbypass hon hnew
      · exact storeBoiler_returns (s := r) hd hz hbypass hon hends

end Sys2Proof.Machine

/-! One sample of the three inputs (R100): what each reading makes of its sensor, the burner, the channel and the notices,
one equation for each state they can be in. -/

namespace Sys2Proof.Machine

variable {s t u : State} {v : Int}

/-! ### A reading -/

/-- A reading out of the range of the inputs (R100). -/
abbrev badReading (v : Int) : Prop := v < -400 ∨ 1100 < v

theorem takeSensor_bad (h : badReading v) (x : Sensor) : takeSensor x v = { value := x.value, status := some .fault } :=
  if_neg (by omega)

theorem takeSensor_good (h : ¬ badReading v) (x : Sensor) : takeSensor x v = { value := some v, status := some .ok } :=
  if_pos (by omega)

/-! ### The burner under a TF sample (R102, R114) -/

theorem State.burnerSample_lockedOut (hb : s.boiler.burner = .lockedOut) (v : Int) : s.burnerSample v = s := by
  unfold State.burnerSample
  split <;> simp_all

theorem State.burnerSample_recovery_stops (hb : s.boiler.burner = .sensorFault) (hf : s.boiler.tf.status = some .fault) (v : Int) :
    s.burnerSample v = s.setBoiler { s.boiler with recovery := none } := by
  simp only [State.burnerSample, hb, hf]

theorem State.burnerSample_recovery_runs (hb : s.boiler.burner = .sensorFault) (hf : s.boiler.tf.status = some .ok) (v : Int) :
    s.burnerSample v = s.setBoiler { s.boiler with recovery := some (s.boiler.recovery.getD s.time.now) } := by
  simp only [State.burnerSample, hb, hf]
  rfl

theorem State.burnerSample_falls (hf : s.boiler.tf.status = some .fault) (hl : s.boiler.burner ≠ .lockedOut)
    (hs : s.boiler.burner ≠ .sensorFault) (v : Int) : s.burnerSample v = s.burnerSensorFault := by
  unfold State.burnerSample
  split <;> simp_all

theorem State.burnerSample_firing (hf : s.boiler.tf.status = some .ok) (hb : s.boiler.burner = .firing) (v : Int) :
    s.burnerSample v = if s.boiler.config.flowMax + 50 ≤ v then s.burnerOff else s := by
  simp only [State.burnerSample, hb, hf]

theorem State.burnerSample_stays (hf : s.boiler.tf.status = some .ok) (hb : s.boiler.burner ≠ .firing)
    (hs : s.boiler.burner ≠ .sensorFault) (v : Int) : s.burnerSample v = s := by
  unfold State.burnerSample
  split <;> simp_all

/-! ### The channel under a TC sample (R133) -/

/-- The states that a fault of TC ends. -/
def Cylinder.faultable (c : Cylinder) : Prop := c.state = .idle ∨ c.state = .charging ∨ c.state = .gap

theorem State.channelSample_falls (hf : s.boiler.tc.status = some .fault) (hc : s.cylinder.faultable) :
    s.channelSample = s.cylinderFault := by
  rcases hc with hc | hc | hc <;> simp only [State.channelSample, hc, hf]

theorem State.channelSample_recovery_stops (hf : s.boiler.tc.status = some .fault) (hc : s.cylinder.state = .fault) :
    s.channelSample = { s with cylinder := { s.cylinder with recovery := none } } := by
  simp only [State.channelSample, hc, hf]

theorem State.channelSample_recovery_runs (hf : s.boiler.tc.status = some .ok) (hc : s.cylinder.state = .fault) :
    s.channelSample = { s with cylinder := { s.cylinder with recovery := some (s.cylinder.recovery.getD s.time.now) } } := by
  have hsample : s.channelSample = if s.cylinder.recovery.isSome then s
      else { s with cylinder := { s.cylinder with recovery := some s.time.now } } := by
    unfold State.channelSample
    split <;> simp_all
  have hsame : s = { s with cylinder := { s.cylinder with recovery := s.cylinder.recovery } } := rfl
  rw [hsample]
  cases hr : s.cylinder.recovery with
  | none => rfl
  | some a => rw [hr] at hsame; exact hsame

theorem State.channelSample_stays (hf : s.boiler.tc.status = some .ok) (hc : s.cylinder.state ≠ .fault) :
    s.channelSample = s := by
  unfold State.channelSample
  split <;> simp_all

theorem State.channelSample_disabled (hc : s.cylinder.state = .disabled) : s.channelSample = s := by
  unfold State.channelSample
  split <;> simp_all

/-! ### Notices -/

theorem Notice.bit_injective : Function.Injective Notice.bit := fun m n => by
  cases m <;> cases n <;> simp [Notice.bit]

theorem State.raised_raise_other (s : State) {m n : Notice} (h : n ≠ m) : (s.raise m).raised n = s.raised n := by
  have hbit : m.bit ≠ n.bit := fun hbit => h (Notice.bit_injective hbit).symm
  simp [State.raised, Notice.mask, hbit]

/-- Of the Host Link no more than flags of the notices in `l` is written. -/
structure RaisesAmong (l : List Notice) (s t : State) : Prop where
  link : t.link = { s.link with flags := t.link.flags }
  other : ∀ n ∉ l, t.raised n = s.raised n

variable {l m : List Notice}

theorem RaisesAmong.of_link (h : t.link = s.link) : RaisesAmong l s t :=
  ⟨by rw [h], fun n _ => by rw [State.raised, h]; rfl⟩

theorem RaisesAmong.trans (h : RaisesAmong l s t) (k : RaisesAmong l t u) : RaisesAmong l s u :=
  ⟨by rw [k.link, h.link], fun n hn => (k.other n hn).trans (h.other n hn)⟩

theorem RaisesAmong.mono (h : RaisesAmong l s t) (hm : l ⊆ m) : RaisesAmong m s t :=
  ⟨h.link, fun n hn => h.other n fun hl => hn (hm hl)⟩

theorem raisesAmong_raise (s : State) {n : Notice} (hn : n ∈ l) : RaisesAmong l s (s.raise n) :=
  ⟨rfl, fun _ hm => s.raised_raise_other fun h => hm (h ▸ hn)⟩

theorem raisesAmong_raiseIf (s : State) (b : Bool) {n : Notice} (hn : n ∈ l) : RaisesAmong l s (s.raiseIf b n) := by
  cases b with
  | true => exact raisesAmong_raise s hn
  | false => exact RaisesAmong.of_link rfl

theorem raisesAmong_burnerSample (s : State) (v : Int) : RaisesAmong [.boiler] s (s.burnerSample v) := by
  have hfault : RaisesAmong [.boiler] s s.burnerSensorFault :=
    RaisesAmong.trans (t := s.setBoiler { s.boiler.moveTo .sensorFault with lastStop := s.stopTime })
      (RaisesAmong.of_link rfl) (raisesAmong_raise _ List.mem_cons_self)
  unfold State.burnerSample
  split
  case h_3 => exact hfault
  case h_5 => split <;> exact RaisesAmong.of_link rfl
  all_goals exact RaisesAmong.of_link rfl

theorem raisesAmong_channelSample (s : State) : RaisesAmong [.cylinder] s s.channelSample := by
  have hfault : RaisesAmong [.cylinder] s s.cylinderFault :=
    RaisesAmong.trans (t := { s with cylinder := s.cylinder.moveTo .fault })
      (RaisesAmong.of_link rfl) (raisesAmong_raise _ List.mem_cons_self)
  unfold State.channelSample
  split
  · exact hfault
  · exact hfault
  · exact hfault
  · exact RaisesAmong.of_link rfl
  · split <;> exact RaisesAmong.of_link rfl
  · exact RaisesAmong.of_link rfl

/-! ### The three inputs -/

/-- The state in which the TC sample reaches the channel. -/
def State.beforeChannel (s : State) (tflow tout tcyl : Int) : State :=
  let u := (s.sampleFlow tflow).sampleOutdoor tout
  u.setBoiler { u.boiler with tc := takeSensor u.boiler.tc tcyl }

theorem State.sampled_eq (s : State) (tflow tout tcyl : Int) :
    s.sampled tflow tout tcyl = (s.beforeChannel tflow tout tcyl).channelSample := rfl

theorem State.burnerSample_cylinder (s : State) (v : Int) : (s.burnerSample v).cylinder = s.cylinder := by
  unfold State.burnerSample
  split
  case h_5 => split <;> rfl
  all_goals rfl

theorem State.raiseIf_cylinder (s : State) (b : Bool) (n : Notice) : (s.raiseIf b n).cylinder = s.cylinder := by
  cases b <;> rfl

theorem State.beforeChannel_cylinder (s : State) (tflow tout tcyl : Int) :
    (s.beforeChannel tflow tout tcyl).cylinder = s.cylinder := by
  change ((s.sampleFlow tflow).sampleOutdoor tout).cylinder = _
  unfold State.sampleOutdoor
  rw [State.raiseIf_cylinder]
  exact State.burnerSample_cylinder _ _

theorem State.beforeChannel_tc (s : State) (tflow tout tcyl : Int) :
    (s.beforeChannel tflow tout tcyl).boiler.tc = takeSensor s.boiler.tc tcyl := by
  obtain ⟨-, -, htc⟩ := s.sampled_sensors tflow tout tcyl
  rwa [State.sampled_eq, State.channelSample_boiler] at htc

theorem State.sampled_time (s : State) (tflow tout tcyl : Int) : (s.sampled tflow tout tcyl).time = s.time := by
  rw [s.samplesTo_sampled tflow tout tcyl]

theorem State.beforeChannel_time (s : State) (tflow tout tcyl : Int) : (s.beforeChannel tflow tout tcyl).time = s.time := by
  have h := s.sampled_time tflow tout tcyl
  rwa [State.sampled_eq, State.samplesTo_channelSample] at h

theorem raisesAmong_beforeChannel (s : State) (tflow tout tcyl : Int) :
    RaisesAmong [.boiler] s (s.beforeChannel tflow tout tcyl) := by
  have hset : ∀ (u : State) (b : Boiler), RaisesAmong [.boiler] u (u.setBoiler b) := fun _ _ => RaisesAmong.of_link rfl
  have hflow := (hset s { s.boiler with tf := takeSensor s.boiler.tf tflow }).trans (raisesAmong_burnerSample _ tflow)
  exact ((hflow.trans (hset _ _)).trans (raisesAmong_raiseIf _ _ List.mem_cons_self)).trans (hset _ _)

theorem raisesAmong_sampled (s : State) (tflow tout tcyl : Int) :
    RaisesAmong [.boiler, .cylinder] s (s.sampled tflow tout tcyl) :=
  ((raisesAmong_beforeChannel s tflow tout tcyl).mono (by simp)).trans ((raisesAmong_channelSample _).mono (by simp))

end Sys2Proof.Machine

/-! SENSOR_SAMPLE while READY is set: the sample and the evaluations after it, block by block (R100 to R102, R129, R130, R133). -/

namespace Sys2Proof.Machine

variable {s t : State} {tflow tout tcyl : Int} {due : Nat}

/-! ### What the inputs write -/

theorem State.sampleFlow_time (s : State) (v : Int) : (s.sampleFlow v).time = s.time := by
  rw [State.sampleFlow, State.samplesTo_burnerSample]
  rfl

/-- The boiler after the three inputs: the sensors, the outdoor hold, and what the TF sample makes of the burner. -/
theorem State.sampled_boiler_frame (s : State) (tflow tout tcyl : Int) : (s.sampled tflow tout tcyl).boiler = { s.boiler with
    tf := takeSensor s.boiler.tf tflow, tout := takeSensor s.boiler.tout tout, tc := takeSensor s.boiler.tc tcyl
    outdoorHold := s.holdAfter (takeSensor s.boiler.tout tout)
    burner := (s.sampleFlow tflow).boiler.burner, lastStop := (s.sampleFlow tflow).boiler.lastStop
    minOn := (s.sampleFlow tflow).boiler.minOn, waitFlow := (s.sampleFlow tflow).boiler.waitFlow
    recovery := (s.sampleFlow tflow).boiler.recovery } := by
  have hkept := State.burnerSample_kept (s.setBoiler { s.boiler with tf := takeSensor s.boiler.tf tflow }) tflow
  change (s.sampleFlow tflow).boiler = { ({ s.boiler with tf := takeSensor s.boiler.tf tflow } : Boiler) with
    burner := (s.sampleFlow tflow).boiler.burner, lastStop := (s.sampleFlow tflow).boiler.lastStop
    minOn := (s.sampleFlow tflow).boiler.minOn, waitFlow := (s.sampleFlow tflow).boiler.waitFlow
    recovery := (s.sampleFlow tflow).boiler.recovery } at hkept
  rw [State.sampled_boiler, State.holdAfter, s.sampleFlow_time]
  generalize (s.sampleFlow tflow).boiler = b at hkept
  rw [hkept]
  rfl

/-- The outdoor hold after a TO reading, in the order of R101. -/
theorem State.holdAfter_takeSensor (s : State) (tout : Int) : s.holdAfter (takeSensor s.boiler.tout tout) =
    if (takeSensor s.boiler.tout tout).status = some .ok then none
    else if s.boiler.tout.status = some .fault then s.boiler.outdoorHold
    else if s.boiler.tout.value.isSome then some s.time.now else none := by
  by_cases h : badReading tout
  · simp [State.holdAfter, takeSensor_bad h]
  · simp [State.holdAfter, takeSensor_good h]

/-- A sample writes no more than the stored readings and what evaluations may write, beside flags. -/
theorem State.settlesTo_sampled (s : State) (tflow tout tcyl : Int) : State.SettlesTo { s with
    boiler := { s.boiler with
      tf := takeSensor s.boiler.tf tflow, tout := takeSensor s.boiler.tout tout, tc := takeSensor s.boiler.tc tcyl
      outdoorHold := s.holdAfter (takeSensor s.boiler.tout tout) }
    link := { s.link with flags := (s.sampled tflow tout tcyl).link.flags } } (s.sampled tflow tout tcyl) := by
  have hframe := s.samplesTo_sampled tflow tout tcyl
  have hboiler := s.sampled_boiler_frame tflow tout tcyl
  have hlink := (raisesAmong_sampled s tflow tout tcyl).link
  generalize s.sampled tflow tout tcyl = w at hframe hboiler hlink
  refine ⟨?_, fun i => by rw [hframe]; rfl⟩
  conv_lhs => rw [hframe, hboiler, hlink]
  rw [hframe, hboiler]

/-! ### The event -/

theorem exec_sensorSample_low (hdue : s.time.sampleAt = some due) (hr : s.time.ready = false) :
    exec (.sensorSample tflow tout tcyl) s = .next { s with time := { s.time with
      now := max s.time.now due, sampleAt := some (due + 10000), sampleDue := true } } := by
  have hexec : exec (.sensorSample tflow tout tcyl) s = execSensorSample tflow tout tcyl s := rfl
  have hlow : ¬ s.time.ready = true := by simp [hr]
  simp only [hexec, execSensorSample, hdue, if_neg hlow]
  rfl

theorem exec_sensorSample_ready (hdue : s.time.sampleAt = some due) (hr : s.time.ready = true) :
    exec (.sensorSample tflow tout tcyl) s = .next ((s.advanceSample due).sampled tflow tout tcyl).evaluate := by
  have hexec : exec (.sensorSample tflow tout tcyl) s = execSensorSample tflow tout tcyl s := rfl
  simp only [hexec, execSensorSample, hdue, hr]
  rfl

/-! ### The burner after a sample -/

theorem Boiler.RestsTo.recovery {b c : Boiler} (h : b.RestsTo c) : c.recovery = b.recovery := by
  unfold Boiler.RestsTo at h
  rw [h]

/-- A burner that the sample leaves at rest is what the sample has made of it after the evaluations too. -/
theorem State.evaluate_sampled_resting (h : (s.sampleFlow tflow).boiler.resting) :
    let b := (s.sampleFlow tflow).boiler
    let c := (s.sampled tflow tout tcyl).evaluate.boiler
    c.burner = b.burner ∧ c.lastStop = b.lastStop ∧ c.recovery = b.recovery := by
  have hboiler := s.sampled_boiler_frame tflow tout tcyl
  have hrest : (s.sampled tflow tout tcyl).boiler.resting := by
    unfold Boiler.resting
    rw [hboiler]
    exact h
  have hafter := State.restsTo_evaluate hrest
  obtain ⟨hburner, -, -, -, hstop⟩ := hafter.fields
  have hrecovery := hafter.recovery
  rw [hboiler] at hburner hstop hrecovery
  exact ⟨hburner, hstop, hrecovery⟩

/-- The state in which the TF sample reaches the burner: its reading stored. -/
def State.withFlow (s : State) (v : Int) : State := s.setBoiler { s.boiler with tf := takeSensor s.boiler.tf v }

theorem State.sampleFlow_eq (s : State) (v : Int) : s.sampleFlow v = (s.withFlow v).burnerSample v := rfl

theorem State.withFlow_bad (h : badReading tflow) (s : State) : (s.withFlow tflow).boiler.tf.status = some .fault :=
  congrArg Sensor.status (takeSensor_bad h s.boiler.tf)

theorem State.withFlow_good (h : ¬ badReading tflow) (s : State) : (s.withFlow tflow).boiler.tf.status = some .ok :=
  congrArg Sensor.status (takeSensor_good h s.boiler.tf)

/-- A bad TF reading stops the burner in SENSOR_FAULT (R102). -/
theorem State.sampleFlow_falls (hbad : badReading tflow) (hl : s.boiler.burner ≠ .lockedOut)
    (hs : s.boiler.burner ≠ .sensorFault) : s.sampleFlow tflow = (s.withFlow tflow).burnerSensorFault :=
  State.burnerSample_falls (s := s.withFlow tflow) (s.withFlow_bad hbad) hl hs tflow

theorem State.sampleFlow_recovery_stops (hbad : badReading tflow) (hb : s.boiler.burner = .sensorFault) :
    s.sampleFlow tflow = (s.withFlow tflow).setBoiler { (s.withFlow tflow).boiler with recovery := none } :=
  State.burnerSample_recovery_stops (s := s.withFlow tflow) hb (s.withFlow_bad hbad) tflow

theorem State.sampleFlow_recovery_runs (hgood : ¬ badReading tflow) (hb : s.boiler.burner = .sensorFault) :
    s.sampleFlow tflow = (s.withFlow tflow).setBoiler
      { (s.withFlow tflow).boiler with recovery := some (s.boiler.recovery.getD s.time.now) } :=
  State.burnerSample_recovery_runs (s := s.withFlow tflow) hb (s.withFlow_good hgood) tflow

theorem State.sampleFlow_lockedOut (hb : s.boiler.burner = .lockedOut) (tflow : Int) :
    s.sampleFlow tflow = s.withFlow tflow :=
  State.burnerSample_lockedOut (s := s.withFlow tflow) hb tflow

theorem State.sampleFlow_firing (hgood : ¬ badReading tflow) (hb : s.boiler.burner = .firing) :
    s.sampleFlow tflow =
      if s.boiler.config.flowMax + 50 ≤ tflow then (s.withFlow tflow).burnerOff else s.withFlow tflow :=
  State.burnerSample_firing (s := s.withFlow tflow) (s.withFlow_good hgood) hb tflow

theorem State.sampleFlow_stays (hgood : ¬ badReading tflow) (hb : s.boiler.burner ≠ .firing)
    (hs : s.boiler.burner ≠ .sensorFault) :
    s.sampleFlow tflow = s.withFlow tflow :=
  State.burnerSample_stays (s := s.withFlow tflow) (s.withFlow_good hgood) hb hs tflow

theorem noticesKept_sampled_of_flow (s : State) (tflow tout tcyl : Int) :
    NoticesKept (s.sampleFlow tflow) (s.sampled tflow tout tcyl).evaluate :=
  (((noticesKept_setBoiler _ _).trans (noticesKept_raiseIf _ _ _)).trans
    ((noticesKept_setBoiler _ _).trans (noticesKept_channelSample _))).trans
      (NoticesKept.of_link (State.settlesTo_evaluate _).link)

/-- The fault of TF: the burner stops, and BOILER is raised (R102). -/
theorem State.evaluate_sampled_falls (hbad : badReading tflow) (hl : s.boiler.burner ≠ .lockedOut)
    (hs : s.boiler.burner ≠ .sensorFault) :
    let w := (s.sampled tflow tout tcyl).evaluate
    w.boiler.burner = .sensorFault ∧ w.raised .boiler = true ∧ w.boiler.recovery = none ∧
      w.boiler.lastStop = if s.boiler.burner = .firing then s.time.now else s.boiler.lastStop := by
  intro w
  have hflow := State.sampleFlow_falls hbad hl hs
  have hrest : (s.sampleFlow tflow).boiler.resting := by rw [hflow]; exact .inr (.inr rfl)
  obtain ⟨hburner, hstop, hrecovery⟩ := State.evaluate_sampled_resting (tout := tout) (tcyl := tcyl) hrest
  have hraised := noticesKept_sampled_of_flow s tflow tout tcyl .boiler (by rw [hflow]; exact State.raised_raise _ _)
  rw [hflow] at hburner hstop hrecovery
  exact ⟨hburner, hraised, hrecovery, hstop⟩

/-- In SENSOR_FAULT the recovery timer follows the readings (R102). -/
theorem State.evaluate_sampled_recovers (hb : s.boiler.burner = .sensorFault) :
    let c := (s.sampled tflow tout tcyl).evaluate.boiler
    c.burner = .sensorFault ∧ (badReading tflow → c.recovery = none) ∧
      (¬ badReading tflow → c.recovery = some (s.boiler.recovery.getD s.time.now)) := by
  intro c
  by_cases hbad : badReading tflow
  · have hflow := State.sampleFlow_recovery_stops hbad hb
    obtain ⟨hburner, -, hrecovery⟩ := State.evaluate_sampled_resting (s := s) (tflow := tflow) (tout := tout) (tcyl := tcyl)
      (by rw [hflow]; exact .inr (.inr hb))
    rw [hflow] at hburner hrecovery
    exact ⟨hburner.trans hb, fun _ => hrecovery, fun h => absurd hbad h⟩
  · have hflow := State.sampleFlow_recovery_runs hbad hb
    obtain ⟨hburner, -, hrecovery⟩ := State.evaluate_sampled_resting (s := s) (tflow := tflow) (tout := tout) (tcyl := tcyl)
      (by rw [hflow]; exact .inr (.inr hb))
    rw [hflow] at hburner hrecovery
    exact ⟨hburner.trans hb, fun h => absurd h hbad, fun _ => hrecovery⟩

theorem State.evaluate_sampled_lockedOut (hb : s.boiler.burner = .lockedOut) :
    (s.sampled tflow tout tcyl).evaluate.boiler.burner = .lockedOut := by
  have hflow := State.sampleFlow_lockedOut hb tflow
  obtain ⟨hburner, -, -⟩ := State.evaluate_sampled_resting (s := s) (tflow := tflow) (tout := tout) (tcyl := tcyl)
    (by rw [hflow]; exact .inr (.inl hb))
  rw [hflow] at hburner
  exact hburner.trans hb

/-! ### The channel after a sample -/

/-- A TC sample out of range ends what the channel does (R133). -/
theorem State.evaluate_sampled_channel_falls (hbad : badReading tcyl) (hc : s.cylinder.faultable) :
    let w := (s.sampled tflow tout tcyl).evaluate
    w.cylinder = s.cylinder.moveTo .fault ∧ w.raised .cylinder = true := by
  intro w
  have hsample : s.sampled tflow tout tcyl = (s.beforeChannel tflow tout tcyl).cylinderFault :=
    (s.sampled_eq tflow tout tcyl).trans (State.channelSample_falls (by rw [State.beforeChannel_tc, takeSensor_bad hbad])
      (by rw [State.beforeChannel_cylinder]; exact hc))
  have hcylinder : (s.sampled tflow tout tcyl).cylinder = s.cylinder.moveTo .fault := by
    rw [hsample, ← s.beforeChannel_cylinder tflow tout tcyl]
    rfl
  have hraised : (s.sampled tflow tout tcyl).raised .cylinder = true := by rw [hsample]; exact State.raised_raise _ _
  refine ⟨?_, NoticesKept.of_link (State.settlesTo_evaluate _).link _ hraised⟩
  rw [← hcylinder]
  exact State.evaluate_waiting (by simp [hcylinder, Cylinder.moveTo]) (by simp [hcylinder, Cylinder.moveTo])

/-- Within its range a TC sample leaves a channel that is not in FAULT to its evaluation. -/
theorem State.sampled_cylinder_of_good (hgood : ¬ badReading tcyl) (hc : s.cylinder.state ≠ .fault) :
    (s.sampled tflow tout tcyl).cylinder = s.cylinder ∧
      (s.sampled tflow tout tcyl).boiler.tc = { value := some tcyl, status := some .ok } := by
  have hsample : s.sampled tflow tout tcyl = s.beforeChannel tflow tout tcyl :=
    (s.sampled_eq tflow tout tcyl).trans (State.channelSample_stays (by rw [State.beforeChannel_tc, takeSensor_good hgood])
      (by rw [State.beforeChannel_cylinder]; exact hc))
  rw [hsample, State.beforeChannel_cylinder, State.beforeChannel_tc, takeSensor_good hgood]
  exact ⟨rfl, rfl⟩

/-- A charge starts in IDLE at or below the target less the hysteresis (R129). -/
theorem State.evaluate_sampled_idle (hr : s.time.ready = true) (hgood : ¬ badReading tcyl) (hc : s.cylinder.state = .idle) :
    let w := (s.sampled tflow tout tcyl).evaluate
    let cold := ∃ τ : Int, s.cylinder.target = .deg τ ∧ tcyl ≤ τ - s.cylinder.dhwHyst
    (cold → w.cylinder = { s.cylinder.moveTo .charging with prio := some s.time.now }) ∧ (¬ cold → w.cylinder = s.cylinder) := by
  intro w cold
  obtain ⟨hcylinder, htc⟩ := State.sampled_cylinder_of_good (s := s) (tflow := tflow) (tout := tout) hgood (by simp [hc])
  have htime := s.sampled_time tflow tout tcyl
  have hcool : (s.sampled tflow tout tcyl).chargeWanted = true ↔ cold := by
    rw [State.chargeWanted_iff, State.coolBy, hcylinder, htc]
    simp [cold]
  have hafter : w.cylinder = if (s.sampled tflow tout tcyl).chargeWanted then
      { s.cylinder.moveTo .charging with prio := some s.time.now } else s.cylinder := by
    rw [State.evaluate_ready (by rw [htime]; exact hr), State.evalCylinder_idle (by rw [hcylinder]; exact hc), hcylinder, htime]
  exact ⟨fun h => hafter.trans (if_pos (hcool.2 h)), fun h => hafter.trans (if_neg (mt hcool.1 h))⟩

/-- A charge ends at the target, or where it is OFF (R130). -/
theorem State.evaluate_sampled_charging (hr : s.time.ready = true) (hgood : ¬ badReading tcyl)
    (hc : s.cylinder.state = .charging) (hh : 0 < s.cylinder.dhwHyst) :
    let w := (s.sampled tflow tout tcyl).evaluate
    let reached := s.cylinder.target = .off ∨ ∃ τ : Int, s.cylinder.target = .deg τ ∧ τ ≤ tcyl
    (reached → w.cylinder = s.cylinder.moveTo .idle) ∧ (¬ reached → w.cylinder = s.cylinder) := by
  intro w reached
  obtain ⟨hcylinder, htc⟩ := State.sampled_cylinder_of_good (s := s) (tflow := tflow) (tout := tout) hgood (by simp [hc])
  have hwarm : (s.sampled tflow tout tcyl).warmEnough ↔ reached := by
    rw [State.warmEnough, hcylinder, htc]
    simp [reached]
  refine ⟨fun h => ?_, fun h => ?_⟩
  · rw [← hcylinder]
    exact State.evaluate_done (by rw [s.sampled_time]; exact hr) (by rw [hcylinder]; exact hc) (hwarm.2 h)
      (by rw [hcylinder]; exact hh)
  · rw [← hcylinder]
    exact State.evaluate_charging_on (by rw [hcylinder]; exact hc) (mt hwarm.1 h)

/-- In FAULT the recovery timer follows the readings (R133). -/
theorem State.evaluate_sampled_channel_recovers (hc : s.cylinder.state = .fault) :
    let c := (s.sampled tflow tout tcyl).evaluate.cylinder
    c.state = .fault ∧ (badReading tcyl → c.recovery = none) ∧
      (¬ badReading tcyl → c.recovery = some (s.cylinder.recovery.getD s.time.now)) := by
  intro c
  let u := s.beforeChannel tflow tout tcyl
  have hu : u.cylinder = s.cylinder := s.beforeChannel_cylinder tflow tout tcyl
  have hut : u.time = s.time := s.beforeChannel_time tflow tout tcyl
  have hstill : ∀ r, u.channelSample = { u with cylinder := { u.cylinder with recovery := r } } →
      c = { s.cylinder with recovery := r } := fun r h => by
    have hcylinder : (s.sampled tflow tout tcyl).cylinder = { s.cylinder with recovery := r } := by
      rw [State.sampled_eq, h, hu]
    rw [← hcylinder]
    exact State.evaluate_waiting (by simp [hcylinder, hc]) (by simp [hcylinder, hc])
  by_cases hbad : badReading tcyl
  · have hcyl := hstill none (State.channelSample_recovery_stops
      (by rw [State.beforeChannel_tc, takeSensor_bad hbad]) (by rw [hu]; exact hc))
    rw [hcyl]
    exact ⟨hc, fun _ => rfl, fun h => absurd hbad h⟩
  · have hcyl := hstill _ (State.channelSample_recovery_runs
      (by rw [State.beforeChannel_tc, takeSensor_good hbad]) (by rw [hu]; exact hc))
    rw [hcyl, hu, hut]
    exact ⟨hc, fun h => absurd h hbad, fun _ => rfl⟩

/-- A DISABLED channel takes nothing from a sample. -/
theorem State.evaluate_sampled_disabled (hc : s.cylinder.state = .disabled) :
    let w := (s.sampled tflow tout tcyl).evaluate
    w.cylinder = s.cylinder ∧ w.raised .cylinder = s.raised .cylinder := by
  intro w
  have hsample : s.sampled tflow tout tcyl = s.beforeChannel tflow tout tcyl :=
    (s.sampled_eq tflow tout tcyl).trans (State.channelSample_disabled (by rw [State.beforeChannel_cylinder]; exact hc))
  have hcylinder : (s.sampled tflow tout tcyl).cylinder = s.cylinder := by rw [hsample, State.beforeChannel_cylinder]
  refine ⟨?_, ?_⟩
  · rw [← hcylinder]
    exact State.evaluate_waiting (by simp [hcylinder, hc]) (by simp [hcylinder, hc])
  · rw [State.raised, (State.settlesTo_evaluate _).link, hsample]
    exact (raisesAmong_beforeChannel s tflow tout tcyl).other .cylinder (by simp)

/-- A fault of TO after OK raises BOILER (R101). -/
theorem State.evaluate_sampled_outdoor (hok : s.boiler.tout.status = some .ok) (hbad : badReading tout) :
    (s.sampled tflow tout tcyl).evaluate.raised .boiler = true := by
  have htout : (s.sampleFlow tflow).boiler.tout = s.boiler.tout := by
    unfold State.sampleFlow
    rw [State.burnerSample_kept]
    rfl
  have hout : ((s.sampleFlow tflow).sampleOutdoor tout).raised .boiler = true := by
    unfold State.sampleOutdoor
    simp only [htout, hok, takeSensor_bad hbad, State.raiseIf, beq_self_eq_true, Bool.and_self, ↓reduceIte]
    exact State.raised_raise _ _
  exact (((noticesKept_setBoiler _ _).trans (noticesKept_channelSample _)).trans
    (NoticesKept.of_link (State.settlesTo_evaluate _).link)) _ hout

/-- Settles O30: SENSOR_SAMPLE is the three inputs and one evaluation (`exec_sensorSample_ready`), each input as its own
equations say. -/
theorem sensorSamples : Obligations.SensorSamples := by
  refine ⟨fun tflow tout tcyl s due hdue => ?_, fun tflow tout tcyl s t due hdue hr hexec => ?_⟩
  · intro now take
    refine ⟨fun hr => exec_sensorSample_low hdue hr, fun hr => ?_⟩
    let u := s.advanceSample due
    have hsampled := u.settlesTo_sampled tflow tout tcyl
    rw [State.holdAfter_takeSensor] at hsampled
    refine ⟨_, _, exec_sensorSample_ready hdue hr, hsampled.trans (State.settlesTo_evaluate _),
      fun hok hbad => State.evaluate_sampled_outdoor (s := u) hok hbad, fun n hboiler hcylinder => ?_⟩
    rw [State.raised, (State.settlesTo_evaluate _).link]
    exact (raisesAmong_sampled u tflow tout tcyl).other n (by simp [hboiler, hcylinder])
  · intro now bad
    cases (exec_sensorSample_ready hdue hr).symm.trans hexec
    let u := s.advanceSample due
    refine ⟨fun hbad hl hs => State.evaluate_sampled_falls (s := u) hbad hl hs,
      fun hb => State.evaluate_sampled_recovers (s := u) hb, fun hb => State.evaluate_sampled_lockedOut (s := u) hb,
      fun hbad hc => ?_, fun hgood hc => ?_, fun hgood hc hh => ?_,
      fun hc => State.evaluate_sampled_channel_recovers (s := u) hc, fun hc => State.evaluate_sampled_disabled (s := u) hc⟩
    · obtain ⟨hcylinder, hraised⟩ := State.evaluate_sampled_channel_falls (s := u) (tflow := tflow) (tout := tout) hbad hc
      rw [hcylinder]
      exact ⟨rfl, hraised, rfl, rfl, rfl⟩
    · intro cold
      obtain ⟨hcold, hwarm⟩ := State.evaluate_sampled_idle (s := u) (tflow := tflow) (tout := tout) hr hgood hc
      refine ⟨fun h => ⟨hcold h, ?_⟩, hwarm⟩
      rw [State.divertPin, hcold h]
      rfl
    · intro reached
      obtain ⟨hreached, hgoes⟩ := State.evaluate_sampled_charging (s := u) (tflow := tflow) (tout := tout) hr hgood hc hh
      refine ⟨fun h => ⟨hreached h, ?_⟩, hgoes⟩
      rw [State.divertPin, hreached h]
      rfl

end Sys2Proof.Machine

/-! What the Boiler Controller computes: flow target and modulation, room load, leading zones, frost, demand and pump reasons, and
both flow checks, in the words of the statement (R101, R104 to R109, R119 to R122, R134). -/

namespace Sys2Proof.Machine

variable {s : State}

/-! ### Zone by zone -/

theorem mem_rooms (z : Fin 16) : z ∈ rooms := List.mem_finRange z

theorem rooms_any_iff {p : Fin 16 → Bool} : rooms.any p = true ↔ ∃ z, p z = true := by
  simp [mem_rooms]

theorem Zone.enabled_iff (r : Zone) : r.enabled = true ↔ r.state ≠ .disabled := by simp [Zone.enabled]

theorem Zone.isCalling_iff (r : Zone) : r.isCalling = true ↔ r.state = .calling := by simp [Zone.isCalling]

theorem Zone.frost_iff (r : Zone) : r.frost = true ↔
    r.state ≠ .disabled ∧ ∃ v, r.temp = some v ∧ v < r.config.frostFloor := by
  simp only [Zone.frost, Bool.and_eq_true, r.enabled_iff, Option.any_eq_true, decide_eq_true_eq]

theorem Zone.leads_iff (r : Zone) : r.leads = true ↔
    r.state = .calling ∨ (r.state ≠ .disabled ∧ ∃ v, r.temp = some v ∧ v < r.config.frostFloor) := by
  rw [Zone.leads, Bool.or_eq_true, r.isCalling_iff, r.frost_iff]

theorem State.charging_iff (s : State) : s.charging = true ↔ s.cylinder.state = .charging := by simp [State.charging]

theorem State.anyCalling_iff (s : State) : s.anyCalling = true ↔ ∃ z, (s.zone z).state = .calling := by
  simp only [State.anyCalling, rooms_any_iff, Zone.isCalling_iff]

theorem State.anyZoneFrost_iff (s : State) : s.anyZoneFrost = true ↔
    ∃ z, (s.zone z).state ≠ .disabled ∧ ∃ v, (s.zone z).temp = some v ∧ v < (s.zone z).config.frostFloor := by
  simp only [State.anyZoneFrost, rooms_any_iff, Zone.frost_iff]

theorem State.outdoorFrost_iff (s : State) : s.outdoorFrost = true ↔ s.outdoor.1 < s.boiler.config.frostOut :=
  decide_eq_true_iff

theorem State.burnerDemand_iff (s : State) : s.burnerDemand = true ↔ (∃ z, (s.zone z).state = .calling) ∨
    s.cylinder.state = .charging ∨
    ∃ z, (s.zone z).state ≠ .disabled ∧ ∃ v, (s.zone z).temp = some v ∧ v < (s.zone z).config.frostFloor := by
  rw [State.burnerDemand, Bool.or_eq_true, Bool.or_eq_true, s.anyCalling_iff, s.charging_iff, s.anyZoneFrost_iff, or_assoc]

theorem State.pumpReason_iff (s : State) : s.pumpReason = true ↔ s.boiler.burner = .firing ∨
    (∃ z, (s.zone z).state = .calling) ∨ s.cylinder.state = .charging ∨ s.outdoor.1 < s.boiler.config.frostOut ∨
    ∃ z, (s.zone z).state ≠ .disabled ∧ ∃ v, (s.zone z).temp = some v ∧ v < (s.zone z).config.frostFloor := by
  simp only [State.pumpReason, Bool.or_eq_true, beq_iff_eq, s.anyCalling_iff, s.charging_iff, s.outdoorFrost_iff,
    s.anyZoneFrost_iff, or_assoc]

/-! ### The outdoor temperature in use (R101) -/

theorem State.outdoor_sensor {v : Int} (hs : s.boiler.tout.status = some .ok) (hv : s.boiler.tout.value = some v) :
    s.outdoor = (v, .sensor) := by
  simp only [State.outdoor, hs, hv]

theorem State.outdoor_held {v : Int} (hs : s.boiler.tout.status = some .fault) (hh : s.boiler.outdoorHold.isSome)
    (hv : s.boiler.tout.value = some v) : s.outdoor = (v, .held) := by
  simp only [State.outdoor, hs, hv, hh, ↓reduceIte]

/-! ### The room load (R104) -/

theorem State.roomLoad_of_enabled {z : Fin 16} (h : (s.zone z).state ≠ .disabled) :
    s.roomLoad = s.loadNumerator / s.enabledWeight :=
  if_pos (rooms_any_iff.2 ⟨z, (s.zone z).enabled_iff.2 h⟩)

theorem State.roomLoad_of_disabled (h : ∀ z, (s.zone z).state = .disabled) : s.roomLoad = 0 :=
  if_neg fun hany => by
    obtain ⟨z, hz⟩ := rooms_any_iff.1 hany
    exact (s.zone z).enabled_iff.1 hz (h z)

/-- Each zone adds to the load no more than its weight in per mille. -/
theorem State.load_bounds (hs : s.ZoneInv) : 0 ≤ s.loadNumerator ∧ s.loadNumerator ≤ 1000 * s.enabledWeight ∧
    ∀ z, (s.zone z).state ≠ .disabled → 0 < s.enabledWeight := by
  have hweight : ∀ z, 1 ≤ (s.zone z).config.control.weight ∧ 0 ≤ (s.zone z).demand ∧ (s.zone z).demand ≤ 1000 := fun z => by
    obtain ⟨⟨⟨hweight, -⟩, -⟩, -, -, ⟨hlow, hhigh⟩, -⟩ := hs z
    exact ⟨hweight, hlow, hhigh⟩
  have hcalls : ∀ z, (s.zone z).isCalling = true → (s.zone z).enabled = true := fun z h => by
    rw [Zone.enabled_iff, (s.zone z).isCalling_iff.1 h]; decide
  have hterm : ∀ z, 0 ≤ (if (s.zone z).enabled then (s.zone z).config.control.weight else 0) := fun z => by
    have := hweight z
    split <;> omega
  refine ⟨?_, ?_, fun z hz => ?_⟩
  · refine List.sum_nonneg fun x hx => ?_
    obtain ⟨z, -, rfl⟩ := List.mem_map.1 hx
    obtain ⟨hw, hlow, -⟩ := hweight z
    split
    · exact mul_nonneg hlow (by omega)
    · exact le_rfl
  · rw [State.loadNumerator, State.enabledWeight, ← List.sum_map_mul_left]
    refine List.sum_le_sum fun z _ => ?_
    obtain ⟨hw, -, hhigh⟩ := hweight z
    by_cases h : (s.zone z).isCalling = true
    · rw [if_pos h, if_pos (hcalls z h)]
      exact mul_le_mul_of_nonneg_right hhigh (by omega)
    · rw [if_neg h]
      exact mul_nonneg (by omega) (hterm z)
  · have hle := List.single_le_sum (l := rooms.map fun y =>
      if (s.zone y).enabled then (s.zone y).config.control.weight else 0)
      (fun x hx => by obtain ⟨y, -, rfl⟩ := List.mem_map.1 hx; exact hterm y) _ (List.mem_map.2 ⟨z, mem_rooms z, rfl⟩)
    rw [if_pos ((s.zone z).enabled_iff.2 hz)] at hle
    have := hweight z
    unfold State.enabledWeight
    omega

theorem State.roomLoad_bounds (hs : s.ZoneInv) : 0 ≤ s.roomLoad ∧ s.roomLoad ≤ 1000 := by
  obtain ⟨hlow, hhigh, hpos⟩ := State.load_bounds hs
  by_cases h : ∃ z, (s.zone z).state ≠ .disabled
  · obtain ⟨z, hz⟩ := h
    rw [State.roomLoad_of_enabled hz]
    exact ⟨Int.ediv_nonneg hlow (hpos z hz).le, Int.ediv_le_of_le_mul (hpos z hz) hhigh⟩
  · rw [State.roomLoad_of_disabled (by simpa using h)]
    omega

/-! ### The lead setpoint (R105) -/

/-- A fold that takes the greater value at each element gives the greatest of the list and of what stood before. -/
theorem foldl_greatest {α : Type} {f : α → Int} {g : Option Int → α → Option Int}
    (hnone : ∀ a, g none a = some (f a)) (hsome : ∀ w a, g (some w) a = some (max w (f a)))
    (l : List α) (o : Option Int) (v : Int) :
    l.foldl g o = some v ↔ ((∃ a ∈ l, f a = v) ∨ o = some v) ∧ (∀ a ∈ l, f a ≤ v) ∧ ∀ w ∈ o, w ≤ v := by
  induction l generalizing o with
  | nil => cases o <;> simp +contextual
  | cons a l ih =>
    rw [List.foldl_cons]
    cases o with
    | none => rw [hnone, ih]; grind
    | some w =>
      rw [hsome, ih]
      simp only [List.mem_cons, exists_eq_or_imp, forall_eq_or_imp, Option.some.injEq, Option.mem_def, forall_eq']
      grind

theorem State.leadSetpoint_eq_some_iff (v : Int) : s.leadSetpoint = some v ↔
    (∃ z : Fin 16, (s.zone z).leads = true ∧ (s.zone z).setpoint = v) ∧
      ∀ z : Fin 16, (s.zone z).leads = true → (s.zone z).setpoint ≤ v := by
  unfold State.leadSetpoint
  rw [foldl_greatest (f := fun z => (s.zone z).setpoint) (fun _ => rfl) fun _ _ => rfl]
  simp [mem_rooms]

theorem State.leadSetpoint_eq_none (h : ∀ z : Fin 16, (s.zone z).leads = false) : s.leadSetpoint = none := by
  rw [Option.eq_none_iff_forall_ne_some]
  intro v hv
  obtain ⟨⟨z, hz, -⟩, -⟩ := (State.leadSetpoint_eq_some_iff v).1 hv
  rw [h z] at hz
  cases hz

theorem State.floorLimit_iff (s : State) : s.floorLimit = true ↔
    ∃ z : Fin 16, (s.zone z).leads = true ∧ (s.zone z).config.control.emitter = .floor := by
  simp only [State.floorLimit, rooms_any_iff, Bool.and_eq_true, beq_iff_eq]

/-! ### The flow target (R106, R134) -/

/-- What flow target and start conditions use of the record's ranges (R103). -/
theorem boilerConfigOk.limits {c : BoilerConfig} (h : boilerConfigOk c) :
    c.flowMin ≤ c.flowMax ∧ c.flowMin ≤ c.floorMax ∧ 400 ≤ c.flowMax ∧ 20 ≤ c.onDiff := by
  unfold boilerConfigOk at h
  omega

theorem State.flowTarget_charging {τ : Int} (hb : s.boiler.config.flowMin ≤ s.boiler.config.flowMax)
    (hc : s.cylinder.state = .charging) (ht : s.cylinder.target = .deg τ) : s.flowTarget =
      max s.boiler.config.flowMin (min (τ + s.cylinder.chargeMargin) s.boiler.config.flowMax) := by
  simp only [State.flowTarget, s.charging_iff.2 hc, State.cylinderFlowTarget, ht, ↓reduceIte]
  rw [clamp_eq_max_min hb, min_assoc, min_self]

theorem State.flowTarget_idle (hc : s.cylinder.state ≠ .charging) (hl : s.leadSetpoint = none) :
    s.flowTarget = s.boiler.config.flowMin := by
  simp only [State.flowTarget, if_neg (mt s.charging_iff.1 hc), hl]

theorem State.flowTarget_lead {lead : Int} (hc : s.cylinder.state ≠ .charging) (hl : s.leadSetpoint = some lead) :
    s.flowTarget = s.roomFlowTarget lead := by
  simp only [State.flowTarget, if_neg (mt s.charging_iff.1 hc), hl]

theorem State.roomFlowTarget_bounds (hb : s.boiler.config.flowMin ≤ s.boiler.config.flowMax)
    (hf : s.boiler.config.flowMin ≤ s.boiler.config.floorMax) (lead : Int) :
    s.boiler.config.flowMin ≤ s.roomFlowTarget lead ∧ s.roomFlowTarget lead ≤ s.boiler.config.flowMax := by
  unfold State.roomFlowTarget
  dsimp only
  generalize lead + _ + _ + _ = x
  have := clamp_bounds (x := x) hb
  split <;> omega

/-- The flow target lies within flow_min..flow_max, whichever step of R106 gives it. -/
theorem State.flowTarget_bounds (hb : s.boiler.config.flowMin ≤ s.boiler.config.flowMax)
    (hf : s.boiler.config.flowMin ≤ s.boiler.config.floorMax) :
    s.boiler.config.flowMin ≤ s.flowTarget ∧ s.flowTarget ≤ s.boiler.config.flowMax := by
  unfold State.flowTarget
  dsimp only
  split
  · split
    · exact clamp_bounds hb
    · exact ⟨le_rfl, hb⟩
  · split
    · exact State.roomFlowTarget_bounds hb hf _
    · exact ⟨le_rfl, hb⟩

/-! ### Modulation (R108) -/

theorem State.modulation_off (h : s.boiler.burner ≠ .firing) : s.modulation = 0 := by
  unfold State.modulation
  split <;> simp_all

theorem State.modulation_firing {v : Int} (h : s.boiler.burner = .firing) (hv : s.boiler.tf.value = some v) :
    s.modulation = if v < s.flowTarget then
      clamp (s.boiler.config.modMin + (s.flowTarget - v) * s.boiler.config.kmod / 10) s.boiler.config.modMin 100
      else s.boiler.config.modMin := by
  simp only [State.modulation, h, hv]
  rfl

/-! ### The flow check (R120 to R122) -/

/-- The counted valves of a zone that meet `p`. -/
def State.valveCount (s : State) (z : Fin 16) (p : Device → Bool) : Int :=
  ((List.finRange 48).filter (fun i => (s.device i).any (fun d =>
    d.kind == .valveHead && d.zone == some z && d.state != .faulted && d.state != .retiring && p d))).length

theorem State.valvesOf_filter (s : State) (z : Fin 16) (p : Device → Bool) :
    (((s.valvesOf z).filter fun i => (s.device i).any p).length : Int) = s.valveCount z p := by
  unfold State.valvesOf State.valveCount slots
  rw [List.filter_filter]
  congr 2
  refine List.filter_congr fun i _ => ?_
  cases s.device i with
  | none => rfl
  | some d => exact Bool.and_comm _ _

theorem State.valvesOf_length (s : State) (z : Fin 16) : ((s.valvesOf z).length : Int) = s.valveCount z fun _ => true := by
  rw [← State.valvesOf_filter, List.filter_eq_self.2]
  intro i hi
  obtain ⟨d, hd, -⟩ := mem_valvesOf.1 hi
  simp [hd]

/-- The zones that the flow check counts (R120). -/
def State.counts (s : State) (z : Fin 16) : Bool :=
  decide ((s.zone z).state ≠ .disabled ∨ s.boiler.config.bypassZone = some z) && decide (0 < s.valveCount z fun _ => true)

theorem State.zoneCounted_eq (s : State) (z : Fin 16) : s.zoneCounted z = s.counts z := by
  have hempty : (s.valvesOf z).isEmpty = false ↔ 0 < s.valveCount z fun _ => true := by
    rw [← State.valvesOf_length]
    cases s.valvesOf z <;> simp
  rw [Bool.eq_iff_iff]
  simp only [State.zoneCounted, State.counts, Bool.and_eq_true, Bool.or_eq_true, Bool.not_eq_true', hempty, beq_iff_eq,
    Zone.enabled_iff, decide_eq_true_eq]

/-- The open share of a zone by the positions its counted valves are read at. -/
theorem State.openShare_eq (s : State) (z : Fin 16) {position : Fin 48 → Option Int} {p : Device → Bool}
    (h : ∀ i d, s.device i = some d → isOpen (position i) = p d) :
    openShare ((s.valvesOf z).map position) = 1000 * s.valveCount z p / s.valveCount z fun _ => true := by
  have hopen : (((s.valvesOf z).map position).filter isOpen).length =
      ((s.valvesOf z).filter fun i => (s.device i).any p).length := by
    rw [List.filter_map, List.length_map]
    congr 1
    refine List.filter_congr fun i hi => ?_
    obtain ⟨d, hd, -⟩ := mem_valvesOf.1 hi
    simp [h i d hd, hd]
  rw [openShare, floorDiv, hopen, List.length_map, State.valvesOf_filter, State.valvesOf_length]

/-- The flow check, in force or not, on open shares given by what is read at each valve. -/
theorem State.check_iff (s : State) {positions : Fin 16 → List (Option Int)} {p : Fin 16 → Device → Bool}
    (h : ∀ z, openShare (positions z) = 1000 * s.valveCount z (p z) / s.valveCount z fun _ => true) :
    (!s.checkInForce || s.checkHolds positions) = true ↔
      s.boiler.config.bypassZone = none ∨ s.boiler.config.minflowPct = 0 ∨ s.cylinder.state = .charging ∨
        s.boiler.config.minflowPct * 10 *
            ((List.finRange 16).map fun z => if s.counts z then (s.zone z).config.control.weight else 0).sum ≤
          ((List.finRange 16).map fun z => if s.counts z then (s.zone z).config.control.weight *
            (1000 * s.valveCount z (p z) / s.valveCount z fun _ => true) else 0).sum := by
  have hforce : s.checkInForce = false ↔
      s.boiler.config.bypassZone = none ∨ s.boiler.config.minflowPct = 0 ∨ s.cylinder.state = .charging := by
    rw [← Bool.not_eq_true, s.checkInForce_iff]
    tauto
  have hholds : s.checkHolds positions = true ↔ _ := decide_eq_true_iff
  simp only [State.countedWeight, State.openSum, State.zoneCounted_eq, h, rooms] at hholds
  rw [Bool.or_eq_true, Bool.not_eq_true', hforce, hholds, or_assoc, or_assoc]

theorem State.reportedPass_iff (s : State) : s.reportedPass = true ↔
    s.boiler.config.bypassZone = none ∨ s.boiler.config.minflowPct = 0 ∨ s.cylinder.state = .charging ∨
      s.boiler.config.minflowPct * 10 *
          ((List.finRange 16).map fun z => if s.counts z then (s.zone z).config.control.weight else 0).sum ≤
        ((List.finRange 16).map fun z => if s.counts z then (s.zone z).config.control.weight *
          (1000 * s.valveCount z (fun d => d.reported.any fun v => decide (20 ≤ v)) / s.valveCount z fun _ => true)
          else 0).sum :=
  s.check_iff fun z => s.openShare_eq z fun i d hd => by simp [State.reportedAt, hd, isOpen]

theorem State.commandedPass_iff (s : State) : s.commandedPass = true ↔
    s.boiler.config.bypassZone = none ∨ s.boiler.config.minflowPct = 0 ∨ s.cylinder.state = .charging ∨
      s.boiler.config.minflowPct * 10 *
          ((List.finRange 16).map fun z => if s.counts z then (s.zone z).config.control.weight else 0).sum ≤
        ((List.finRange 16).map fun z => if s.counts z then (s.zone z).config.control.weight *
          (1000 * s.valveCount z (fun d => if s.boiler.config.bypassZone = some z then decide (20 ≤ (s.zone z).ownTarget)
            else d.commanded.any fun v => decide (20 ≤ v)) / s.valveCount z fun _ => true) else 0).sum := by
  refine s.check_iff (p := fun z d => if s.boiler.config.bypassZone = some z then decide (20 ≤ (s.zone z).ownTarget)
    else d.commanded.any fun v => decide (20 ≤ v)) fun z => ?_
  unfold State.commandedOf
  split
  · next hz => exact s.openShare_eq z fun i d _ => by simp [isOpen]
  · next hz => exact s.openShare_eq z fun i d hd => by simp [State.commandedAt, hd, isOpen]

/-! ### The obligation -/

/-- Settles O33, value by value. -/
theorem flowTargetAndModulation : Obligations.FlowTargetAndModulation := by
  intro s hconfig b
  obtain ⟨hmax, hfloor, -⟩ := hconfig.limits
  refine ⟨State.flowTarget_bounds hmax hfloor, fun τ hc ht => State.flowTarget_charging hmax hc ht,
    fun hc hnone => State.flowTarget_idle hc (State.leadSetpoint_eq_none hnone), fun z hc hz hlead => ?_,
    State.modulation_off, fun v => State.modulation_firing, ?_⟩
  · intro lead out f
    rw [State.flowTarget_lead hc ((State.leadSetpoint_eq_some_iff lead).2 ⟨⟨z, hz, rfl⟩, hlead⟩), State.roomFlowTarget]
    exact if_congr s.floorLimit_iff rfl rfl
  · intro calls frost sum n d
    have hn : s.loadNumerator = n := by simp only [State.loadNumerator, Zone.isCalling_iff]; rfl
    have hd : s.enabledWeight = d := by simp only [State.enabledWeight, Zone.enabled_iff]; rfl
    refine ⟨fun ⟨z, hz⟩ => ?_, State.roomLoad_of_disabled, State.roomLoad_bounds, fun z => (s.zone z).leads_iff,
      State.leadSetpoint_eq_some_iff, fun hs v hv => State.outdoor_sensor hs hv, fun hs hh v hv => State.outdoor_held hs hh hv,
      s.outdoorFrost_iff, s.anyZoneFrost_iff, s.burnerDemand_iff, s.pumpReason_iff, ?_⟩
    · rw [State.roomLoad_of_enabled hz, hn, hd]
    · exact ⟨s.reportedPass_iff, s.commandedPass_iff⟩

end Sys2Proof.Machine

/-! The high flow limit (R114), BOILER RESET with its pulse (R116), and LOCKOUT (R115, R117). -/

namespace Sys2Proof.Machine

variable {s t : State} {tflow tout tcyl : Int} {due : Nat}

/-! ### The high flow limit (R111, R114) -/

/-- A TO reading that is no fault after OK raises nothing. -/
theorem State.sampleOutdoor_link (h : s.boiler.tout.status ≠ some .ok ∨ ¬ badReading tout) :
    (s.sampleOutdoor tout).link = s.link := by
  have hno : (s.boiler.tout.status == some .ok && (takeSensor s.boiler.tout tout).status == some .fault) = false := by
    rcases h with h | h
    · simp [h]
    · simp [takeSensor_good h]
  unfold State.sampleOutdoor
  dsimp only
  rw [hno]
  rfl

/-- A TC reading within its range raises nothing. -/
theorem State.channelSample_link (hf : s.boiler.tc.status = some .ok) : s.channelSample.link = s.link := by
  by_cases hc : s.cylinder.state = .fault
  · rw [State.channelSample_recovery_runs hf hc]
  · rw [State.channelSample_stays hf hc]

/-- Beside the TF sample, readings within their ranges raise nothing. -/
theorem State.sampled_link (hout : s.boiler.tout.status ≠ some .ok ∨ ¬ badReading tout) (hcyl : ¬ badReading tcyl) :
    (s.sampled tflow tout tcyl).link = (s.sampleFlow tflow).link := by
  have htout : (s.sampleFlow tflow).boiler.tout = s.boiler.tout := by
    rw [State.sampleFlow_eq, State.burnerSample_kept]
    rfl
  rw [State.sampled_eq, State.channelSample_link (by rw [State.beforeChannel_tc, takeSensor_good hcyl])]
  exact State.sampleOutdoor_link (by rw [htout]; exact hout)

/-- The start conditions ask for a flow temperature below the flow target by on_diff, and the target is at most flow_max
(R106, R111). -/
theorem State.startConditions_hot (hconfig : boilerConfigOk s.boiler.config) {v : Int} (hv : s.boiler.tf.value = some v)
    (hhot : s.boiler.config.flowMax ≤ v) : s.startConditions = false := by
  obtain ⟨hmax, hfloor, -, hdiff⟩ := hconfig.limits
  have hbounds := State.flowTarget_bounds hmax hfloor
  rw [Bool.eq_false_iff, Ne, State.startConditions_iff, hv]
  rintro ⟨-, -, w, hw, hle⟩
  cases hw
  omega

/-- A firing burner at the high limit is OFF after the sample, with nothing raised for it (R114). -/
theorem State.evaluate_sampled_limit (hgood : ¬ badReading tflow) (hhigh : s.boiler.config.flowMax + 50 ≤ tflow)
    (hb : s.boiler.burner = .firing) :
    let w := (s.sampled tflow tout tcyl).evaluate
    w.boiler.burner = .off ∧ w.boiler.lastStop = s.time.now ∧
      (s.boiler.tout.status ≠ some .ok ∨ ¬ badReading tout → ¬ badReading tcyl → w.link = s.link) := by
  intro w
  have hflow : s.sampleFlow tflow = (s.withFlow tflow).burnerOff := (State.sampleFlow_firing hgood hb).trans (if_pos hhigh)
  obtain ⟨hburner, hstop, -⟩ := State.evaluate_sampled_resting (s := s) (tflow := tflow) (tout := tout) (tcyl := tcyl)
    (by rw [hflow]; exact .inl rfl)
  have hlink : w.link = (s.sampled tflow tout tcyl).link := (State.settlesTo_evaluate _).link
  rw [hflow] at hburner hstop
  refine ⟨hburner, hstop, fun hout hcyl => ?_⟩
  rw [hlink, State.sampled_link hout hcyl, hflow]
  rfl

/-- Above flow_max a burner in READY or WAIT does not start (R111). -/
theorem State.evaluate_sampled_hot (hr : s.time.ready = true) (hconfig : boilerConfigOk s.boiler.config)
    (hgood : ¬ badReading tflow) (hhot : s.boiler.config.flowMax ≤ tflow) (hb : s.boiler.startable) :
    (s.sampled tflow tout tcyl).evaluate.boiler.burner = .ready := by
  have hflow : s.sampleFlow tflow = s.withFlow tflow :=
    State.sampleFlow_stays hgood (by rcases hb with h | ⟨r, h⟩ <;> simp [h]) (by rcases hb with h | ⟨r, h⟩ <;> simp [h])
  have hboiler := s.sampled_boiler_frame tflow tout tcyl
  rw [hflow, takeSensor_good hgood] at hboiler
  have htime := s.sampled_time tflow tout tcyl
  generalize s.sampled tflow tout tcyl = w at hboiler htime
  have hcold : w.evalCylinder.startConditions = false :=
    State.startConditions_hot (v := tflow) (by rw [w.evalCylinder_boiler, hboiler]; exact hconfig)
      (by rw [w.evalCylinder_boiler, hboiler]) (by rw [w.evalCylinder_boiler, hboiler]; exact hhot)
  have hstart : w.boiler.startable := by rw [hboiler]; exact hb
  exact ((State.evaluate_startable (by rw [htime]; exact hr) hstart).1 hcold).1

/-- Settles O31: a TF reading at the limit is a good one, so the burner is stopped by the limit alone. -/
theorem highFlowLimit : Obligations.HighFlowLimit := by
  intro tflow tout tcyl s t due hdue hr hconfig hexec htop hhigh
  cases (exec_sensorSample_ready hdue hr).symm.trans hexec
  obtain ⟨-, -, hmax, -⟩ := hconfig.limits
  have hgood : ¬ badReading tflow := by omega
  let u := s.advanceSample due
  refine ⟨fun hb => ?_, fun hb => ?_⟩
  · obtain ⟨hburner, hstop, hlink⟩ := State.evaluate_sampled_limit (s := u) (tout := tout) (tcyl := tcyl) hgood hhigh hb
    refine ⟨hburner, hstop, fun hout hlow htop => ?_⟩
    rw [hlink (hout.imp id (by omega)) (by omega)]
    rfl
  · refine State.evaluate_sampled_hot (s := u) hr hconfig hgood (show s.boiler.config.flowMax ≤ tflow by omega) ?_
    rcases hb with h | h | h
    · exact .inl h
    · exact .inr ⟨_, h⟩
    · exact .inr ⟨_, h⟩

/-! ### LOCKOUT (R115, R117) -/

theorem Boiler.RestsTo.lockout {b c : Boiler} (h : b.RestsTo c) : c.attempts = b.attempts ∧ c.pulse = b.pulse ∧
    c.lockoutPin = b.lockoutPin ∧ c.tf = b.tf := by
  unfold Boiler.RestsTo at h
  rw [h]
  exact ⟨rfl, rfl, rfl, rfl⟩

theorem State.settlesTo_lockOut (s : State) : (s.raise .boiler).SettlesTo s.lockOut := ⟨rfl, fun _ => rfl⟩

theorem exec_lockoutAssert_ready (hr : s.time.ready = true) (hb : s.boiler.burner ≠ .lockedOut) :
    exec .lockoutAssert s = .next (s.setBoiler { s.boiler with lockoutPin := true }).lockOut.evaluate :=
  congrArg Host.Outcome.next (if_pos ⟨hr, hb⟩)

theorem exec_lockoutAssert_locked (hb : s.boiler.burner = .lockedOut) :
    exec .lockoutAssert s = .next (s.setBoiler { s.boiler with lockoutPin := true }) :=
  congrArg Host.Outcome.next (if_neg fun h => h.2 hb)

theorem exec_lockoutRelease_ends (hr : s.time.ready = true) (hb : s.boiler.burner = .lockedOut) (hp : s.boiler.pulse = none) :
    exec .lockoutRelease s = .next (s.setBoiler { s.boiler with lockoutPin := false }).endLockout.evaluate :=
  congrArg Host.Outcome.next (if_pos ⟨hr, hb, hp⟩)

theorem exec_lockoutRelease_stays (h : s.boiler.burner = .lockedOut → s.boiler.pulse.isSome) :
    exec .lockoutRelease s = .next (s.setBoiler { s.boiler with lockoutPin := false }) :=
  congrArg Host.Outcome.next (if_neg fun k => by simpa [k.2.2] using h k.2.1)

/-- The state in which the end of a pulse reads LOCKOUT (R117). -/
def State.pulseEnded (s : State) (a : Nat) : State :=
  { s with time := { s.time with now := max s.time.now (a + 5000) }, boiler := { s.boiler with pulse := none } }

theorem exec_pulseEnd {a : Nat} (ha : s.boiler.pulse = some a) : exec .lockoutResetPulseEnd s =
    .next (if s.boiler.lockoutPin then (s.pulseEnded a).failedAttempt else (s.pulseEnded a).endLockout.evaluate) := by
  have hexec : exec .lockoutResetPulseEnd s = execLockoutResetPulseEnd s := rfl
  simp only [hexec, execLockoutResetPulseEnd, ha]
  rfl

/-- The end of a lockout, after the evaluations (R115, R117). -/
theorem State.evaluate_endLockout (s : State) :
    let t := s.endLockout.evaluate
    t.time = s.time ∧ t.boiler.attempts = 0 ∧ t.boiler.pulse = s.boiler.pulse ∧ t.boiler.lockoutPin = s.boiler.lockoutPin ∧
      (s.boiler.tf.status = some .fault → t.boiler.burner = .sensorFault ∧ t.raised .boiler = true) ∧
      (s.boiler.tf.status ≠ some .fault → t.boiler.burner = .off ∧ t.boiler.lastStop = s.time.now) := by
  intro t
  obtain ⟨hattempts, -, hfault, hok⟩ := s.endLockout_spec
  have hmoves := s.movesTo_endLockout
  have hrest : s.endLockout.boiler.resting := by
    by_cases h : s.boiler.tf.status = some .fault
    · exact .inr (.inr (hfault h).1)
    · exact .inl (hok h).1
  have hafter : s.endLockout.boiler.RestsTo t.boiler := State.restsTo_evaluate hrest
  obtain ⟨hburner, -, -, -, hstop⟩ := hafter.fields
  obtain ⟨kattempts, kpulse, kpin, -⟩ := hafter.lockout
  have hpulse : s.endLockout.boiler.pulse = s.boiler.pulse := by rw [hmoves]
  have hpin : s.endLockout.boiler.lockoutPin = s.boiler.lockoutPin := by rw [hmoves]
  have htime : t.time = s.time := (State.settlesTo_evaluate _).time.trans (by rw [hmoves])
  refine ⟨htime, kattempts.trans hattempts, kpulse.trans hpulse, kpin.trans hpin, fun h => ?_, fun h => ?_⟩
  · exact ⟨hburner.trans (hfault h).1, NoticesKept.of_link (State.settlesTo_evaluate _).link _ (hfault h).2⟩
  · exact ⟨hburner.trans (hok h).1, hstop.trans (hok h).2⟩

/-- Settles O29: the burner is at rest in LOCKED_OUT and after a lockout ends, so the evaluations leave it. -/
theorem lockoutAndPulseEnd : Obligations.LockoutAndPulseEnd := by
  refine ⟨fun s hr hb => ?_, fun s hr hb hp => ?_, fun s a ha hb => ⟨fun hpin => ?_, fun hpin => ?_⟩⟩
  · let u := s.setBoiler { s.boiler with lockoutPin := true }
    have hrest : u.lockOut.boiler.RestsTo u.lockOut.evaluate.boiler := State.restsTo_evaluate (.inr (.inl rfl))
    obtain ⟨hburner, -, -, hwait, hstop⟩ := hrest.fields
    exact ⟨_, exec_lockoutAssert_ready hr hb, u.settlesTo_lockOut.trans (State.settlesTo_evaluate _), hburner, hwait,
      hrest.recovery, hstop⟩
  · obtain ⟨-, hattempts, -, hlow, hfault, hok⟩ :=
      State.evaluate_endLockout (s.setBoiler { s.boiler with lockoutPin := false })
    exact ⟨_, exec_lockoutRelease_ends hr hb hp, hlow, hattempts, hfault, hok⟩
  · rw [exec_pulseEnd ha, if_pos hpin]
    rfl
  · obtain ⟨htime, hattempts, hpulse, -, hfault, hok⟩ := (s.pulseEnded a).evaluate_endLockout
    refine ⟨_, (exec_pulseEnd ha).trans (congrArg _ (if_neg (by simp [hpin]))), by rw [htime]; rfl, hpulse, hattempts, hfault, fun h => ?_⟩
    rw [htime]
    exact hok h

end Sys2Proof.Machine

/-! What the operations of the other blocks leave of the boiler: all of it. The evaluations come after them. -/

namespace Sys2Proof.Machine

variable {s t u : State}

/-! ### Resolution, holds, house and clock -/

@[simp] theorem State.resolve_boiler (s : State) (z : Fin 17) : (s.resolve z).boiler = s.boiler := (s.resolvesTo_resolve z).boiler

@[simp] theorem State.resolveAll_boiler (s : State) : s.resolveAll.boiler = s.boiler := s.resolvesTo_resolveAll.boiler

@[simp] theorem State.resolveRooms_boiler (s : State) : s.resolveRooms.boiler = s.boiler := s.resolvesTo_resolveRooms.boiler

@[simp] theorem State.push_boiler (s : State) (z : Fin 17) (v : Int) (e : EndKind) (o : Origin) (r : Bool) :
    (s.push z v e o r).boiler = s.boiler := by rw [State.push_eq]

@[simp] theorem State.putHold_boiler (s : State) (z : Fin 17) (h : Hold) : (s.putHold z h).boiler = s.boiler := rfl

@[simp] theorem State.dropHold_boiler (s : State) (z : Fin 17) (n : Nat) : (s.dropHold z n).boiler = s.boiler := rfl

@[simp] theorem State.changeMode_boiler (s : State) (m : Mode) (c : Option Nat) : (s.changeMode m c).boiler = s.boiler :=
  (s.resolvesTo_changeMode m c).boiler

@[simp] theorem State.wake_boiler (s : State) (c : WakeCause) : (s.wake c).boiler = s.boiler := by
  unfold State.wake
  split <;> simp

@[simp] theorem State.returnEnds_boiler (s : State) : s.returnEnds.boiler = s.boiler := by simp [State.returnEnds]

@[simp] theorem State.countReturn_boiler (s : State) : s.countReturn.boiler = s.boiler := by
  unfold State.countReturn
  split
  · split <;> simp
  · rfl

@[simp] theorem State.takeCrossings_boiler (s : State) : s.takeCrossings.boiler = s.boiler := by rw [s.takeCrossings_frame]

@[simp] theorem State.takePointChanges_boiler (s : State) (before : Option Nat) :
    (s.takePointChanges before).boiler = s.boiler := by rw [s.takePointChanges_frame before]

/-! ### Room zones and the cylinder channel -/

@[simp] theorem State.storeRoom_boiler (s : State) (z : Fin 16) (items : List Item) : (s.storeRoom z items).boiler = s.boiler :=
  (resolvesTo_storeRoom s z items).boiler

@[simp] theorem State.announceIf_boiler (b : Bool) (z : Fin 16) (s : State) : (s.announceIf b z).boiler = s.boiler := by
  cases b
  · rfl
  · exact (s.resolvesTo_announce z).boiler

@[simp] theorem State.applyPending_boiler (s : State) (z : Fin 16) (was : ZoneState) :
    (s.applyPending z was).boiler = s.boiler := by
  unfold State.applyPending
  split <;> rfl

@[simp] theorem State.prioExpires_boiler (s : State) : s.prioExpires.boiler = s.boiler := by
  unfold State.prioExpires
  split <;> rfl

@[simp] theorem State.toIdle_boiler (s : State) : s.toIdle.boiler = s.boiler := by
  unfold State.toIdle State.evalIdle
  split <;> rfl

@[simp] theorem State.gapExpires_boiler (s : State) : s.gapExpires.boiler = s.boiler := by
  unfold State.gapExpires
  split
  · rfl
  · exact s.toIdle_boiler

@[simp] theorem State.shortenGap_boiler (items : List Item) (s : State) : (s.shortenGap items).boiler = s.boiler := by
  unfold State.shortenGap
  split <;> simp

@[simp] theorem State.shortenPrio_boiler (items : List Item) (s : State) : (s.shortenPrio items).boiler = s.boiler := by
  unfold State.shortenPrio
  split <;> simp

@[simp] theorem State.disableCylinder_boiler (s : State) : s.disableCylinder.boiler = s.boiler := by
  unfold State.disableCylinder
  split <;> rfl

@[simp] theorem State.enableCylinder_boiler (s : State) : s.enableCylinder.boiler = s.boiler := by
  unfold State.enableCylinder
  split
  · split <;> rfl
  · rfl

@[simp] theorem State.resolveIf_boiler (b : Bool) (z : Fin 17) (s : State) : (s.resolveIf b z).boiler = s.boiler := by
  cases b
  · rfl
  · exact s.resolve_boiler z

@[simp] theorem State.storeCylinder_boiler (s : State) (items : List Item) : (s.storeCylinder items).boiler = s.boiler := by
  have hstored : ∀ t : State, t.boiler = s.boiler →
      (((State.resolveIf (carries items 21) zw { t with cylinder := t.cylinder.store items }).shortenGap items).shortenPrio
        items).boiler = s.boiler := fun t ht => by simpa using ht
  have hoff : (if itemNat items 16 = some 0 then s.disableCylinder else s).boiler = s.boiler := by split <;> simp
  unfold State.storeCylinder
  dsimp only
  split
  · exact (State.enableCylinder_boiler _).trans (hstored _ hoff)
  · exact hstored _ hoff

/-! ### Grants and the motor queue -/

@[simp] theorem State.handNext_boiler (s : State) (i : Fin 48) (n f : Option NextTarget) :
    (s.handNext i n f).boiler = s.boiler := by
  unfold State.handNext
  split <;> simp

@[simp] theorem State.joinForcing_boiler (s : State) (i : Fin 48) : (s.joinForcing i).boiler = s.boiler := by
  unfold State.joinForcing
  split
  · split <;> simp
  · rfl

@[simp] theorem State.leaveOrder_boiler (s : State) (i : Fin 48) : (s.leaveOrder i).boiler = s.boiler := by rw [State.leaveOrder_eq]

@[simp] theorem State.enterOrder_boiler (s : State) (i : Fin 48) : (s.enterOrder i).boiler = s.boiler := by rw [State.enterOrder_eq]

@[simp] theorem State.addMember_boiler (s : State) (z : Option (Fin 16)) (k : DeviceKind) :
    (s.addMember z k).boiler = s.boiler := by rw [State.addMember_eq]

@[simp] theorem State.dropMember_boiler (s : State) (z : Option (Fin 16)) (k : DeviceKind) :
    (s.dropMember z k).boiler = s.boiler := by rw [State.dropMember_eq]

@[simp] theorem State.endGrant_boiler (s : State) (i : Fin 48) (d : Device) : (s.endGrant i d).boiler = s.boiler := by
  rw [State.endGrant_eq]; rfl

@[simp] theorem State.revoke_boiler (s : State) : s.revoke.boiler = s.boiler := by
  unfold State.revoke
  split <;> rfl

@[simp] theorem State.endDone_boiler (s : State) (i : Fin 48) (d : Device) (g : Grant) : (s.endDone i d g).boiler = s.boiler := by
  unfold State.endDone
  split <;> simp

@[simp] theorem State.endFailed_boiler (s : State) (i : Fin 48) (d : Device) (g : Grant) :
    (s.endFailed i d g).boiler = s.boiler := by
  unfold State.endFailed
  dsimp only
  split
  · simp
  · split <;> simp

/-! ### The registry -/

@[simp] theorem State.admitRecord_boiler (s : State) (i : Fin 48) (e : JoinEntry) (zone : Option (Fin 16)) :
    (s.admitRecord i e zone).boiler = s.boiler := by rw [State.admitRecord_eq]; rfl

@[simp] theorem State.refind_boiler (s : State) (i : Fin 48) (d : Device) : (s.refind i d).boiler = s.boiler := by
  unfold State.refind
  dsimp only
  split <;> simp

@[simp] theorem State.newJoin_boiler (s : State) (serial : BitVec 32) (k : DeviceKind) : (s.newJoin serial k).boiler = s.boiler := by
  rw [State.newJoin_eq]

@[simp] theorem State.takeJoin_boiler (s : State) (serial : BitVec 32) (k : DeviceKind) :
    (s.takeJoin serial k).boiler = s.boiler := by
  unfold State.takeJoin State.knownJoin
  split
  · split
    · split <;> simp
    · rfl
  · rfl
  · simp

@[simp] theorem State.clearBad_boiler (s : State) (i : Fin 48) : (s.clearBad i).boiler = s.boiler := by
  unfold State.clearBad
  split <;> rfl

@[simp] theorem State.afterRead_boiler (s : State) (kind : RecordKind) (key : Word) : (s.afterRead kind key).boiler = s.boiler := by
  unfold State.afterRead
  split <;> simp

/-! ### The line and the parts of a cycle -/

@[simp] theorem State.leaveRunning_boiler (s : State) : s.leaveRunning.boiler = s.boiler := by
  unfold State.leaveRunning
  split <;> simp

@[simp] theorem State.stopLine_boiler (s : State) : s.stopLine.boiler = s.boiler := s.leaveRunning_boiler

@[simp] theorem State.faultLine_boiler (s : State) : s.faultLine.boiler = s.boiler := s.leaveRunning_boiler

@[simp] theorem State.newCycle_boiler (s : State) : s.newCycle.boiler = s.boiler := by rw [State.newCycle_eq]

@[simp] theorem State.startLine_boiler (s : State) : s.startLine.boiler = s.boiler := State.newCycle_boiler _

@[simp] theorem State.issue_boiler (s : State) (e : Entry) : (s.issue e).boiler = s.boiler := by
  unfold State.issue
  split <;> rfl

@[simp] theorem State.takeBoundary_boiler (s : State) : s.takeBoundary.boiler = s.boiler := by
  unfold State.takeBoundary
  dsimp only
  split
  · split <;> simp
  · rfl

@[simp] theorem State.beginPart_boiler (s : State) (p : Part) (sent : Option Telegram) (answer : Option (Fin 48))
    (invited : Bool) : (s.beginPart p sent answer invited).boiler = s.boiler := rfl

@[simp] theorem State.serveSlot_boiler (s : State) (i : Fin 48) : (s.serveSlot i).boiler = s.boiler := by
  have hrecord : ∀ d, (s.serveRecord i d).boiler = s.boiler := fun d => by
    unfold State.serveRecord State.release
    split
    · simp
    · split
      · split <;> rfl
      · rfl
  unfold State.serveSlot
  split
  · split
    · rfl
    · exact hrecord _
  · rfl

@[simp] theorem State.serveGroup_boiler (s : State) : s.serveGroup.boiler = s.boiler := by
  unfold State.serveGroup
  split <;> rfl

@[simp] theorem State.serveJoin_boiler (s : State) : s.serveJoin.boiler = s.boiler := by
  unfold State.serveJoin
  split <;> rfl

/-! ### Reports -/

@[simp] theorem State.takeMiss_boiler (s : State) (i : Fin 48) (d : Device) (bad : Bool) : (s.takeMiss i d bad).boiler = s.boiler :=
  State.raiseIf_boiler _ _ _

@[simp] theorem State.takeReading_boiler (s : State) (i : Fin 48) (d : Device) (temp : Int) :
    (s.takeReading i d temp).boiler = s.boiler := by
  unfold State.takeReading
  dsimp only
  split <;> simp [State.raiseIf_boiler]

@[simp] theorem State.takePosition_boiler (s : State) (i : Fin 48) (d : Device) (position : Int) (motor : MotorState) :
    (s.takePosition i d position motor).boiler = s.boiler := by
  have houtcome : ∀ (u : State) (e : Device) (g : Grant), (u.takeOutcome i e g position motor).boiler = u.boiler := fun u e g => by
    unfold State.takeOutcome
    split
    · rfl
    · split <;> simp
    · simp
  unfold State.takePosition
  dsimp only
  split
  · split
    · exact houtcome _ _ _
    · rfl
  · rfl

@[simp] theorem State.pressAt_boiler (s : State) (z : Fin 16) (address : Nat) (b : Button) :
    (s.pressAt z address b).boiler = s.boiler := by
  have hpush : ∀ d, (s.pushStep z address d).boiler = s.boiler := fun d => by
    unfold State.pushStep
    split <;> simp
  have hstep : ∀ d, (s.step5 z address d).boiler = s.boiler := fun d => by
    unfold State.step5
    split
    · split
      · simp
      · exact hpush d
    · exact hpush d
  unfold State.pressAt State.cancelTop
  split
  · exact hstep 5
  · exact hstep (-5)
  · split <;> simp
  all_goals rfl

@[simp] theorem State.takeButton_boiler (s : State) (i : Fin 48) (d : Device) (b : Button) (sequence : Nat) :
    (s.takeButton i d b sequence).boiler = s.boiler := by
  unfold State.takeButton State.press
  split
  · rfl
  split
  · simp
  split <;> simp

@[simp] theorem State.takeSlot_boiler (s : State) (i : Fin 48) (received : Option (List Byte)) :
    (s.takeSlot i received).boiler = s.boiler := by
  have hreport : ∀ d r, (s.takeReport i d r).boiler = s.boiler := fun d r => by
    unfold State.takeReport
    cases r <;> simp
  unfold State.takeSlot
  split
  · split
    · rfl
    · split
      · exact hreport _ _
      all_goals simp
  · rfl

/-! ### The hour count -/

@[simp] theorem State.advanceHour_boiler (s : State) : s.advanceHour.boiler = s.boiler := by
  have hopen : ∀ (u : State) (i : Fin 48), (u.exerciseAt i).boiler = u.boiler := fun u i => by
    unfold State.exerciseAt State.exerciseFree State.openExercise
    split
    · split
      · split
        all_goals (split <;> rfl)
      · rfl
    · rfl
  exact foldl_leaves State.boiler hopen slots s.ageValves

end Sys2Proof.Machine

/-! What any event makes of a locked-out burner whose reset pulse runs, of a burner that fires within tBON, and of the start
list of a burner that starts (R111 to R117). -/

namespace Sys2Proof.Machine

variable {p q r : Prop} {s t u : State}

/-- The start list of a firing burner is within starts_limit (R111). -/
def State.WithinLimit (s : State) : Prop :=
  s.boiler.burner = .firing → (s.boiler.startList.length : Int) ≤ s.boiler.config.startsLimit

/-- What an event makes of the burner: under `p` a lockout whose pulse runs goes on, under `q` a burner that fires within tBON
fires on, and under `r` a start list within its limit stays so. -/
structure Burns (p q r : Prop) (s t : State) : Prop where
  locked : p → s.boiler.burner = .lockedOut → s.boiler.pulse.isSome →
    t.boiler.burner = .lockedOut ∧ t.boiler.pulse = s.boiler.pulse
  held : q → s.boiler.burner = .firing → s.boiler.minOn.isSome →
    t.boiler.burner = .firing ∧ t.boiler.minOn = s.boiler.minOn
  starts : r → s.WithinLimit → t.WithinLimit

/-- A boiler with the fields that the relation reads. -/
structure Boiler.SameBurner (b c : Boiler) : Prop where
  burner : c.burner = b.burner
  pulse : c.pulse = b.pulse
  minOn : c.minOn = b.minOn
  startList : c.startList = b.startList
  config : c.config = b.config

theorem Boiler.SameBurner.burns (h : s.boiler.SameBurner t.boiler) : Burns p q r s t where
  locked _ hb _ := ⟨h.burner.trans hb, h.pulse⟩
  held _ hb _ := ⟨h.burner.trans hb, h.minOn⟩
  starts _ hs := by
    unfold State.WithinLimit
    rw [h.burner, h.startList, h.config]
    exact hs

/-- An event that leaves the boiler. -/
theorem Burns.of_boiler (h : t.boiler = s.boiler) : Burns p q r s t := by
  refine Boiler.SameBurner.burns ?_
  rw [h]
  exact ⟨rfl, rfl, rfl, rfl, rfl⟩

theorem Burns.refl (s : State) : Burns p q r s s := Burns.of_boiler rfl

theorem Burns.trans (h : Burns p q r s t) (k : Burns p q r t u) : Burns p q r s u where
  locked hp hb hpulse := by
    obtain ⟨ht, hkept⟩ := h.locked hp hb hpulse
    obtain ⟨hu, hkept'⟩ := k.locked hp ht (by rw [hkept]; exact hpulse)
    exact ⟨hu, hkept'.trans hkept⟩
  held hq hb hmin := by
    obtain ⟨ht, hkept⟩ := h.held hq hb hmin
    obtain ⟨hu, hkept'⟩ := k.held hq ht (by rw [hkept]; exact hmin)
    exact ⟨hu, hkept'.trans hkept⟩
  starts hr := k.starts hr ∘ h.starts hr

/-- The boiler is as it was where the event began. -/
theorem Burns.from_boiler (h : Burns p q r u t) (hb : u.boiler = s.boiler) : Burns p q r s t := (Burns.of_boiler hb).trans h

theorem Burns.to_boiler (h : Burns p q r s t) (hb : u.boiler = t.boiler) : Burns p q r s u := h.trans (Burns.of_boiler hb)

theorem Burns.ite {c : Prop} [Decidable c] (h : c → Burns p q r s t) (k : ¬ c → Burns p q r s u) :
    Burns p q r s (if c then t else u) := by
  split
  · next hc => exact h hc
  · next hc => exact k hc

theorem Burns.ite_fst {c : Prop} [Decidable c] {a b : State × Answer} (h : c → Burns p q r s a.1)
    (k : ¬ c → Burns p q r s b.1) : Burns p q r s (if c then a else b).1 := by
  split
  · next hc => exact h hc
  · next hc => exact k hc

/-- A burner that neither fired nor was locked out does not fire now. -/
theorem Burns.of_idle (hf : s.boiler.burner ≠ .firing) (hl : s.boiler.burner ≠ .lockedOut) (ht : t.boiler.burner ≠ .firing) :
    Burns p q r s t where
  locked _ hb := absurd hb hl
  held _ hb := absurd hb hf
  starts _ _ hb := absurd hb ht

/-- A burner that is stopped where the event may stop it. -/
theorem Burns.of_stop (hp : p → s.boiler.burner = .lockedOut → s.boiler.pulse.isSome → False) (hq : ¬ q)
    (ht : t.boiler.burner ≠ .firing) : Burns p q r s t where
  locked h hb hpulse := (hp h hb hpulse).elim
  held h := absurd h hq
  starts _ _ hb := absurd hb ht

/-! ### The evaluations -/

theorem Boiler.RestsTo.sameBurner {b c : Boiler} (h : b.RestsTo c) : b.SameBurner c := by
  unfold Boiler.RestsTo at h
  rw [h]
  exact ⟨rfl, rfl, rfl, rfl, rfl⟩

theorem State.evaluate_config (s : State) : s.evaluate.boiler.config = s.boiler.config := by rw [s.settlesTo_evaluate.1]

/-- An evaluation starts a burner only where one more start is within the limit (R111). -/
theorem State.withinLimit_evaluate_startable (hready : s.time.ready = true) (hb : s.boiler.startable) :
    s.evaluate.WithinLimit := by
  intro hfires
  obtain ⟨hnone, hgated, hblocked, hstarted⟩ := State.evaluate_startable hready hb
  cases hc : s.evalCylinder.startConditions with
  | false => simp [hnone hc] at hfires
  | true =>
    cases hg : s.evalCylinder.startsGate with
    | true => simp [hgated hc hg] at hfires
    | false =>
      cases hp : s.evalCylinder.reportedPass with
      | false => simp [hblocked hc hg hp] at hfires
      | true =>
        obtain ⟨-, -, hlist⟩ := hstarted hc hg hp
        have hroom : ¬ s.boiler.config.startsLimit ≤ (s.boiler.startList.length : Int) := fun h => by
          rw [s.evalCylinder_startsGate.2 h] at hg; cases hg
        rw [hlist, s.evaluate_config, List.length_append]
        simp only [List.length_cons, List.length_nil]
        omega

/-- An evaluation stops no burner within tBON (R113), and starts none beyond the limit (R111). -/
theorem burns_evaluate (s : State) : Burns p q r s s.evaluate := by
  cases hready : s.time.ready with
  | false => rw [State.evaluate_low hready]; exact Burns.refl s
  | true =>
    by_cases hstart : s.boiler.startable
    · refine ⟨fun _ hb => ?_, fun _ hb => ?_, fun _ _ => State.withinLimit_evaluate_startable hready hstart⟩
      all_goals rcases hstart with h | ⟨_, h⟩ <;> rw [h] at hb <;> cases hb
    by_cases hfire : s.boiler.burner = .firing
    · obtain ⟨hlist, hstops, hstays⟩ := State.evaluate_firing hready hfire
      refine ⟨fun _ hb => (by rw [hfire] at hb; cases hb), fun _ _ hmin => ?_, fun _ hs _ => ?_⟩
      · have hno : s.evalCylinder.stopWanted = false := Bool.eq_false_iff.2 fun hw => by
          obtain ⟨hnone, -⟩ := s.evalCylinder.stopWanted_iff.1 hw
          rw [s.evalCylinder_boiler] at hnone
          simp [hnone] at hmin
        obtain ⟨hburner, hkept, -⟩ := hstays hno
        exact ⟨hburner, hkept⟩
      · rw [hlist, s.evaluate_config]
        exact hs hfire
    · exact (State.restsTo_evaluate (Boiler.resting_of_not hstart hfire)).sameBurner.burns

theorem Burns.evaluate (h : Burns p q r s t) : Burns p q r s t.evaluate := h.trans (burns_evaluate t)

/-- An event that writes beside the boiler, with its evaluations. -/
theorem burns_evaluate_of (h : t.boiler = s.boiler) : Burns p q r s t.evaluate := (Burns.of_boiler h).evaluate

theorem burns_evaluateFrom_of (h : t.boiler = s.boiler) (before : State) : Burns p q r s (t.evaluateFrom before) :=
  Burns.ite (fun _ => Burns.of_boiler h) fun _ => burns_evaluate_of h

/-! ### Minute tick, sample and READY -/

/-- A minute takes entries from the start list (R112). -/
theorem burns_ageStarts (s : State) : Burns p q r s s.ageStarts where
  locked _ hb _ := ⟨hb, rfl⟩
  held _ hb _ := ⟨hb, rfl⟩
  starts _ hs hb := by
    have hlen : s.ageStarts.boiler.startList.length ≤ s.boiler.startList.length :=
      (List.length_filter_le _ _).trans (List.length_map _).le
    have hlimit : (s.boiler.startList.length : Int) ≤ s.boiler.config.startsLimit := hs hb
    change (s.ageStarts.boiler.startList.length : Int) ≤ s.boiler.config.startsLimit
    omega

theorem burns_tickStarts (s : State) : Burns p q r s s.tickStarts := (burns_ageStarts s).evaluate

theorem burns_tickUnless (taken : Bool) {f : State → State} (h : ∀ s, Burns p q r s (f s)) (s : State) :
    Burns p q r s (s.tickUnless taken f) := by
  cases taken
  · exact h s
  · exact Burns.refl s

theorem burns_minuteTick (s : State) : Burns p q r s s.minuteTick := by
  have hclock : Burns p q r s s.tickClock :=
    burns_evaluate_of (by rw [State.resolveAll_boiler, State.takeCrossings_boiler])
  have hholds : ∀ u : State, Burns p q r u u.tickHolds := fun u =>
    burns_evaluate_of (by rw [State.resolveAll_boiler]; rfl)
  have hhouse : ∀ u : State, Burns p q r u u.tickHouse := fun u => burns_evaluate_of u.countReturn_boiler
  have hjoins : ∀ u : State, Burns p q r u u.ageJoins := fun _ => Burns.of_boiler rfl
  exact (((hclock.trans (burns_tickUnless _ hholds _)).trans (burns_tickUnless _ hhouse _)).trans
    (burns_tickUnless _ burns_tickStarts _)).trans (burns_tickUnless _ hjoins _)

/-- A sample makes of the burner what its TF reading does, and writes neither pulse, start list nor configuration. -/
theorem State.sampled_ignition (s : State) (tflow tout tcyl : Int) :
    let b := (s.sampled tflow tout tcyl).boiler
    b.burner = (s.sampleFlow tflow).boiler.burner ∧ b.minOn = (s.sampleFlow tflow).boiler.minOn ∧
      b.pulse = s.boiler.pulse ∧ b.startList = s.boiler.startList ∧ b.config = s.boiler.config := by
  rw [s.sampled_boiler_frame]
  exact ⟨rfl, rfl, rfl, rfl, rfl⟩

/-- No TF reading makes a burner fire (R102, R114). -/
theorem State.firing_of_sampleFlow (h : (s.sampleFlow tflow).boiler.burner = .firing) : s.boiler.burner = .firing := by
  unfold State.sampleFlow State.burnerSample at h
  split at h
  · exact h
  · exact h
  · cases h
  · exact h
  · next hb _ => exact hb
  · exact h

/-- A good TF reading below the high limit stops no firing burner; a locked-out one stays so over any (R102, R114, R115). -/
theorem burns_takeSample (s : State) (tflow tout tcyl : Int)
    (hq : q → ¬ badReading tflow ∧ ¬ s.boiler.config.flowMax + 50 ≤ tflow) :
    Burns p q r s (s.takeSample tflow tout tcyl) := by
  obtain ⟨hburner, hmin, hpulse, hlist, hconfig⟩ := s.sampled_ignition tflow tout tcyl
  refine Burns.evaluate (t := s.sampled tflow tout tcyl) ⟨fun _ hb _ => ?_, fun hw hb hon => ?_, fun _ hs hb => ?_⟩
  · rw [hburner, s.sampleFlow_lockedOut hb]
    exact ⟨hb, hpulse⟩
  · obtain ⟨hgood, hlow⟩ := hq hw
    rw [hburner, hmin, State.sampleFlow_firing hgood hb, if_neg hlow]
    exact ⟨hb, rfl⟩
  · rw [hlist, hconfig]
    exact hs (State.firing_of_sampleFlow (hburner ▸ hb))

theorem burns_stopAtReady (s : State) : Burns p q r s s.stopAtReady :=
  Burns.ite (fun _ => Boiler.SameBurner.burns ⟨rfl, rfl, rfl, rfl, rfl⟩) fun _ => Burns.refl s

theorem State.endLockout_ne_firing (s : State) : s.endLockout.boiler.burner ≠ .firing := by
  unfold State.endLockout
  dsimp only
  split <;> exact Burner.noConfusion

theorem burns_readyLockout (hq : ¬ q) (s : State) : Burns p q r s s.readyLockout := by
  refine Burns.ite (fun _ => Burns.ite (fun _ => Burns.refl s) fun hb => ?_) fun _ => Burns.ite (fun h => ?_) fun _ => Burns.refl s
  · exact Burns.of_stop (fun _ hlocked _ => hb hlocked) hq Burner.noConfusion
  · exact Burns.of_stop (fun _ _ hpulse => by simp [h.2] at hpulse) hq s.endLockout_ne_firing

theorem burns_readyFault (s : State) : Burns p q r s s.readyFault :=
  Burns.ite (fun h => Burns.of_idle (by simp [h.2]) (by simp [h.2]) Burner.noConfusion) fun _ => Burns.refl s

theorem burns_firstReady (hq : ¬ q) (s : State) (tflow tout tcyl : Int) : Burns p q r s (s.firstReady tflow tout tcyl) := by
  have hready : ∀ u : State, Burns p q r u (u.stopAtReady.readyLockout.takeSample tflow tout tcyl) := fun u =>
    ((burns_stopAtReady u).trans (burns_readyLockout hq _)).trans (burns_takeSample _ _ _ _ fun h => absurd h hq)
  exact (hready _).from_boiler rfl

theorem burns_warmReady (hq : ¬ q) (s : State) (tflow tout tcyl : Int) : Burns p q r s (s.warmReady tflow tout tcyl) := by
  have hsample : ∀ u : State, Burns p q r u (u.dueSample tflow tout tcyl) := fun u =>
    Burns.ite (fun _ => (burns_takeSample _ _ _ _ fun h => absurd h hq).from_boiler rfl) fun _ => Burns.refl u
  have hminute : ∀ u : State, Burns p q r u u.dueMinute := fun u =>
    Burns.ite (fun _ => (burns_minuteTick _).from_boiler rfl) fun _ => Burns.refl u
  have hcontrol : ∀ u : State, Burns p q r u u.dueControl := fun u => Burns.of_boiler (by rw [u.dueControl_eq])
  have hready : ∀ u : State, Burns p q r u u.stopAtReady.readyLockout.readyFault.evaluate := fun u =>
    (((burns_stopAtReady u).trans (burns_readyLockout hq _)).trans (burns_readyFault _)).evaluate
  have hdue : ∀ u : State, Burns p q r u
      (((u.stopAtReady.readyLockout.readyFault.evaluate).dueSample tflow tout tcyl).dueMinute).dueControl := fun u =>
    (((hready u).trans (hsample _)).trans (hminute _)).trans (hcontrol _)
  obtain ⟨-, -, -, -, -, hboiler, -, -⟩ := s.warmResolved_frame
  exact (hdue s.warmResolved).from_boiler hboiler

/-! ### The commands -/

theorem burns_takeFrame (s : State) {f : State → State} (h : ∀ t, t.boiler = s.boiler → Burns p q r t (f t)) :
    Burns p q r s (s.takeFrame f) :=
  Burns.ite (fun _ => Burns.of_boiler rfl) fun _ => (h s.closeFrame rfl).from_boiler rfl

/-- A command is what its body makes of the state in which its frame has ended. -/
theorem burns_command (s : State) (c : Instr) {body : State → State × Answer}
    (h : ∀ t, t.boiler = s.boiler → Burns p q r t (body t).1) : Burns p q r s (s.command c body) := by
  refine burns_takeFrame s fun t ht => ?_
  have hbody : Burns p q r t (body (t.goodFrame (frameBytes c))).1 :=
    (h (t.goodFrame (frameBytes c)) ht).from_boiler rfl
  refine hbody.to_boiler ?_
  rfl

end Sys2Proof.Machine

/-! Every command and event, with what it makes of the burner (R111 to R117). -/

namespace Sys2Proof.Machine

variable {p q r : Prop} {s t : State}

/-! ### The commands -/

theorem burns_editPoints (s : State) (z : Fin 17) (l : List Point) : Burns p q r s (s.editPoints z l) :=
  burns_evaluateFrom_of (s := s) ((s.setPoints z l).resolve_boiler z) s

theorem burns_createPoint (s : State) (key : Word) (items : List Item) : Burns p q r s (s.createPoint key items).1 := by
  unfold State.createPoint
  refine Burns.ite_fst (fun _ => ?_) fun _ => Burns.refl s
  split
  · refine Burns.ite_fst (fun _ => Burns.refl s) fun _ => Burns.ite_fst (fun _ => Burns.refl s) fun _ => ?_
    exact Burns.ite_fst (fun _ => burns_editPoints s _ _) fun _ => Burns.refl s
  · exact Burns.refl s

theorem burns_writePoint (s : State) (key : Word) (items : List Item) : Burns p q r s (s.writePoint key items).1 := by
  unfold State.writePoint
  split
  · exact Burns.refl s
  · refine Burns.ite_fst (fun _ => Burns.ite_fst (fun _ => Burns.refl s) fun _ => ?_) fun _ => Burns.refl s
    exact burns_editPoints s _ _

theorem burns_retirePoint (s : State) (key : Word) (zone : Byte) : Burns p q r s (s.retirePoint key zone).1 := by
  unfold State.retirePoint
  split
  · exact Burns.refl s
  · exact burns_editPoints s _ _

theorem burns_afterHold (h : t.boiler = s.boiler) (z : Fin 17) : Burns p q r s (t.afterHold z s) :=
  burns_evaluateFrom_of ((t.resolve_boiler z).trans h) s

theorem burns_createHold (s : State) (items : List Item) : Burns p q r s (s.createHold items).1 := by
  unfold State.createHold
  refine Burns.ite_fst (fun _ => ?_) fun _ => Burns.refl s
  split
  · exact Burns.ite_fst (fun _ => Burns.refl s) fun _ => burns_afterHold (s.push_boiler _ _ _ _ _) _
  · exact Burns.refl s

theorem burns_writeHold (s : State) (key : Word) (items : List Item) : Burns p q r s (s.writeHold key items).1 := by
  unfold State.writeHold
  split
  · exact Burns.refl s
  · exact Burns.ite_fst (fun _ => burns_afterHold (s.putHold_boiler _ _) _) fun _ => Burns.refl s

theorem burns_retireHold (s : State) (key : Word) : Burns p q r s (s.retireHold key).1 := by
  refine Burns.ite_fst (fun _ => Burns.refl s) fun _ => ?_
  split
  · exact Burns.refl s
  · exact burns_afterHold (s.dropHold_boiler _ _) _

theorem burns_writeRoom (s : State) (z : Fin 16) (items : List Item) : Burns p q r s (s.writeRoom z items).1 :=
  Burns.ite_fst (fun _ => burns_evaluateFrom_of (s.storeRoom_boiler z items) s) fun _ => Burns.refl s

theorem burns_writeCylinder (s : State) (items : List Item) : Burns p q r s (s.writeCylinder items).1 := by
  have hstored := s.storeCylinder_boiler items
  refine Burns.ite_fst (fun _ => ?_) fun _ => Burns.refl s
  exact Burns.ite (fun _ => burns_evaluate_of hstored) fun _ => burns_evaluateFrom_of hstored s

theorem burns_writeZone (s : State) (key : Word) (items : List Item) : Burns p q r s (s.writeZone key items).1 := by
  unfold State.writeZone
  split
  · split
    · exact burns_writeRoom s _ items
    · exact burns_writeCylinder s items
  · exact Burns.refl s

theorem burns_writeHouse (s : State) (key : Word) (items : List Item) : Burns p q r s (s.writeHouse key items).1 := by
  refine Burns.ite_fst (fun _ => Burns.refl s) fun _ => Burns.ite_fst (fun _ => ?_) fun _ => Burns.refl s
  have hstored : (s.setHouse (s.house.store items)).resolveRooms.boiler = s.boiler := State.resolveRooms_boiler _
  exact Burns.ite (fun _ => burns_evaluateFrom_of hstored s) fun _ => Burns.of_boiler rfl

theorem burns_setMode (s : State) (mode : Byte) (countdown : Word) : Burns p q r s (s.setMode mode countdown).1 := by
  have henter : ∀ m c, Burns p q r s (s.enterMode m c) := fun m c =>
    Burns.ite (fun _ => Burns.of_boiler rfl) fun _ => burns_evaluateFrom_of (s.changeMode_boiler m c) s
  unfold State.setMode
  split
  · exact Burns.refl s
  · exact Burns.ite_fst (fun _ => burns_evaluateFrom_of (s.wake_boiler _) s) fun _ => Burns.refl s
  · exact henter _ _
  · exact henter _ _

theorem burns_setClock (s : State) (time : Word) : Burns p q r s (s.setClock time).1 := by
  have hresolved : (((s.startClock time.toNat).takePointChanges s.clock.timeOfWeek).resolveAll).boiler = s.boiler := by
    rw [State.resolveAll_boiler, State.takePointChanges_boiler, State.startClock]
  refine Burns.ite_fst (fun _ => Burns.refl s) fun _ => ?_
  dsimp only
  exact burns_evaluateFrom_of hresolved s

theorem burns_admitDevice (s : State) (serial : BitVec 32) (zone : Byte) : Burns p q r s (s.admitDevice serial zone).1 := by
  have hadmit : ∀ i e z, Burns p q r s (s.admitAt i e z) := fun i e z =>
    burns_evaluateFrom_of ((State.joinForcing_boiler _ i).trans (s.admitRecord_boiler i e z)) s
  unfold State.admitDevice
  split
  · exact Burns.refl s
  split
  · exact Burns.refl s
  split
  · exact Burns.refl s
  exact Burns.ite_fst (fun _ => Burns.refl s) fun _ => hadmit _ _ _

theorem burns_writeDevice (s : State) (key : Word) (items : List Item) : Burns p q r s (s.writeDevice key items).1 := by
  have hrebind : ∀ i d z, Burns p q r s (s.rebind i d z) := fun i d z => burns_evaluateFrom_of (by simp) s
  unfold State.writeDevice
  split
  · unfold State.rebindOr
    split
    · exact Burns.refl s
    · refine Burns.ite_fst (fun _ => Burns.refl s) fun _ => Burns.ite_fst (fun _ => Burns.refl s) fun _ => ?_
      exact Burns.ite_fst (fun _ => Burns.refl s) fun _ => hrebind _ _ _
  · exact Burns.refl s

theorem burns_retireDevice (s : State) (key : Word) : Burns p q r s (s.retireDevice key).1 := by
  have hretire : ∀ i d, Burns p q r s (s.retire i d) := fun i d => by
    refine burns_evaluateFrom_of ?_ s
    split <;> simp
  unfold State.retireDevice
  split
  · exact Burns.ite_fst (fun _ => Burns.refl s) fun _ => hretire _ _
  · exact Burns.refl s

theorem burns_retireJoin (s : State) (key : Word) : Burns p q r s (s.retireJoin key).1 := by
  unfold State.retireJoin
  split
  · exact Burns.of_boiler rfl
  · exact Burns.refl s

theorem burns_writeMotor (s : State) (key : Word) (items : List Item) : Burns p q r s (s.writeMotor key items).1 := by
  refine Burns.ite_fst (fun _ => Burns.refl s) fun _ => Burns.ite_fst (fun _ => ?_) fun _ => Burns.refl s
  exact Burns.ite_fst (fun _ => Burns.refl s) fun _ => Burns.of_boiler rfl

theorem burns_runLine (s : State) : Burns p q r s s.runLine.1 := by
  unfold State.runLine
  split
  · exact Burns.of_boiler s.startLine_boiler
  all_goals exact Burns.refl s

theorem burns_stop (s : State) : Burns p q r s s.stop.1 := by
  unfold State.stop
  split
  · exact Burns.refl s
  all_goals exact burns_evaluateFrom_of s.stopLine_boiler s

theorem burns_seek (s : State) (kind : RecordKind) : Burns p q r s (s.seek kind).1 :=
  Burns.ite_fst (fun _ => Burns.of_boiler rfl) fun _ => Burns.refl s

theorem burns_readRecord (s : State) (kind : RecordKind) (key : Word) (view first zone : Byte) :
    Burns p q r s (s.readRecord kind key view first zone).1 := by
  unfold State.readRecord
  split
  · exact Burns.refl s
  · exact Burns.refl s
  · exact Burns.ite_fst (fun _ => Burns.of_boiler (s.afterRead_boiler kind key)) fun _ => Burns.refl s

theorem burns_nextRecord (s : State) (view first : Byte) : Burns p q r s (s.nextRecord view first).1 := by
  unfold State.nextRecord
  split
  · exact Burns.refl s
  split
  · unfold State.returnNext
    split
    · exact Burns.ite_fst (fun _ => Burns.of_boiler (s.afterRead_boiler _ _)) fun _ => Burns.refl s
    all_goals exact Burns.refl s
  · exact Burns.refl s

/-- A WRITE of the boiler record stops no burner within tBON unless it carries a new tBON, and it starts one only by its
evaluation (R103). -/
theorem burns_storeBoiler (s : State) (items : List Item) (hq : q → carries items 11 = false) (hr : r → s.boiler.burner ≠ .firing) :
    Burns p q r s (s.storeBoiler items) := by
  obtain ⟨hburner, -, -, htimers⟩ := s.boilerWritten_moves items
  have hpulse : (s.boilerWritten items).boiler.pulse = s.boiler.pulse := by
    rw [State.boilerWritten_boiler, State.boilerShortened_frame, State.boilerStored_boiler]
  rw [State.storeBoiler_eq]
  refine Burns.evaluate ⟨fun _ hb _ => ⟨?_, hpulse⟩, fun hw hb hon => ⟨?_, ?_⟩, fun hw _ hb => ?_⟩
  · rw [hburner, if_neg fun h => by simp [hb] at h]
    exact hb
  · exact (s.boilerWritten_firing items).2 hb
  · have hmin := (htimers (by simp [hb])).1
    obtain ⟨a, ha⟩ := Option.isSome_iff_exists.1 hon
    rw [hmin, ha]
    exact Option.filter_some_pos (by simp [State.ranOut, hq hw])
  · exact absurd ((s.boilerWritten_firing items).1 hb) (hr hw)

theorem burns_writeBoiler (s : State) (key : Word) (items : List Item) (hq : q → carries items 11 = false)
    (hr : r → s.boiler.burner ≠ .firing) : Burns p q r s (s.writeBoiler key items).1 := by
  refine Burns.ite_fst (fun _ => Burns.refl s) fun _ => Burns.ite_fst (fun _ => ?_) fun _ => Burns.refl s
  exact Burns.ite (fun _ => Burns.refl s) fun _ => burns_storeBoiler s items hq hr

/-- BOILER RESET starts no pulse where one runs (R116). -/
theorem burns_boilerReset (s : State) : Burns p q r s s.boilerReset.1 := by
  refine Burns.ite_fst (fun hb => Burns.ite_fst (fun _ => Burns.refl s) fun hno => ?_) fun _ => Burns.refl s
  refine Burns.ite_fst (fun _ => ⟨fun _ _ hpulse => absurd hpulse hno, fun _ hfire => ?_, fun _ hs => hs⟩) fun _ => Burns.refl s
  rw [hb] at hfire; cases hfire

theorem burns_warm (hp : ¬ p) (hq : ¬ q) (s : State) : Burns p q r s s.warm := by
  refine Burns.of_stop (fun h => absurd h hp) hq ?_
  change s.boiler.warmBurner ≠ .firing
  unfold Boiler.warmBurner
  split <;> exact Burner.noConfusion

/-! ### Events of the boiler -/

theorem exec_boilerTimer_burns (s : State) {c : Instr} (hq : q → c ≠ .tbonExpiry) (h : c = .outdoorHoldExpiry ∨
    c = .sensorRecoveryExpiry ∨ c = .tboffExpiry ∨ c = .tbonExpiry ∨ c = .waitFlowExpiry ∨ c = .pumpOverrunExpiry) :
    ∃ t, exec c s = .next t ∧ Burns p q r s t := by
  rcases h with rfl | rfl | rfl | rfl | rfl | rfl <;> refine ⟨_, rfl, ?_⟩
  · split
    · exact Burns.evaluate (Boiler.SameBurner.burns ⟨rfl, rfl, rfl, rfl, rfl⟩)
    · exact Burns.refl s
  · split
    · next hb _ => exact Burns.evaluate (Burns.of_idle (by simp [hb]) (by simp [hb]) Burner.noConfusion)
    · exact Burns.refl s
  · exact Burns.ite (fun hb => Burns.evaluate (Burns.of_idle (by simp [hb.2]) (by simp [hb.2]) Burner.noConfusion))
      fun _ => Burns.refl s
  · split
    · next hb _ =>
      refine Burns.evaluate ⟨fun _ hlocked => ?_, fun hw => absurd rfl (hq hw), fun _ hs => hs⟩
      rw [hb] at hlocked; cases hlocked
    · exact Burns.refl s
  · split
    · exact Burns.evaluate (Boiler.SameBurner.burns ⟨rfl, rfl, rfl, rfl, rfl⟩)
    · exact Burns.refl s
  · split
    · refine Burns.ite (fun _ => burns_evaluate_of rfl) fun _ => Burns.evaluate ?_
      exact Boiler.SameBurner.burns ⟨rfl, rfl, rfl, rfl, rfl⟩
    · exact Burns.refl s

theorem exec_lockout_burns (s : State) {c : Instr} (hp : p → c ≠ .lockoutResetPulseEnd)
    (hq : q → s.boiler.pulse = none ∧ c ≠ .lockoutAssert)
    (h : c = .lockoutAssert ∨ c = .lockoutRelease ∨ c = .lockoutResetPulseEnd) :
    ∃ t, exec c s = .next t ∧ Burns p q r s t := by
  have hpin : ∀ b : Bool, Burns p q r s (s.setBoiler { s.boiler with lockoutPin := b }) := fun _ =>
    Boiler.SameBurner.burns ⟨rfl, rfl, rfl, rfl, rfl⟩
  rcases h with rfl | rfl | rfl <;> refine ⟨_, rfl, ?_⟩
  · refine Burns.ite (fun hb => Burns.evaluate ?_) fun _ => hpin true
    exact Burns.of_stop (fun _ hlocked _ => hb.2 hlocked) (fun hw => (hq hw).2 rfl) Burner.noConfusion
  · refine Burns.ite (fun hb => Burns.evaluate ?_) fun _ => hpin false
    obtain ⟨-, hlocked, hnone⟩ := hb
    refine ⟨fun _ _ hpulse => ?_, fun _ hfire => ?_, fun _ _ hfire => absurd hfire (State.endLockout_ne_firing _)⟩
    · simp [hnone] at hpulse
    · rw [hlocked] at hfire; cases hfire
  · split
    · next a ha =>
      have hno : ¬ q := fun hw => by rw [(hq hw).1] at ha; cases ha
      have hended : ¬ p := fun hw => hp hw rfl
      refine Burns.ite (fun _ => ⟨fun hw => absurd hw hended, fun hw => absurd hw hno, fun _ hs => hs⟩) fun _ => ?_
      exact Burns.evaluate (Burns.of_stop (fun hw => absurd hw hended) hno (State.endLockout_ne_firing _))
    · exact Burns.refl s

theorem exec_cylinderTimer_burns (s : State) {c : Instr} (h : c = .tprioExpiry ∨ c = .tgapExpiry ∨ c = .cylinderRecoveryExpiry) :
    ∃ t, exec c s = .next t ∧ Burns p q r s t := by
  rcases h with rfl | rfl | rfl <;> refine ⟨_, rfl, ?_⟩
  · split
    · exact burns_evaluate_of (State.prioExpires_boiler _)
    · exact Burns.refl s
  · split
    · exact burns_evaluate_of (State.gapExpires_boiler _)
    · exact Burns.refl s
  · split
    · exact burns_evaluate_of (State.toIdle_boiler _)
    · exact Burns.refl s

/-! ### Ticks, slots and the line -/

theorem exec_sensorSample_burns (s : State) (tflow tout tcyl : Int)
    (hq : q → ¬ badReading tflow ∧ ¬ s.boiler.config.flowMax + 50 ≤ tflow) :
    ∃ t, exec (.sensorSample tflow tout tcyl) s = .next t ∧ Burns p q r s t := by
  refine ⟨_, rfl, ?_⟩
  split
  · exact Burns.refl s
  · next due _ =>
    refine Burns.ite (fun _ => ?_) fun _ => Burns.of_boiler rfl
    exact (burns_takeSample (s.advanceSample due) tflow tout tcyl hq).from_boiler rfl

theorem burns_zoneTick (s : State) (z : Fin 16) : Burns p q r s (s.zoneTick z) := by
  refine Burns.ite (fun _ => burns_evaluate_of ?_) fun _ => burns_evaluateFrom_of (by simp [State.tickDisabled]) s
  simp [State.tickEnabled]

theorem exec_tick_burns (s : State) {c : Instr} (h : c = .minuteTick ∨ c = .controlTick ∨ (∃ z, c = .zoneControlTick z) ∨
    c = .hourCountAdvance) : ∃ t, exec c s = .next t ∧ Burns p q r s t := by
  rcases h with rfl | rfl | ⟨z, rfl⟩ | rfl <;> refine ⟨_, rfl, ?_⟩
  · split
    · exact Burns.refl s
    · next n _ =>
      exact Burns.ite (fun _ => (burns_minuteTick (s.advanceMinute n)).from_boiler rfl) fun _ => Burns.of_boiler rfl
  · split
    · exact Burns.refl s
    · exact Burns.ite (fun _ => Burns.of_boiler rfl) fun _ => Burns.of_boiler rfl
  · exact Burns.ite (fun _ => (burns_zoneTick s z).to_boiler rfl) fun _ => Burns.refl s
  · exact Burns.ite (fun _ => Burns.of_boiler (State.advanceHour_boiler _)) fun _ => Burns.refl s

theorem exec_expiry_burns (s : State) {c : Instr} (h : (∃ n, c = .holdCountdownExpiry n) ∨ c = .returnCountdownExpiry ∨
    c = .startListEntryExpiry ∨ ∃ n, c = .joinEntryExpiry n) : ∃ t, exec c s = .next t ∧ Burns p q r s t := by
  rcases h with ⟨n, rfl⟩ | rfl | rfl | ⟨n, rfl⟩ <;> refine ⟨_, rfl, Burns.ite (fun _ => ?_) fun _ => Burns.refl s⟩
  · unfold State.expireHold
    split
    · exact Burns.ite (fun _ => burns_evaluate_of (by rw [State.resolveAll_boiler]; rfl)) fun _ => Burns.refl s
    · exact Burns.refl s
  · exact Burns.ite (fun _ => burns_evaluateFrom_of (by rw [State.returnEnds_boiler]; rfl) s) fun _ => Burns.refl s
  · exact Burns.ite (fun _ => (burns_tickStarts (s.takeEarly { s.clock.taken with starts := true })).from_boiler rfl) fun _ => Burns.refl s
  · unfold State.expireJoin
    split
    · exact Burns.ite (fun _ => Burns.of_boiler rfl) fun _ => Burns.refl s
    · exact Burns.refl s

theorem exec_slot_burns (s : State) {c : Instr} (h : (∃ i, c = .deviceSlotBegin i) ∨ (∃ i b, c = .deviceSlotEnd i b) ∨
    (∃ i, c = .grantTimeout i) ∨ c = .groupSlot ∨ c = .joinSlot ∨ ∃ b, c = .joinReq b) :
    ∃ t, exec c s = .next t ∧ Burns p q r s t := by
  rcases h with ⟨i, rfl⟩ | ⟨i, b, rfl⟩ | ⟨i, rfl⟩ | rfl | rfl | ⟨b, rfl⟩ <;> refine ⟨_, rfl, ?_⟩
  · exact Burns.ite (fun _ => burns_evaluateFrom_of (by rw [State.serveSlot_boiler]; rfl) s) fun _ => Burns.refl s
  · exact Burns.ite (fun _ => burns_evaluateFrom_of (by rw [State.takeSlot_boiler]; rfl) s) fun _ => Burns.refl s
  · split
    · split
      · exact burns_evaluateFrom_of (by rw [State.endFailed_boiler]; rfl) s
      · exact Burns.refl s
    · exact Burns.refl s
  · exact Burns.ite (fun _ => Burns.of_boiler (State.serveGroup_boiler _)) fun _ => Burns.refl s
  · exact Burns.ite (fun _ => Burns.of_boiler (State.serveJoin_boiler _)) fun _ => Burns.refl s
  · refine Burns.ite (fun _ => ?_) fun _ => Burns.refl s
    dsimp only
    split
    · exact burns_evaluateFrom_of (by rw [State.takeJoin_boiler]; rfl) s
    · exact Burns.of_boiler rfl

theorem exec_line_burns (s : State) {c : Instr} (h : c = .overcurrent ∨ c = .lineFaultRecoveryExpiry ∨ c = .cycleBegin ∨
    ∃ k, c = .windowBoundary k) : ∃ t, exec c s = .next t ∧ Burns p q r s t := by
  rcases h with rfl | rfl | rfl | ⟨k, rfl⟩ <;> refine ⟨_, rfl, ?_⟩
  · exact Burns.ite (fun _ => burns_evaluateFrom_of s.faultLine_boiler s) fun _ => Burns.refl s
  · split
    · exact Burns.of_boiler (State.startLine_boiler _)
    · exact Burns.refl s
  · exact Burns.ite (fun _ => Burns.of_boiler (State.newCycle_boiler _)) fun _ => Burns.refl s
  · exact Burns.ite (fun _ => Burns.of_boiler (State.takeBoundary_boiler _)) fun _ => Burns.refl s

end Sys2Proof.Machine

/-! Every step's effect on the burner, and what follows for the reset pulse, for tBON and for the start limit (R112 to R117). -/

namespace Sys2Proof.Machine

variable {s t : State} {c : Instr}

/-! ### Every command and event -/

/-- The event neither ends the reset pulse nor resets the boiler. -/
def leavesPulse (c : Instr) : Prop := c ≠ .lockoutResetPulseEnd ∧ c ≠ .warmReset ∧ c ≠ .powerOnReset

/-- What may stop a burner within tBON: its expiry or a new tBON, a TF sample out of range or at the high limit, LOCKOUT, or
a reset (R102, R103, R113 to R115, R126). -/
def State.mayStop (s : State) (c : Instr) : Prop :=
  c = .tbonExpiry ∨ c = .lockoutAssert ∨ c = .warmReset ∨ c = .powerOnReset ∨
    (∃ key items, c = .writeBoiler key items ∧ carries items 11 = true) ∨
    ∃ a b d : Int, c = .sensorSample a b d ∧ (a < -400 ∨ 1100 < a ∨ s.boiler.config.flowMax + 50 ≤ a)

/-- The burner is left to fire: READY is set, no reset pulse runs, and the event is none that may stop it. -/
def State.spares (s : State) (c : Instr) : Prop := s.time.ready = true ∧ s.boiler.pulse = none ∧ ¬ s.mayStop c

theorem State.spares_sample {a b d : Int} (h : s.spares (.sensorSample a b d)) :
    ¬ badReading a ∧ ¬ s.boiler.config.flowMax + 50 ≤ a := by
  obtain ⟨-, -, hno⟩ := h
  have hkeeps : ¬ (a < -400 ∨ 1100 < a ∨ s.boiler.config.flowMax + 50 ≤ a) := fun h =>
    hno (.inr (.inr (.inr (.inr (.inr ⟨a, b, d, rfl, h⟩)))))
  unfold badReading
  omega

theorem State.spares_write {key : Word} {items : List Item} (h : s.spares (.writeBoiler key items)) : carries items 11 = false := by
  obtain ⟨-, -, hno⟩ := h
  exact Bool.eq_false_iff.2 fun hc => hno (.inr (.inr (.inr (.inr (.inl ⟨key, items, rfl, hc⟩)))))

theorem State.spares_warm : ¬ s.spares .warmReset := fun ⟨_, _, hno⟩ => hno (.inr (.inr (.inl rfl)))

theorem State.spares_powerOn : ¬ s.spares .powerOnReset := fun ⟨_, _, hno⟩ => hno (.inr (.inr (.inr (.inl rfl))))

/-- Every command and event, with what it makes of the burner. -/
theorem exec_burns (c : Instr) (s : State) :
    ∃ t, exec c s = .next t ∧ Burns (leavesPulse c) (s.spares c) (s.boiler.burner ≠ .firing) s t := by
  cases c with
  | powerOnReset =>
    refine ⟨_, rfl, Burns.of_stop (fun h => absurd rfl h.2.2) State.spares_powerOn ?_⟩
    exact Burner.noConfusion
  | readySet a b d =>
    refine ⟨_, rfl, Burns.ite (fun _ => Burns.refl s) fun h => ?_⟩
    have hno : ¬ s.spares (.readySet a b d) := fun hw => h (.inl hw.1)
    exact Burns.ite (fun _ => burns_warmReady hno s a b d) fun _ => burns_firstReady hno s a b d
  | frameCrcError bytes =>
    refine ⟨_, rfl, burns_takeFrame s fun t _ => ?_⟩
    exact Burns.of_boiler (State.raiseIf_boiler _ _ _)
  | shortFrame bytes =>
    exact ⟨_, rfl, Burns.ite (fun _ => Burns.of_boiler rfl) fun _ => burns_takeFrame s fun t _ => Burns.of_boiler rfl⟩
  | frameWhileNotReady => exact ⟨_, rfl, Burns.ite (fun _ => Burns.of_boiler rfl) fun _ => Burns.refl s⟩
  | nop => exact ⟨_, rfl, burns_takeFrame s fun t _ => Burns.of_boiler rfl⟩
  | read kind key view first zone => exact ⟨_, rfl, burns_command s _ fun t _ => burns_readRecord t kind key view first zone⟩
  | writeZone key items => exact ⟨_, rfl, burns_command s _ fun t _ => burns_writeZone t key items⟩
  | enable z => exact ⟨_, rfl, burns_command s _ fun t _ => burns_writeRoom t z _⟩
  | disable z => exact ⟨_, rfl, burns_command s _ fun t _ => burns_writeRoom t z _⟩
  | zwEnable => exact ⟨_, rfl, burns_command s _ fun t _ => burns_writeCylinder t _⟩
  | zwDisable => exact ⟨_, rfl, burns_command s _ fun t _ => burns_writeCylinder t _⟩
  | createPoint key items => exact ⟨_, rfl, burns_command s _ fun t _ => burns_createPoint t key items⟩
  | writePoint key items => exact ⟨_, rfl, burns_command s _ fun t _ => burns_writePoint t key items⟩
  | retirePoint key zone => exact ⟨_, rfl, burns_command s _ fun t _ => burns_retirePoint t key zone⟩
  | createHold items => exact ⟨_, rfl, burns_command s _ fun t _ => burns_createHold t items⟩
  | writeHold key items => exact ⟨_, rfl, burns_command s _ fun t _ => burns_writeHold t key items⟩
  | retireHold key => exact ⟨_, rfl, burns_command s _ fun t _ => burns_retireHold t key⟩
  | writeHouse key items => exact ⟨_, rfl, burns_command s _ fun t _ => burns_writeHouse t key items⟩
  | writeBoiler key items =>
    exact ⟨_, rfl, burns_command s _ fun t ht => burns_writeBoiler t key items State.spares_write fun h => by rwa [ht]⟩
  | writeDevice key items => exact ⟨_, rfl, burns_command s _ fun t _ => burns_writeDevice t key items⟩
  | retireDevice key => exact ⟨_, rfl, burns_command s _ fun t _ => burns_retireDevice t key⟩
  | retireJoin key => exact ⟨_, rfl, burns_command s _ fun t _ => burns_retireJoin t key⟩
  | writeMotor key items => exact ⟨_, rfl, burns_command s _ fun t _ => burns_writeMotor t key items⟩
  | seek kind => exact ⟨_, rfl, burns_command s _ fun t _ => burns_seek t kind⟩
  | next view first => exact ⟨_, rfl, burns_command s _ fun t _ => burns_nextRecord t view first⟩
  | admitDevice serial zone => exact ⟨_, rfl, burns_command s _ fun t _ => burns_admitDevice t serial zone⟩
  | setClock time => exact ⟨_, rfl, burns_command s _ fun t _ => burns_setClock t time⟩
  | setMode mode countdown => exact ⟨_, rfl, burns_command s _ fun t _ => burns_setMode t mode countdown⟩
  | run => exact ⟨_, rfl, burns_command s _ fun t _ => burns_runLine t⟩
  | stop => exact ⟨_, rfl, burns_command s _ fun t _ => burns_stop t⟩
  | boilerReset => exact ⟨_, rfl, burns_command s _ fun t _ => burns_boilerReset t⟩
  | readNotices => exact ⟨_, rfl, burns_command s _ fun t _ => Burns.of_boiler rfl⟩
  | writeNoticeEnables mask => exact ⟨_, rfl, burns_command s _ fun t _ => Burns.of_boiler rfl⟩
  | warmReset => exact ⟨_, rfl, burns_command s _ fun t _ => burns_warm (fun h => h.2.1 rfl) State.spares_warm t⟩
  | minuteTick => exact exec_tick_burns s (by simp)
  | holdCountdownExpiry handle => exact exec_expiry_burns s (by simp)
  | returnCountdownExpiry => exact exec_expiry_burns s (by simp)
  | hourCountAdvance => exact exec_tick_burns s (by simp)
  | startListEntryExpiry => exact exec_expiry_burns s (by simp)
  | joinEntryExpiry number => exact exec_expiry_burns s (by simp)
  | controlTick => exact exec_tick_burns s (by simp)
  | zoneControlTick z => exact exec_tick_burns s (by simp)
  | sensorSample a b d => exact exec_sensorSample_burns s a b d State.spares_sample
  | outdoorHoldExpiry => exact exec_boilerTimer_burns s (fun _ => Instr.noConfusion) (by simp)
  | sensorRecoveryExpiry => exact exec_boilerTimer_burns s (fun _ => Instr.noConfusion) (by simp)
  | tboffExpiry => exact exec_boilerTimer_burns s (fun _ => Instr.noConfusion) (by simp)
  | tbonExpiry => exact exec_boilerTimer_burns s (fun h => absurd (.inl rfl) h.2.2) (by simp)
  | waitFlowExpiry => exact exec_boilerTimer_burns s (fun _ => Instr.noConfusion) (by simp)
  | pumpOverrunExpiry => exact exec_boilerTimer_burns s (fun _ => Instr.noConfusion) (by simp)
  | lockoutAssert =>
    exact exec_lockout_burns s (fun h => h.1) (fun h => ⟨h.2.1, fun _ => h.2.2 (.inr (.inl rfl))⟩) (by simp)
  | lockoutRelease => exact exec_lockout_burns s (fun h => h.1) (fun h => ⟨h.2.1, Instr.noConfusion⟩) (by simp)
  | lockoutResetPulseEnd => exact exec_lockout_burns s (fun h => h.1) (fun h => ⟨h.2.1, Instr.noConfusion⟩) (by simp)
  | tprioExpiry => exact exec_cylinderTimer_burns s (by simp)
  | tgapExpiry => exact exec_cylinderTimer_burns s (by simp)
  | cylinderRecoveryExpiry => exact exec_cylinderTimer_burns s (by simp)
  | wakeInputEdge =>
    exact ⟨_, rfl, Burns.ite (fun _ => burns_evaluateFrom_of (s.wake_boiler _) s) fun _ => Burns.refl s⟩
  | cycleBegin => exact exec_line_burns s (by simp)
  | windowBoundary k => exact exec_line_burns s (by simp)
  | deviceSlotBegin i => exact exec_slot_burns s (by simp)
  | deviceSlotEnd i r => exact exec_slot_burns s (by simp)
  | grantTimeout i => exact exec_slot_burns s (by simp)
  | groupSlot => exact exec_slot_burns s (by simp)
  | joinSlot => exact exec_slot_burns s (by simp)
  | joinReq r => exact exec_slot_burns s (by simp)
  | overcurrent => exact exec_line_burns s (by simp)
  | lineFaultRecoveryExpiry => exact exec_line_burns s (by simp)
  | frameBegin => exact ⟨_, rfl, Burns.of_boiler rfl⟩
  | resetnRelease => exact ⟨_, rfl, Burns.ite (fun _ => Burns.refl s) fun _ => Burns.of_boiler rfl⟩
  | badCommand command kind => exact ⟨_, rfl, burns_command s _ fun t _ => Burns.refl t⟩

theorem burns_of_exec (h : exec c s = .next t) : Burns (leavesPulse c) (s.spares c) (s.boiler.burner ≠ .firing) s t := by
  obtain ⟨u, hu, hburns⟩ := exec_burns c s
  cases hu.symm.trans h
  exact hburns

/-! ### BOILER RESET -/

theorem exec_boilerReset_starts (h : s.takes) (hb : s.boiler.burner = .lockedOut) (hp : s.boiler.pulse = none)
    (ha : s.boiler.attempts ≤ 2) : exec .boilerReset s =
      .next (State.bare { s.received .boilerReset with boiler := { s.boiler with pulse := some s.time.now } } .boilerReset .ok) := by
  have hbody : (s.received .boilerReset).boilerReset =
      ({ s.received .boilerReset with boiler := { s.boiler with pulse := some s.time.now } }, .plain .ok) := by
    have hfew : s.boiler.attempts < 3 := by omega
    unfold State.boilerReset
    rw [if_pos (show (s.received .boilerReset).boiler.burner = .lockedOut from hb), if_neg (by simp [State.received, hp]),
      if_pos (show (s.received .boilerReset).boiler.attempts < 3 from hfew)]
    rfl
  have hexec : exec .boilerReset s = .next (s.command .boilerReset State.boilerReset) := rfl
  rw [hexec, State.command_of_takes h, hbody]
  rfl

/-- A BOILER RESET that leaves the boiler: ignored while a pulse runs, else refused (R116). -/
theorem exec_boilerReset_leaves {v : Result} (h : s.takes)
    (hbody : (s.received .boilerReset).boilerReset = (s.received .boilerReset, .plain v)) :
    exec .boilerReset s = .next ((s.received .boilerReset).bare .boilerReset v) := by
  have hexec : exec .boilerReset s = .next (s.command .boilerReset State.boilerReset) := rfl
  rw [hexec, State.command_of_takes h, hbody]
  rfl

theorem State.boilerReset_pulsing (hb : s.boiler.burner = .lockedOut) (hp : s.boiler.pulse.isSome) :
    s.boilerReset = (s, .plain .ok) := by
  rw [State.boilerReset, if_pos hb, if_pos hp]

theorem State.boilerReset_spent (hb : s.boiler.burner = .lockedOut) (hp : s.boiler.pulse = none) (ha : 3 ≤ s.boiler.attempts) :
    s.boilerReset = (s, .plain .state) := by
  rw [State.boilerReset, if_pos hb, if_neg (by simp [hp]), if_neg (by omega)]
  rfl

theorem State.boilerReset_unlocked (hb : s.boiler.burner ≠ .lockedOut) : s.boilerReset = (s, .plain .state) := by
  rw [State.boilerReset, if_neg hb]
  rfl

theorem exec_warmReset_pulse (h : s.takes) (he : exec .warmReset s = .next t) :
    t.bresetPin = false ∧ t.boiler.attempts = s.boiler.attempts := by
  have hexec : exec .warmReset s = .next (s.command .warmReset (fun t => (t.warm, .plain .ok))) := rfl
  rw [hexec, State.command_of_takes h] at he
  cases he
  exact ⟨rfl, rfl⟩

/-- The pulse ends tRST after its start, whatever LOCKOUT says (R117). -/
theorem exec_pulseEnd_ends {a : Nat} (ha : s.boiler.pulse = some a) : ∃ t : State, exec .lockoutResetPulseEnd s = .next t ∧
    t.time.now = max s.time.now (a + 5000) ∧ t.boiler.pulse = none ∧ t.bresetPin = false := by
  rw [exec_pulseEnd ha]
  split
  · exact ⟨_, rfl, rfl, rfl, rfl⟩
  · obtain ⟨htime, -, hpulse, -⟩ := (s.pulseEnded a).evaluate_endLockout
    have hnone : (s.pulseEnded a).endLockout.evaluate.boiler.pulse = none := hpulse
    exact ⟨_, rfl, by rw [htime]; rfl, hnone, by rw [State.bresetPin, hnone]; rfl⟩

/-- Settles O28: BOILER RESET case by case, and the pulse runs on because no event but its end and a reset takes it
(`exec_burns`). -/
theorem boilerResetStartsPulse : Obligations.BoilerResetStartsPulse := by
  refine ⟨fun s h => ⟨exec_boilerReset_starts h, fun hb hp => ?_, fun hb hp ha => ?_, fun hb => ?_⟩, fun s hb hp => ⟨?_, ?_⟩,
    fun s t h => exec_warmReset_pulse h, fun s a => exec_pulseEnd_ends, fun c s t hb hp h hend hwarm hpower => ?_, fun s => Iff.rfl⟩
  · exact exec_boilerReset_leaves h (State.boilerReset_pulsing (s := s.received .boilerReset) hb hp)
  · exact exec_boilerReset_leaves h (State.boilerReset_spent (s := s.received .boilerReset) hb hp ha)
  · exact exec_boilerReset_leaves h (State.boilerReset_unlocked (s := s.received .boilerReset) hb)
  · exact exec_lockoutAssert_locked hb
  · exact exec_lockoutRelease_stays fun _ => hp
  · exact (burns_of_exec h).locked ⟨hend, hwarm, hpower⟩ hb hp

/-! ### tBON and the start limit -/

/-- No reset pulse runs under a firing burner (R116). -/
theorem State.BoilerInv.pulse_of_firing (h : s.BoilerInv) (hb : s.boiler.burner = .firing) : s.boiler.pulse = none := by
  obtain ⟨-, -, -, -, hpulse, -, -, -⟩ := h
  by_contra hp
  cases hb.symm.trans (hpulse (Option.isSome_iff_ne_none.2 hp))

/-- Settles O60: an event that may not stop a firing burner leaves it to fire, and a burner starts only in an evaluation, which
reads the start limit (`exec_burns`). -/
theorem burnerStopsAndStarts : Obligations.BurnerStopsAndStarts := by
  refine ⟨fun c s t hr hinv hb hon h hstop => ?_, fun c s t hb h => ?_⟩
  · by_contra hno
    exact hstop ((burns_of_exec h).held ⟨hr, hinv.pulse_of_firing hb, hno⟩ hb hon).1
  · exact (burns_of_exec h).starts hb fun hfire => absurd hfire hb

end Sys2Proof.Machine
